-- ==== Sys2Proof/Word.lean ====
section
/-! DEFINITION. The word types of the device and their plainest arithmetic (spec 00_scope R5, R6, R13). -/

namespace Sys2Proof

/-- A register word as host software sees it: 32 bits, little-endian (R6). -/
abbrev Word := BitVec 32

/-- One byte: the smallest unit of host memory, DRAM, NAND and frames. -/
abbrev Byte := BitVec 8

/-- A sequence of bytes in stored or transmitted order (R11). -/
abbrev Bytes := List Byte

end Sys2Proof
end

