-- ==== Sys2Proof/Machine/Bytes.lean ====
section
/-! DEFINITION. Bit fields, sign extension and byte order (00_scope R5, R6, R11): the helpers that registers, records and frames are
read and written with. -/

namespace Sys2Proof

/-- A signed value carried in a `w`-bit field of a register or record. -/
def toSigned (w n : Nat) : Int :=
  if n % 2 ^ w < 2 ^ (w - 1) then Int.ofNat (n % 2 ^ w) else Int.ofNat (n % 2 ^ w) - Int.ofNat (2 ^ w)

/-- The `w`-bit two's-complement code of an integer. -/
def ofSigned (w : Nat) (z : Int) : Nat := (z % (2 ^ w : Int)).toNat

/-- Bits [hi:lo] of a number. -/
def bits (n hi lo : Nat) : Nat := (n >>> lo) % 2 ^ (hi + 1 - lo)

/-- Bit `k` of a number. -/
def bit (n k : Nat) : Bool := n.testBit k

/-- 1 for true, 0 for false. -/
def b2n (b : Bool) : Nat := if b then 1 else 0

/-- The number a byte string stands for, first byte least significant (R6, R11). -/
def leNat : Bytes → Nat
  | [] => 0
  | b :: bs => b.toNat + 256 * leNat bs

/-- The number a byte string stands for, first byte most significant. -/
def beNat (bs : Bytes) : Nat := bs.foldl (fun a b => a * 256 + b.toNat) 0

/-- `n` little-endian bytes of `v`. -/
def leBytes : Nat → Nat → Bytes
  | 0, _ => []
  | n + 1, v => BitVec.ofNat 8 v :: leBytes n (v / 256)

/-- `n` big-endian bytes of `v`. -/
def beBytes (n v : Nat) : Bytes := (leBytes n v).reverse

/-- `size` bytes of `bs` from offset `off`, read as zero beyond its end. -/
def slice (bs : Bytes) (off size : Nat) : Bytes :=
  let t := (bs.drop off).take size
  t ++ List.replicate (size - t.length) 0

/-- The little-endian field of `size` bytes at offset `off`. -/
def leField (bs : Bytes) (off size : Nat) : Nat := leNat (slice bs off size)

/-- `bs` with the bytes from `off` on replaced by `v` (within its length). -/
def putBytes (bs : Bytes) (off : Nat) (v : Bytes) : Bytes :=
  (bs.take off ++ v ++ bs.drop (off + v.length)).take bs.length

/-- `n` bytes, all `b`. -/
def fillBytes (n : Nat) (b : Byte) : Bytes := List.replicate n b

/-- A 32-bit saturating count (R8: counters saturate). -/
def satAdd32 (n k : Nat) : Nat := min (n + k) 0xFFFFFFFF

/-- Round up to a multiple of `m`. -/
def roundUp (n m : Nat) : Nat := (n + m - 1) / m * m

end Sys2Proof
end

