-- ==== Sys2Proof/Machine/Reg.lean ====
section
/-! DEFINITION. Register fields as the register tables of the spec give them (R6 to R8), and the one sorted
map from numbers to values in which the model keeps every sparse store (registers, host memory, tables). -/

namespace Sys2Proof.Machine

/-- The access codes of R8. -/
inductive Access where
  /-- read/write -/
  | rw
  /-- read-only; writes are ignored -/
  | ro
  /-- write-only; reads return 0 -/
  | wo
  /-- write 1 to clear -/
  | w1c
  /-- write 1 to set -/
  | w1s
  /-- read/write, sticky through warm reset -/
  | rws
  /-- read-only, sticky through warm reset -/
  | ros
  deriving DecidableEq, Repr

/-- One field of a register table: the base of its block in a die window (R372), the register's offset, the
stride and number of its copies, the bit range, the access code and the reset value. A reset value that the spec
gives per copy, die or variant is written `perDie k` and worked out by `State.resetOf`. -/
structure Field where
  base : Nat
  off : Nat
  stride : Nat
  count : Nat
  msb : Nat
  lsb : Nat
  acc : Access
  reset : Nat
  deriving DecidableEq, Repr

/-- A code, above every register value, for a reset value that is not one number. -/
def perDie (k : Nat) : Nat := 2 ^ 32 + k

/-- The width of a field in bits. -/
def Field.width (f : Field) : Nat := f.msb + 1 - f.lsb

/-- Fields of R8 that a warm reset leaves alone. -/
def Field.sticky (f : Field) : Bool := f.acc == .rws || f.acc == .ros

/-- The offset of copy `i` of a field's register within its die window. -/
def Field.dieOff (f : Field) (i : Nat) : Nat := f.base + f.off + f.stride * i

/-- The die window size of R9. -/
def dieWindow : Nat := 0x800000

/-- The key of copy `i` of a field on die `d`: its bit address in BAR0. -/
def Field.key (f : Field) (d i : Nat) : Nat := (d * dieWindow + f.dieOff i) * 32 + f.lsb

/-- The register blocks of R372; `ddr` and `hold` are firmware only (R373). -/
inductive Block where
  | sys | pwr | clk | evt | lock | age
  | sec | ledg | bal | que | arc | mirr | ddr | hif | eth | euf
  | rfa | rfb | rft | chn | dmd | tt | wmb | plc | slate | hold | gpio
  deriving DecidableEq, Repr

/-- A window of the PCI Express function: BAR0, or BAR2 or BAR4 of a port (R9, R202, R203). -/
inductive Bar where
  | regs
  | doorbell (port : Nat)
  | msix (port : Nat)
  deriving DecidableEq, Repr

/-- An address of the host: a window and the offset in it. -/
structure BusAddr where
  bar : Bar
  addr : Nat
  deriving DecidableEq, Repr

/-- The field's bits of a register value. -/
def Field.of (f : Field) (v : Nat) : Nat := v / 2 ^ f.lsb % 2 ^ f.width

/-- Which copy of the field's register lies at an offset of the die window. -/
def Field.copyAt (f : Field) (off : Nat) : Option Nat :=
  let b := f.base + f.off
  if off < b then none
  else if f.count = 1 then (if off = b then some 0 else none)
  else if (off - b) % f.stride = 0 ∧ (off - b) / f.stride < f.count then some ((off - b) / f.stride)
  else none

/-! ### Sorted maps -/

/-- A sparse store: (key, value) pairs, keys strictly rising. -/
abbrev SMap (α : Type) := List (Nat × α)

/-- The value at a key, if listed. -/
def smGet {α : Type} : SMap α → Nat → Option α
  | [], _ => none
  | (k, v) :: t, q => if q = k then some v else smGet t q

/-- Put a value at a key, in the order of the keys. -/
def smPut {α : Type} : SMap α → Nat → α → SMap α
  | [], q, w => [(q, w)]
  | (k, v) :: t, q, w =>
    if q = k then (q, w) :: t else if q < k then (q, w) :: (k, v) :: t else (k, v) :: smPut t q w

/-- Take a key out. -/
def smDel {α : Type} : SMap α → Nat → SMap α
  | [], _ => []
  | (k, v) :: t, q => if q = k then smDel t q else (k, v) :: smDel t q

/-- Put a value at a key, or take the key out where the value is what an unlisted key reads as. -/
def smSet {α : Type} [DecidableEq α] (m : SMap α) (dflt : α) (q : Nat) (w : α) : SMap α :=
  if w = dflt then smDel m q else smPut m q w

/-- The value at a key, the default where unlisted. -/
def smGetD {α : Type} (m : SMap α) (dflt : α) (q : Nat) : α := (smGet m q).getD dflt

end Sys2Proof.Machine
end

