-- ==== Sys2Proof/Machine/BootTypes.lean ====
section
/-! DEFINITION. The state of bring-up: boot flash, start log and bring-up of a die (16_bringup_rollcall), and the package
reset controller (11_substitute_redundancy R259). -/

namespace Sys2Proof.Machine

/-- A firmware image in a bank of the boot flash (R345): what its checks see of it. `signer` says whose key its
signatures verify under: 1 Tvedtil, 2 owner, otherwise nobody's. -/
structure Image where
  version : Nat
  svn : Nat
  signer : Nat
  /-- digest of the main firmware -/
  digest : Bytes
  /-- the main firmware's own signature verifies too -/
  mainOk : Bool := true
  deriving DecidableEq, Repr

/-- An entry of the start log (R352). -/
structure StartEnt where
  seq : Nat
  clock : Nat
  /-- 0 succeeded; 1 failed; 2 entered Remedial mode; 3 in progress -/
  result : Nat := 3
  stage : Nat := 0
  reason : Nat := 0
  bank : Nat := 0
  version : Nat := 0
  time : Nat := 0
  die : Nat := 0xFF
  deriving DecidableEq, Repr

/-- A register write of the configuration blob (R347): stage, die, offset in the die's window, value. -/
structure CfgWrite where
  stage : Nat
  die : Nat
  off : Nat
  value : Nat
  deriving DecidableEq, Repr

/-- The boot flashes of L0 and L1 (R345), which hold the same, and the start in progress. -/
structure Boot where
  /-- banks: 0 A, 1 B, 2 recovery -/
  images : SMap Image := []
  preferred : Nat := 0
  /-- the bank on trial (R353) -/
  trial : Option Nat := none
  /-- the bank that a restart command names for the next start (R354) -/
  named : Option Nat := none
  log : List StartEnt := []
  seqNext : Nat := 0
  /-- the start in progress, until it succeeds or fails -/
  current : Option StartEnt := none
  /-- start clocks of the failed starts, newest first -/
  fails : List Nat := []
  /-- the next start reports this failed start with L-005: reason and start number -/
  report : Option (Nat × Nat) := none
  /-- consecutive starts with both banks rejected -/
  rejected : Nat := 0
  /-- the Remedial flag of the start record: its cause, 0 while not set (R353) -/
  remedial : Nat := 0
  config : Bytes := []
  writes : List CfgWrite := []
  /-- start clock (seconds) at reset of the model's own clock (R352) -/
  clkBase : Nat := 0
  /-- slot 2 certificates and the digest of the Bordar provisioning record (R121, R345) -/
  provision : Bytes := List.replicate 32 0
  deriving DecidableEq, Repr

/-- The bring-up of a die. -/
structure BootDie where
  /-- when its reset was released -/
  since : Nat := 0
  /-- running image version and bank, once verified -/
  version : Nat := 0
  bank : Nat := 0
  imageIn : Bool := false
  /-- writes of the configuration blob held back until Online (R347) -/
  held : List CfgWrite := []
  /-- when it entered Joining -/
  joinAt : Nat := 0
  /-- a restart that is no start of the package: fence, update (R259, R273) -/
  alone : Bool := false
  /-- an image of a Single die replaced without reset (R274) -/
  pendingVersion : Option Nat := none
  deriving DecidableEq, Repr

end Sys2Proof.Machine
end

