-- ==== Sys2Proof/Machine/FabTypes.lean ====
section
/-! DEFINITION. The messages and tables of the Eufer fabric (12_eufer_fabric). -/

namespace Sys2Proof.Machine

/-- A contribution message (R171). -/
structure Contrib where
  head : Bool
  covered : Bool
  clockBack : Bool
  defTariff : Bool
  phase : Nat
  group : Nat
  handle : Nat
  n : Nat
  value : Nat
  deriving DecidableEq, Repr

/-- A message of class 5 or 6 (R280): a contribution, or a remote ledger access or its response (R284). `gLen` is the
group interval that an attach brings with its reference entry. -/
inductive LedBody where
  | contrib (c : Contrib)
  | request (op role handle ref gLen tag : Nat)
  | response (op role status handle ref tag : Nat) (tamper : Bytes)
  deriving DecidableEq, Repr

/-- Class code of R280. -/
def LedBody.cls : LedBody → Nat
  | .contrib _ => 6
  | .request _ _ _ _ _ _ => 5
  | .response _ _ _ _ _ _ _ => 5

/-- Payload bytes (R171, R284). -/
def LedBody.size : LedBody → Nat
  | .contrib _ => 24
  | .request _ _ _ _ _ _ => 16
  | .response op _ _ _ _ _ _ => if op = 0xC3 then 112 else 16

/-- Such a message between two dies, by fabric address. -/
structure LedMsg where
  src : Nat
  dst : Nat
  body : LedBody
  deriving DecidableEq, Repr

/-- An entry of the fabric table (R293), one per package known. -/
structure FabEnt where
  identity : Nat
  /-- package number, none in Conflict or Excluded -/
  number : Option Nat
  /-- 0 absent; 1 member; 2 Conflict; 3 Excluded; 4 unreachable -/
  state : Nat
  online : Nat := 0
  hops : Nat := 0xFF
  partVer : Nat := 0
  seen : Nat := 0
  deriving DecidableEq, Repr

/-- A link-state record (R285): the ports of a package that are up, each with the die whose port it is and the fabric
address at its far end. -/
structure LinkRec where
  number : Nat
  identity : Nat
  version : Nat
  ports : List (Nat × Nat)
  partVer : Nat := 0
  /-- number of its L-dies, each of which reports its ledger (R285) -/
  dies : Nat := 1
  deriving DecidableEq, Repr

/-- Fabric control messages (class 0). -/
inductive FabCtl where
  | candidacy (prio identity : Nat)
  | claim (identity : Nat) (number : Option Nat)
  | table (coord : Nat) (t : List FabEnt)
  | linkState (r : LinkRec)
  | partition (version : Nat) (runs : List (Nat × Nat))
  | online (addr : Nat) (inService : Bool)
  | formed
  deriving DecidableEq, Repr

inductive FabBody where
  | led (b : LedBody)
  | ctl (c : FabCtl)
  | ackOnly
  deriving DecidableEq, Repr

/-- A message on an external link with the fabric header of R279. -/
structure FabMsg where
  dst : Nat
  src : Nat
  cls : Nat
  ttl : Nat := 16
  seq : Nat := 0
  ack : Nat := 0
  body : FabBody
  deriving DecidableEq, Repr

/-- A message in the retransmit buffer (R281): its sequence number and when it entered. -/
structure FlowMsg where
  seq : Nat
  body : LedBody
  entered : Nat
  deriving DecidableEq, Repr

/-- The sending side of a flow (R281): the next sequence number, the messages not acknowledged, when acknowledgement
last progressed, and since when the destination has had no route (R282). -/
structure FlowSrc where
  next : Nat := 1
  unacked : List FlowMsg := []
  since : Nat := 0
  noRoute : Option Nat := none
  deriving DecidableEq, Repr

/-- The receiving side: the next sequence number, and since when an acknowledgement has been owed. -/
structure FlowDst where
  expect : Nat := 1
  owed : Option Nat := none
  deriving DecidableEq, Repr

/-- The fabric state of an L-die: its external port (R277, R278) and its flows. -/
structure Euf where
  /-- when training began, or failed -/
  since : Nat := 0
  /-- sequence number of the next flit to send and to receive, and messages outstanding: last flit and content -/
  txNext : Nat := 0
  rxNext : Nat := 0
  out : List (Nat × FabMsg) := []
  /-- when link-level acknowledgement last progressed, and consecutive replays that failed -/
  progress : Nat := 0
  replays : Nat := 0
  /-- the last link-level answer sent: negative or not, and the next flit expected -/
  answer : Option (Bool × Nat) := none
  /-- messages received on the port, and messages of flows that end at this die -/
  inq : List FabMsg := []
  flowIn : List FabMsg := []
  srcs : SMap FlowSrc := []
  dsts : SMap FlowDst := []
  /-- messages that wait for room in the retransmit buffer -/
  waiting : List (Nat × LedBody) := []
  /-- last L-141 per destination (R282) -/
  unreach : SMap Nat := []
  deriving DecidableEq, Repr

/-- The fabric state a package holds in all its L-dies alike: roll call, table, link states and partition. -/
structure Fab where
  best : Option (Nat × Nat) := none
  quietFrom : Nat := 0
  started : Nat := 0
  claims : List (Nat × Option Nat) := []
  table : List FabEnt := []
  links : SMap LinkRec := []
  linkVersion : Nat := 0
  /-- partition in force as runs: first bucket and entry (R290); empty for the local partition -/
  runs : List (Nat × Nat) := []
  version : Nat := 0
  /-- control messages received and not yet acted on -/
  inbox : List FabCtl := []
  /-- ledger reports by fabric address: online, or not in service -/
  online : SMap Bool := []
  /-- packages for which L-141 was raised since the last roll call (R288) -/
  noRoute : List Nat := []
  deriving DecidableEq, Repr

end Sys2Proof.Machine
end

