-- ==== Sys2Proof/Machine/RadioTypes.lean ====
section
/-! DEFINITION. The state of an F-die's radio and timetable units beside their registers
(02_radio_reception, 03_timetable_mac, 01_reading_path). -/

namespace Sys2Proof.Machine

/-- The hand-off header of R50. -/
structure Header where
  die : Nat
  ctx : Nat
  slot : Nat
  mode : Nat
  pathB : Bool := false
  fec : Bool := false
  scheduled : Bool := false
  level : Nat := 0
  hold : Nat
  syncTime : Nat
  identity : Bytes
  idHash : Nat
  idKind : Nat
  rssi : Nat
  freqOffset : Nat
  /-- a power-line frame (R93), whose fields have the meanings of that rule -/
  plc : Bool := false
  /-- power-line: phase observation and the other R93 fields -/
  phaseObs : Nat := 0
  plcSrc : Nat := 0
  deriving DecidableEq, Repr

/-- The trailer of R50. -/
structure Trailer where
  length : Nat
  recovered : Bool := false
  late : Bool := false
  lqi : Nat
  rssiMean : Nat
  lastBit : Nat
  arrival : Nat
  /-- trailer bytes 24 on: bits that FEC corrected, or the four bytes of R93 -/
  fecCorrected : Nat := 0
  deriving DecidableEq, Repr

/-- The body of a message of R50 from an F-die to an L-die. -/
inductive HandBody where
  | header (h : Header)
  | data (off : Nat) (bytes : Bytes)
  | rewrite (off : Nat) (bytes : Bytes)
  | trailer (t : Trailer) (off : Nat) (bytes : Bytes)
  | abort (reason : Nat)
  deriving DecidableEq, Repr

/-- A hand-off message in flight (R50). The context names the frame; power-line frames use contexts from 128 on. -/
structure HandMsg where
  src : Nat
  dst : Nat
  ctx : Nat
  hold : Nat
  body : HandBody
  deriving DecidableEq, Repr

/-- The seven verdicts of R16, with the codes of R52. -/
inductive Verdict where
  | accept | duplicate | replay | badMic | unknown | deferred | malformed
  deriving DecidableEq, Repr

/-- A downlink that goes with an acknowledgement or on its own: the host command it belongs to, or a device
downlink (1 key change, 2 relay) for a meter (R69, R99, R130, R161, R214). -/
structure Dl where
  cmd : Option Nat := none
  dev : Nat := 0
  handle : Nat := 0xFFFFFFFF
  flags : Nat := 0
  bytes : Bytes
  /-- a relay downlink's action and reason, and the meter's identity -/
  relay : Option (Nat × Nat) := none
  identity : Bytes := []
  /-- a host downlink's expiry (R213), by the model's clock -/
  expires : Option Nat := none
  deriving DecidableEq, Repr

/-- The verdict and release messages of R52, from an L-die to an F-die. -/
inductive BackBody where
  | verdict (v : Verdict) (coReceived unprotected reack : Bool) (ack : Bytes) (follow : Option Dl)
  | release
  deriving DecidableEq, Repr

structure BackMsg where
  src : Nat
  dst : Nat
  ctx : Nat
  hold : Nat
  body : BackBody
  deriving DecidableEq, Repr

/-- The state of a demodulator context (DMD_CTX_STAT). -/
inductive CtxState where
  | receiving | awaitVerdict | unpicking
  deriving DecidableEq, Repr

/-- A stronger frame that overlaps a weaker one on its slot (R47): its context, when it began, its last bit once that has come,
and whether it passes its FCS or block-CRC check on the F-die, once that is known. -/
structure Over where
  ctx : Nat
  start : Nat
  last : Option Nat := none
  ok : Option Bool := none
  deriving DecidableEq, Repr

/-- A busy demodulator context (R43 to R52). Contexts not listed are Free. -/
structure Ctx where
  slot : Nat
  hold : Nat
  mode : Nat
  fec : Bool
  rssi : Nat
  freqOffset : Nat
  noise : Nat
  syncTime : Nat
  /-- device time at which the frame's preamble began -/
  start : Nat
  /-- the timetable running on the slot at the sync, and its parameters then (R63) -/
  tt : Option Nat := none
  ackDelay : Nat := 0
  ttEui : Bytes := []
  state : CtxState := .receiving
  level : Nat := 0
  /-- frame bytes decoded so far -/
  bytes : Bytes := []
  /-- how many of them have been sent to the owner -/
  sent : Nat := 0
  headerSent : Bool := false
  /-- identity, once the address field is complete -/
  identity : Bytes := []
  idKind : Nat := 0
  /-- owning L-die, once found (R20) -/
  owner : Option Nat := none
  addrDone : Bool := false
  /-- overlapped by a stronger frame: first affected byte, and the first withheld one (R48) -/
  overlapFrom : Option Nat := none
  withheldFrom : Option Nat := none
  /-- the stronger frames that overlap it, and that it has been recovered from under them (R47, R50) -/
  overlaps : List Over := []
  recovered : Bool := false
  lastBit : Option Nat := none
  rssiMean : Nat := 0
  fecCorrected : Nat := 0
  /-- when the open data run began (R50) -/
  runSince : Nat := 0
  deriving DecidableEq, Repr

/-- A hold-buffer entry (R29). Entries not listed are free. -/
structure Hold where
  ctx : Nat
  plc : Bool := false
  header : Option Header := none
  bytes : Bytes := []
  trailer : Option Trailer := none
  owner : Option Nat := none
  lastBit : Option Nat := none
  /-- no owner named by the partition table since this time (R262) -/
  noOwnerSince : Option Nat := none
  /-- a verdict has been latched and the release is awaited (R27) -/
  verdict : Option Verdict := none
  /-- the reception the verdict was latched for, kept for a replay after it (R29) -/
  rx : Option Ctx := none
  /-- power-line: MAC source of the frame, and it is not the originator (R92, R99) -/
  plcMac : Bytes := []
  meshed : Bool := false
  deriving DecidableEq, Repr

/-- What a transmission is, in the order of R69. -/
inductive TxKind where
  | bell | ack | wmbResp | downlink | broadcast
  deriving DecidableEq, Repr

/-- Where a queued transmission stands (R39, R40). -/
inductive TxStage where
  | queued | handed | settling | onAir
  deriving DecidableEq, Repr

/-- A frame at the transmit scheduler or on the transmit path. -/
structure TxFrame where
  kind : TxKind
  stage : TxStage := .queued
  /-- device time of the start of ramp-up -/
  start : Nat
  /-- on-air time in ticks -/
  dur : Nat
  /-- occupied bandwidth in 100 Hz units -/
  lo : Nat
  hi : Nat
  bytes : Bytes
  /-- timetable number, for bells, acknowledgements and blocks -/
  tt : Nat := 0
  /-- last-bit time of the frame answered, and its identity (R68) -/
  lastBit : Nat := 0
  identity : Bytes := []
  /-- what a downlink frame carries -/
  dl : Option Dl := none
  /-- downlink that follows this acknowledgement (R69) -/
  follow : Option Dl := none
  mode : Nat := 0
  centre : Nat := 0
  /-- when the frame was handed to the path -/
  handedAt : Nat := 0
  /-- to be sent as soon as possible: the start is chosen at the hand-over (R214) -/
  asap : Bool := false
  deriving DecidableEq, Repr

/-- An acknowledgement or wireless M-Bus response that waits for its release (R68, R84). -/
structure AckWait where
  wmb : Bool
  hold : Nat
  tt : Nat
  due : Nat
  dur : Nat
  lo : Nat
  hi : Nat
  bytes : Bytes
  lastBit : Nat
  identity : Bytes
  follow : Option Dl
  mode : Nat
  centre : Nat
  released : Option Nat := none
  deriving DecidableEq, Repr

/-- An unpicking operation in progress (R47, R49): the context of the stronger frame and of the weaker one. -/
structure Unpick where
  strong : Nat
  weak : Nat
  since : Nat
  overlap : Nat
  deriving DecidableEq, Repr

/-- Calibration of one path (R53, R54). -/
structure Cal where
  /-- foreground calibration running since -/
  fgSince : Option Nat := none
  /-- gain calibration running since -/
  gainSince : Option Nat := none
  /-- device temperature at the last attempt, and when it was deferred (R54) -/
  deferredAt : Option Nat := none
  lastDone : Option Nat := none
  deriving DecidableEq, Repr

/-- A broadcast campaign (R79 to R81): blocks sent, an abort requested; the broadcast frame counters of R141, one
per timetable, and the values the active L-die has stored. -/
structure Campaign where
  abort : Bool := false
  sent : Nat := 0
  counters : SMap Nat := []
  stored : SMap Nat := []
  /-- end of the last block sent in this broadcast window -/
  lastEnd : Nat := 0
  deriving DecidableEq, Repr

/-- A timetable's timing parameters as published to the active L-dies (R63). -/
structure TtParams where
  die : Nat
  num : Nat
  chan : Nat
  running : Bool
  follow : Bool
  slotLen : Nat
  slots : Nat
  txLead : Nat
  ackDelay : Nat
  guardMin : Nat
  winCap : Nat
  uInit : Nat
  joinPpm : Nat
  truantHold : Nat
  hpFirst : Nat
  hpStride : Nat
  openFirst : Nat
  openStride : Nat
  bcFirst : Nat
  bcCount : Nat
  periodMax : Nat
  start : Nat
  eui : Bytes
  /-- device time at which the timetable was enabled, and from which it no longer runs -/
  since : Nat := 0
  till : Option Nat := none
  deriving DecidableEq, Repr

/-- A downlink that follows an acknowledgement which has ended (R69). -/
structure FollowPend where
  dl : Dl
  start : Nat
  mode : Nat
  centre : Nat
  fec : Bool
  deriving DecidableEq, Repr

structure Radio where
  ctxs : SMap Ctx := []
  hold : SMap Hold := []
  /-- F-057 has been raised and not yet re-armed (18_event_register_index) -/
  f057 : Bool := false
  unpicks : List Unpick := []
  txq : List TxFrame := []
  acks : List AckWait := []
  /-- duty-cycle buckets of the eight band entries, newest first, 61 each (R56), in ms -/
  dc : List (List Nat) := []
  /-- F-042 has been raised for the entry and not yet re-armed (R57) -/
  f042 : List Bool := []
  dcRolled : Nat := 0
  follows : List FollowPend := []
  /-- timetables whose first superframe since enable has begun: the superframe number announced last -/
  sfSeen : SMap Nat := []
  /-- device time at which each running timetable was enabled (R63) -/
  ttSince : SMap Nat := []
  /-- timetables that took over bells: device time from which their superframes have one (R268) -/
  bellFrom : SMap Nat := []
  /-- last raise of the once-a-second events F-038, F-041, F-046, F-049 -/
  lim038 : Option Nat := none
  lim041 : Option Nat := none
  lim046 : Option Nat := none
  lim049 : Option Nat := none
  /-- front-end state driven on FEM_CTL (R40) -/
  fem : Nat := 7
  calA : Cal := {}
  calB : Cal := {}
  calT : Cal := {}
  /-- partition table (R20): runs of identity hashes; each pair gives a first hash and the owner from it on -/
  part : List (Nat × Nat) := []
  campaign : Campaign := {}
  deriving DecidableEq, Repr

end Sys2Proof.Machine
end

