-- ==== Sys2Proof/Machine/PlcTypes.lean ====
section
/-! DEFINITION. The state of an F-die's power-line modem beside its registers (04_powerline). -/

namespace Sys2Proof.Machine

/-- What the modem measured on a frame (R50, R103): of each payload symbol its energy over the running noise estimate in dB and whether a
sample reached full scale; the SNR per subband in dB, over the symbols not erased; the mean level of the frame (0.25 dBm, 16 bits). -/
structure PlcMeas where
  symbols : List (Int × Bool)
  snr : List Int
  rssiMean : Nat
  deriving DecidableEq, Repr

/-- A receive buffer (R94): held from the start of the preamble until hand-off or discard. -/
structure PlcRx where
  hold : Nat
  /-- device time at the end of the preamble, and the received level over it (R93) -/
  pre : Nat
  rssi : Nat
  /-- last accepted mains edge before the preamble began, and the measured period then (R106) -/
  zc : Option Nat := none
  period : Nat := 0
  deriving DecidableEq, Repr

/-- What a queued transmission is (R96). -/
inductive PlcTxKind where
  | tmResp | downlink
  deriving DecidableEq, Repr

/-- Where the transmission that has the transmitter stands. -/
inductive PlcTxStage where
  | contending | onLine | ackWait
  deriving DecidableEq, Repr

/-- How a frame goes onto the line (R89, R97, R108): modulation, tone map, gain request, the phase detection counter of its frame control
header, and the attenuation. -/
structure PlcPhy where
  modulation : Nat
  map : Nat
  gain : Nat
  pdc : Nat
  atten : Nat
  deriving DecidableEq, Repr

structure PlcTx where
  kind : PlcTxKind
  high : Bool := false
  /-- MAC frame without FCS -/
  bytes : Bytes
  /-- MAC security with the group master key of this index (R213) -/
  gmk : Option Nat := none
  dl : Option Dl := none
  stage : PlcTxStage := .contending
  /-- back-offs made and back-off exponent of the present attempt, retries made -/
  nb : Nat := 0
  be : Nat := 3
  retries : Nat := 0
  /-- device time at which the back-off drawn ends -/
  readyAt : Nat := 0
  /-- device time of the start of the latest transmission, and of its end -/
  start : Nat := 0
  stop : Nat := 0
  deriving DecidableEq, Repr

/-- A MAC acknowledgement owed (R95): when it is due, and the FCS of the frame it answers. -/
structure PlcAck where
  due : Nat
  fcs : Nat
  deriving DecidableEq, Repr

/-- A tone-map cache entry that is not empty. -/
structure ToneMap where
  short : Nat
  negotiated : Bool := false
  changed : Bool := false
  requested : Bool := false
  impulse : Bool := false
  eui : Bytes := List.replicate 8 0
  txMap : Nat := 0
  rxMap : Nat
  txMod : Nat := 0
  rxMod : Nat
  txGain : Nat := 0
  lqi : Nat := 0
  badRun : Nat := 0
  goodRun : Nat := 0
  neutralRun : Nat := 0
  /-- when the neighbour's last tone map response and last frame arrived -/
  tmAt : Nat := 0
  heardAt : Nat
  deriving DecidableEq, Repr

structure Plc where
  /-- receive buffers held, by number 0 to 3 -/
  rx : SMap PlcRx := []
  acks : List PlcAck := []
  /-- an acknowledgement is on the line -/
  ackOn : Bool := false
  /-- how the latest frame or acknowledgement went onto the line, and device time until which the line driver stays enabled after it -/
  phy : Option PlcPhy := none
  driveTill : Nat := 0
  /-- the transmission that has the transmitter, and those that wait, in submission order -/
  cur : Option PlcTx := none
  queue : List PlcTx := []
  /-- short-address table: low words as written, and the entries in effect (R92) -/
  lows : SMap Nat := []
  shorts : SMap Bytes := []
  tones : SMap ToneMap := []
  /-- times of the last accepted mains edges, newest first, at most nine, and consecutive intervals in range -/
  edges : List Nat := []
  zcRun : Nat := 0
  /-- when zc_ok was last set (R333) -/
  zcOkAt : Nat := 0
  lim052 : Option Nat := none
  lim056 : Option Nat := none
  /-- sequence number and frame counter of the frames the device builds -/
  dsn : Nat := 0
  macCtr : Nat := 0
  deriving DecidableEq, Repr

end Sys2Proof.Machine
end

