-- ==== Sys2Proof/Machine/PwrTypes.lean ====
section
/-! DEFINITION. Power, clock and ageing state of a die beside its registers (15_power_clocks_ageing). -/

namespace Sys2Proof.Machine

/-- What the ageing monitors of a die show at a plan (R341, R342): the lowest voltage at which every path monitor shows the
guard, the least slack and its monitor now, the weakest DRAM retention in standard intervals, and whether the plan moved
NAND read references or an RF path. -/
structure AgeView where
  lowestMv : Nat
  slack : Int
  monitor : Nat
  retention : Nat
  otherChange : Bool
  deriving DecidableEq, Repr

structure Pwr where
  /-- when the warning in force began, and when the input last rose above the recovery level -/
  warnedAt : Option Nat := none
  /-- the save of the warning in force has found no journal block (R337) -/
  noJournal : Bool := false
  /-- supply recovery waits for the save to complete (R336) -/
  recovering : Bool := false
  /-- reset waits for the commit marker (R369) -/
  resetWaits : Bool := false
  /-- the data path is halted: trip, loss of CLK_REF (R339, R366) -/
  halted : Bool := false
  /-- CLK_REF has stopped (R366) -/
  refLost : Bool := false
  /-- ALERT_N is driven low (R335, R360) -/
  alertN : Bool := false
  /-- PPS_OUT is driven high (R332, R360) -/
  ppsOut : Bool := false
  tripAt : Option Nat := none
  /-- domain power-up in progress: the bits (R322) -/
  rising : Nat := 0
  deriving DecidableEq, Repr

/-- Disciplining of the device-time counter (R330, R331). -/
structure Disc where
  /-- offset still to be removed by slewing, in units of 10^-9 tick, signed -/
  toSlew : Int := 0
  /-- learned rate, 0.001 ppb units, signed -/
  learned : Int := 0
  /-- offsets of the last measurements in ns with their times, newest first, at most 64 -/
  meas : List (Int × Nat) := []
  /-- consecutive measurements within lock_ns, and when the last good host measurement was made -/
  inLock : Nat := 0
  hostOk : Option Nat := none
  /-- the condition of R331 for Locked holds -/
  lockNow : Bool := false
  /-- sources that have delivered: code of CLK_STAT.source and when last -/
  seen : List (Nat × Nat) := []
  /-- offset from the master that the steering MAC has measured, reference minus device time, ns (R302) -/
  ptp : Option Int := none
  /-- when a source last delivered a measurement here -/
  lastMeas : Option Nat := none
  /-- since when the quality has been Holdover -/
  holdFrom : Option Nat := none
  /-- last PPS_IN edge -/
  ppsLast : Option Nat := none
  ppsLost : Bool := false
  /-- end of the PPS_OUT pulse -/
  ppsOff : Option Nat := none
  /-- second last announced on PPS_OUT -/
  ppsSec : Nat := 0
  /-- mains comparison: when the last one was made -/
  zcFrom : Nat := 0
  /-- latched by a read of CLK_TIME_LO (R8 of the register map) -/
  timeHi : Nat := 0
  deriving DecidableEq, Repr

structure Age where
  planAt : Nat := 0
  planTemp : Int := 0
  /-- VCORE targets at past plans: day and mV, newest first (R344) -/
  history : List (Nat × Nat) := []
  warned : Bool := false
  deriving DecidableEq, Repr

end Sys2Proof.Machine
end

