-- ==== Sys2Proof/Syntax.lean ====
section
/-! DEFINITION. The commands of the block: one constructor for each row of spec/opcode_table.json, in the table's order. Operands:
the die the command happens at (`d`, by die index), the unit, context or ring it names, what a message or a pin carries, and
what a measurement or a device outside the model answers. A command of the host rings (opcode rows) is carried out on the
oldest entry of its opcode that the rings have fetched; data that it reads from host memory is an operand. -/

namespace Sys2Proof

open Sys2Proof.Machine

inductive Instr where
  /-- REGISTER_WRITE (R7). An aligned 32-bit host write to a register that has no row of its own stores the written fields, ignores reserved bits and sets cfg_error where the block refuses the write. -/
  | registerWrite (bar : Bar) (addr : Nat) (v : Nat)
  /-- NARROW_OR_UNALIGNED_WRITE (R6). A narrow or unaligned register write is discarded, and the SYS access-error event is raised with kind 0. -/
  | narrowOrUnalignedWrite (a : BusAddr)
  /-- NARROW_OR_UNALIGNED_READ (R6). A narrow or unaligned register read returns 0xFFFF_FFFF. -/
  | narrowOrUnalignedRead (a : BusAddr)
  /-- UNMAPPED_WRITE (R373). A write to an offset that no present block occupies is ignored and raises the access-error event with kind 1. -/
  | unmappedWrite (addr : Nat)
  /-- COUNTER_CLEAR (R8). Writing 1 to a block's cnt_clear bit clears every counter of that block. -/
  | counterClear (d : Nat) (b : Block)
  /-- SYNC_DETECTED (R43). A slot's sync detector finds a sync word; the slot claims a demodulator context and a hold-buffer entry, or drops the frame and counts it when none is free. -/
  | syncDetected (d : Nat) (n : Nat) (mode : Nat) (fec : Bool) (rssi : Nat) (freq : Nat) (noise : Nat) (pre : Nat)
  /-- ADDRESS_FIELD_COMPLETE (R20). The address field is decoded; the context applies the format checks, looks up the owning L-die in the partition table, then sends the header and streams the buffered bytes. -/
  | addressFieldComplete (d : Nat) (c : Nat) (psduLen : Nat) (modeSwitch : Bool) (b : Bytes)
  /-- SYNC_LOST (R44). Sync is lost before the address field is complete; the frame is counted in DMD_LOST_CNT and its context and entry are freed, or an abort is sent if the header has already gone. -/
  | syncLost (d : Nat) (c : Nat)
  /-- DATA_RUN_CLOSE (R50). An open data run closes after 64 bytes or 8 byte periods and is sent as a data message. -/
  | dataRunClose (d : Nat) (c : Nat) (b : Bytes)
  /-- LAST_BIT (R50). The last bit of a frame is decoded; the F-die sends the trailer and keeps the frame in its hold-buffer entry. -/
  | lastBit (d : Nat) (c : Nat) (b : Bytes) (rssiMean : Nat) (fecCorrected : Nat)
  /-- HEADER_MESSAGE (R22). The owning L-die receives a header and launches the prefetch of the identity, the record and the wrapped keys. -/
  | headerMessage (d : Nat)
  /-- DATA_MESSAGE (R50). The owning L-die receives frame bytes and folds them into decryption and the MIC. -/
  | dataMessage (d : Nat)
  /-- REWRITE_MESSAGE (R48). The owning L-die receives recovered bytes that replace bytes sent earlier. -/
  | rewriteMessage (d : Nat)
  /-- PREFETCH_COMPLETE (R22). The identity lookup, the record fetch with its fetch check, and the key unwrap complete; if the last bit has already passed, the verdict is issued late. -/
  | prefetchComplete (d : Nat)
  /-- TRAILER_MESSAGE (R138). The owning L-die receives the trailer, decides the verdict, applies its effects and returns the verdict message. -/
  | trailerMessage (d : Nat)
  /-- ABORT_MESSAGE (R51). The owning L-die discards the frame and its prefetch state on an abort and issues no verdict. -/
  | abortMessage (d : Nat)
  /-- VERDICT_WAIT_TIMEOUT (R24). 1 s after the last bit with no verdict, the L-die drops the frame, counts it and raises L-034. -/
  | verdictWaitTimeout (d : Nat)
  /-- VERDICT_MESSAGE (R52). The F-die latches the verdict in the context, frees the context and schedules the acknowledgement, or frees the hold entry. -/
  | verdictMessage (d : Nat)
  /-- RELEASE_MESSAGE (R52). The F-die frees the hold-buffer entry and lets the scheduler transmit the acknowledgement. -/
  | releaseMessage (d : Nat)
  /-- HOLD_TIMEOUT (R24). 1 s + 10 ms after the last bit with no verdict, the F-die frees the context and entry and raises F-064. -/
  | holdTimeout (d : Nat) (h : Nat)
  /-- HOLD_NO_OWNER_TIMEOUT (R262). Frames held for a pair with no Active die for 1 s are discarded, and F-064 is raised. -/
  | holdNoOwnerTimeout (d : Nat)
  /-- PARTITION_TABLE_PUBLISH (R20). An F-die receives a republished partition table and replays held frames to the new owner in last-bit order. -/
  | partitionTablePublish (d : Nat)
  /-- TIMETABLE_PARAMETERS_PUBLISH (R63). An L-die receives a timetable's published timing parameters. -/
  | timetableParametersPublish (d : Nat)
  /-- MIRROR_MESSAGE (R256). The substitute stores a mirror message in DRAM, confirms it in order and appends the mirrored archive entries. -/
  | mirrorMessage (d : Nat)
  /-- MIRROR_CONFIRM (R27). The active die receives a confirmation and sends the release messages of the acknowledgements that waited for it. -/
  | mirrorConfirm (d : Nat)
  /-- MIRROR_CONFIRM_TIMEOUT (R256). No confirmation within confirm_us: waiting acknowledgements are released unprotected, the substitute is fenced, and the pair becomes Unprotected. -/
  | mirrorConfirmTimeout (d : Nat)
  /-- HEAD_END_FRAME_ARRIVAL (R31). A head-end frame's last byte reaches the owning die in a decision slot, and it is decided within 3 µs. -/
  | headEndFrameArrival (d : Nat) (bytes : Bytes)
  /-- DECISION_SLOT_GRANT (R31). A freed decision slot lets the host port die fetch the next head-end submission for that die. -/
  | decisionSlotGrant (d : Nat) (g : Nat) (e : Bytes)
  /-- RX_PATH_ENABLE (R36). A write of RFA_CTRL.enable or RFB_CTRL.enable powers a receive path, or is refused with F-040 while a slot on the path is not Idle. -/
  | rxPathEnable (d : Nat) (pathB : Bool) (on : Bool)
  /-- LNA_AUTO_SWITCH (R37). Composite power crossing −30 or −36 dBm switches the internal LNA bypass while no slot is Receiving. -/
  | lnaAutoSwitch (d : Nat) (pathB : Bool) (power : Nat)
  /-- OVERLOAD (R37). Composite power above −15 dBm forces bypass at once, raises F-032 or F-033 and aborts the frames in reception with reason gain step. -/
  | overload (d : Nat) (pathB : Bool) (power : Nat)
  /-- TX_HANDOVER (R39). The scheduler hands a frame to the transmit path at least 100 µs before its start, after the duty-cycle and precedence checks. -/
  | txHandover (d : Nat)
  /-- DC_BUCKET_ROLL (R56). Every 60 s each band entry's buckets advance, the oldest bucket drops out and F-042 re-arms. -/
  | dcBucketRoll (d : Nat)
  /-- FEM_SETTLING_START (R40). 60 µs before ramp-up, front-end state 5 begins, blank paths are blanked, and an unlocked synthesizer cancels the frame with 0x0504. -/
  | femSettlingStart (d : Nat) (locked : Bool)
  /-- RAMP_UP_START (R40). At the scheduled tick, ramp-up starts and the front end enters state 4. -/
  | rampUpStart (d : Nat)
  /-- TX_POWER_CHECK (R38). 20 µs after ramp-up, a power error above 2 dB aborts the transmission with 0x0505 and raises F-043. -/
  | txPowerCheck (d : Nat) (measured : Nat)
  /-- RAMP_DOWN_END (R40). A transmission ends; the front end returns to a receive state and counts are updated. -/
  | rampDownEnd (d : Nat)
  /-- SYNTH_UNLOCK (R39). A receive or transmit synthesizer loses lock, and F-034 or F-035 is raised. -/
  | synthUnlock (d : Nat) (p : Nat)
  /-- TX_PATH_DISABLE (R59). Clearing RFT_CTRL.enable lets a settling transmission finish and returns every other queued frame. -/
  | txPathDisable (d : Nat)
  /-- RFT_DC_LOCK (R57). Setting dc_lock makes the band-entry registers read-only until reset. -/
  | rftDcLock (d : Nat)
  /-- SLOT_ENABLE (R42). A write of CHN_SLOT_CTRL.enable enables a slot, or refuses with cfg_error and F-040. -/
  | slotEnable (d : Nat) (n : Nat)
  /-- SLOT_DISABLE (R58). A write of 0 to a slot's enable stops its sync detectors and drains frames past sync, or goes Idle at once. -/
  | slotDisable (d : Nat) (n : Nat)
  /-- UNPICK_START (R47). The stronger frame passes its F-die check, and regeneration and subtraction of its waveform start, or the weaker frame is failed. -/
  | unpickStart (d : Nat) (weak : Nat) (strong : Nat) (slot : Nat) (level : Nat)
  /-- UNPICK_COMPLETE (R49). The residue is decoded; recovered bytes are sent as rewrite and data messages and the trailer. -/
  | unpickComplete (d : Nat) (weak : Nat) (psduLen : Nat) (modeSwitch : Bool) (b : Bytes) (rssiMean : Nat) (fecCorrected : Nat)
  /-- RX_CAL_START (R53). A write of cal_start starts 18 ms of foreground calibration, or is refused with F-037 while a slot is enabled. -/
  | rxCalStart (d : Nat) (pathB : Bool)
  /-- CAL_COMPLETE (R53). Foreground calibration ends; cal_state becomes done or failed and F-036 or F-037 is raised. -/
  | calComplete (d : Nat) (p : Nat) (ok : Bool)
  /-- GAIN_CAL_START (R54). A write of gain_cal_start starts gain calibration. -/
  | gainCalStart (d : Nat) (pathB : Bool)
  /-- GAIN_CAL_TRIGGER (R54). 24 h elapsed, a 10 °C change, a retry interval or a slot disable starts gain calibration, or defers it with 0x0507. -/
  | gainCalTrigger (d : Nat) (pathB : Bool) (cause : Nat)
  /-- GAIN_CAL_COMPLETE (R54). The 2 ms injected-tone calibration ends, and cal_temp and cal_age are updated. -/
  | gainCalComplete (d : Nat) (pathB : Bool) (ok : Bool)
  /-- TT_ENABLE (R63). A write of TT_n_CTRL.enable checks the configuration and runs or follows the timetable, or refuses with F-047. -/
  | ttEnable (d : Nat) (n : Nat) (follow : Bool)
  /-- TT_DISABLE (R63). Clearing enable stops bells and blocks at once, ends the campaign and still sends acknowledgements already due. -/
  | ttDisable (d : Nat) (n : Nat)
  /-- SUPERFRAME_START (R64). A superframe begins; the bell is built and handed over for slot 0, or omitted. -/
  | superframeStart (d : Nat) (n : Nat)
  /-- DATA_SLOT_END (R76). At a data slot's end, the owning L-die checks attendance of the assigned meter and counts a miss. -/
  | dataSlotEnd (d : Nat) (f : Nat) (n : Nat) (k : Nat) (slotNo : Nat)
  /-- ACK_DUE (R68). At last bit + ack_delay, the acknowledgement is sent if released 100 µs earlier, or dropped with F-046. -/
  | ackDue (d : Nat)
  /-- DOWNLINK_FOLLOW_SEND (R69). 1,000 µs after an acknowledgement with downlink follows ends, the queued downlink frame is sent. -/
  | downlinkFollowSend (d : Nat)
  /-- WMB_RESPONSE_DUE (R84). At last bit + response delay, a wireless M-Bus ACK frame or replacing downlink is sent, or dropped with F-049. -/
  | wmbResponseDue (d : Nat)
  /-- CAMP_START (R79). Setting camp_start starts a broadcast campaign, or refuses it with 0x050E and F-048. -/
  | campStart (d : Nat)
  /-- CAMP_ABORT (R81). Setting camp_abort ends the campaign at the next block boundary. -/
  | campAbort (d : Nat)
  /-- BROADCAST_BLOCK (R80). In a broadcast slot the next block is sent, campaign position advances and the counter is stored every 4,096 blocks. -/
  | broadcastBlock (d : Nat) (n : Nat)
  /-- PLC_ENABLE (R101). Enabling the modem starts it, or refuses when the other modem uses the same address. -/
  | plcEnable (d : Nat)
  /-- PLC_DISABLE (R109). Clearing enable stops preamble detection, drains buffered frames and returns queued downlinks with 0x0605, then raises F-051. -/
  | plcDisable (d : Nat)
  /-- PLC_PREAMBLE_DETECT (R94). A preamble is detected and takes a receive buffer, or is ignored and counted when all four are held. -/
  | plcPreambleDetect (d : Nat) (rssi : Nat)
  /-- PLC_FRAME_DECODED (R91). A frame finishes decoding; its FCS is checked, and it is classified foreign, raw or metering and handled. -/
  | plcFrameDecoded (d : Nat) (n : Nat) (dt : Nat) (b : Bytes) (pdc : Nat) (modulation : Nat) (endAt : Nat) (m : PlcMeas)
  /-- PLC_ACK_SEND (R95). At rifs after a unicast frame requesting one, the G.9903 acknowledgement is sent. -/
  | plcAckSend (d : Nat)
  /-- PLC_BACKOFF_END (R100). A CSMA back-off ends; the channel is assessed and the frame is sent, or further back-off is drawn, or 0x0602 results. -/
  | plcBackoffEnd (d : Nat) (idle : Bool) (reserved : Bool)
  /-- PLC_ACK_WAIT_TIMEOUT (R100). No MAC acknowledgement within ack_wait; the frame is retried, or completes with 0x0603. -/
  | plcAckWaitTimeout (d : Nat)
  /-- TONE_MAP_EXPIRY (R102). A cache entry older than expire becomes empty. -/
  | toneMapExpiry (d : Nat)
  /-- SHORT_ADDR_HIGH_WRITE (R92). Writing a short-address table entry's high word makes the changed entry take effect. -/
  | shortAddrHighWrite (d : Nat) (a : Nat) (hi : Nat)
  /-- ZC_EDGE (R104). A ZC_IN rising edge is timestamped or ignored as a glitch, and the period and frequency are updated. -/
  | zcEdge (d : Nat)
  /-- ZC_LOSS (R105). No edge for 2.5 periods, or a frequency out of range, clears zc_ok and raises F-053. -/
  | zcLoss (d : Nat)
  /-- LOCK_ZEROISE (R115). A write of zeroise clears all slots except slot 0 and the key cache and raises L-013 or F-013. -/
  | lockZeroise (d : Nat)
  /-- INTEGRITY_FAULT (R115). A storage fault or glitch detector zeroises the Locker and sets integrity_alarm. -/
  | integrityFault (d : Nat)
  /-- MARK_EXTEND (R120). LOCK_EXT_CTRL.go extends a mark with the digest, or refuses with 0x0205. -/
  | markExtend (d : Nat) (m : Nat)
  /-- MARK_LOCK (R120). Writing LOCK_MARK_LOCK locks the named marks until die reset. -/
  | markLock (d : Nat) (mask : Nat)
  /-- SEC_ENABLE (R123). Setting SEC_CTRL.enable runs the pipeline, or is refused with L-014 while slot 1 is invalid. -/
  | secEnable (d : Nat)
  /-- CACHE_FLUSH (R125). Writing cache_flush flushes the key cache. -/
  | cacheFlush (d : Nat)
  /-- RETIRE_HOLD_EXPIRY (R127). retire_hold hours after a commit, the retiring key is dropped and the meter becomes Stable. -/
  | retireHoldExpiry (d : Nat)
  /-- STAGED_KEY_STALE (R130). A meter still Staged stage_max days after staging raises L-036 once. -/
  | stagedKeyStale (d : Nat)
  /-- LEDGER_APPLY (R153). A ledger lane applies a queued item: it validates and books readings and applies tamper, power and emergency items. -/
  | ledgerApply (d : Nat)
  /-- DEVICE_TIME_STEP (R330). A measurement beyond step_ms steps device time, raises L-025, and the ledger answers under R146. -/
  | deviceTimeStep (d : Nat) (back : Bool) (ticks : Nat)
  /-- SLEW_COMPLETE (R145). Slewing LT reaches device time and returns to Normal. -/
  | slewComplete (d : Nat)
  /-- HOLD_AUTO_END (R147). Device time reaches LEDG_HOLD; LT continues in Normal and L-074 is raised. -/
  | holdAutoEnd (d : Nat)
  /-- HOLD_RELEASE (R147). Writing hold_release starts LT slewing from the held value. -/
  | holdRelease (d : Nat)
  /-- BOUNDARY_SWEEP (R156). LT reaches a boundary, and the P5 sweep processes every record's boundary in the canonical order. -/
  | boundarySweep (d : Nat)
  /-- SWEEP_COMPLETE (R157). A sweep ends; LEDG_SWEEP advances, billing boundaries raise L-076, and interval columns fall due. -/
  | sweepComplete (d : Nat)
  /-- TIME_QUALITY_CHANGE (R331). Device time quality moves between Locked, Holdover and Invalid, raising L-024 and switching the default tariff. -/
  | timeQualityChange (d : Nat)
  /-- RR_ABORT (R165). Writing rr_abort stops re-rating after the handle in progress. -/
  | rrAbort (d : Nat)
  /-- CONTRIBUTION_MESSAGE (R172). The home die applies a contribution to the head value, pending value or member sum, or counts it late or lost. -/
  | contributionMessage (d : Nat)
  /-- GROUP_EVALUATION (R173). LT passes a group interval's end plus the settle time, and the interval is evaluated and classed. -/
  | groupEvaluation (d : Nat) (g : Nat)
  /-- CORRELATION_RESPONSE (R176). An owning die's tamper-record response gives members suspect reasons. -/
  | correlationResponse (d : Nat)
  /-- CORRELATION_TIMEOUT (R176). 1 s after the queries, the finding record is issued, with flag bit 4 if any die did not answer. -/
  | correlationTimeout (d : Nat)
  /-- BALANCE_ITEM_OFFER (R183). Every 1 ms a balance output item is offered to admission and enters its spill queue, or waits. -/
  | balanceItemOffer (d : Nat)
  /-- BALANCE_DISABLE (R180). Clearing BAL_CTRL.enable finishes the evaluation, drains to Idle and stops evaluation. -/
  | balanceDisable (d : Nat)
  /-- REMOTE_LEDGER_REQUEST (R284). An owning die performs attach, detach or read tamper as one record update and responds. -/
  | remoteLedgerRequest (d : Nat)
  /-- REMOTE_LEDGER_RESPONSE (R168). The home die receives the response and completes the waiting balance command. -/
  | remoteLedgerResponse (d : Nat)
  /-- MEMBER_WRITE_TIMEOUT (R168). A member record not written within 1 s is removed again, and the command completes with 0x0316. -/
  | memberWriteTimeout (d : Nat)
  /-- DETACH_RETRY (R169). Every 10 s an unanswered detach of a deleted group is repeated. -/
  | detachRetry (d : Nat)
  /-- PACKET_COMMIT (R194). An item's copy into the queue completes, and its length word is written. -/
  | packetCommit (d : Nat) (c : Nat)
  /-- QUEUE_SPILL (R193). Committed tail packets move to the middle, or bypass to the head. -/
  | queueSpill (d : Nat) (c : Nat)
  /-- QUEUE_REFILL (R193). With 16 KiB or more free in the head, the head refills from the middle. -/
  | queueRefill (d : Nat) (c : Nat)
  /-- ITEM_DELIVERY (R192). An applied item's completion is written into its class CQ in sequence order when the ring has room. -/
  | itemDelivery (d : Nat) (c : Nat)
  /-- RING_FULLNESS_REPORT (R186). A change of a class ring's fullness reaches an L-die and starts or ends a hold. -/
  | ringFullnessReport (d : Nat) (c : Nat)
  /-- HOLD_LIMIT_EXCEEDED (R187). A class hold passes hold_limit; L-099 is raised and admission refuses with 0x0A04. -/
  | holdLimitExceeded (d : Nat) (c : Nat)
  /-- WINDOW_BUCKET_ROLL (R189). Every 1 ms the oldest window_work bucket drops out. -/
  | windowBucketRoll (d : Nat)
  /-- QUEUE_ENABLE (R190). Setting QUE_n_CTRL.enable runs the queue, or refuses with 0x0A06 and L-103. -/
  | queueEnable (d : Nat) (c : Nat)
  /-- QUEUE_DISABLE (R196). Clearing enable refuses admission and drains the queue to Idle, raising L-096. -/
  | queueDisable (d : Nat) (c : Nat)
  /-- QUEUE_FLUSH (R195). Writing flush places a marker; packets ahead of it are delivered without thresholds or moderation, then L-100 is raised. -/
  | queueFlush (d : Nat) (c : Nat)
  /-- DELIVER_POSITION_MIRROR (R197). Every wm_period_us the deliver position is sent to the substitute. -/
  | deliverPositionMirror (d : Nat)
  /-- SQ_TAIL_DOORBELL (R205). An SQ tail doorbell gives the device new entries, or stops the ring if invalid. -/
  | sqTailDoorbell (p : Nat) (g : Nat) (v : Nat)
  /-- CQ_HEAD_DOORBELL (R207). A CQ head doorbell frees entries, or stops the ring if invalid. -/
  | cqHeadDoorbell (p : Nat) (g : Nat) (v : Nat)
  /-- SQ_ENTRY_FETCH (R205). The device fetches the next SQ entry and dispatches it to its target die, completing unaccepted opcodes with 0x0101. -/
  | sqEntryFetch (g : Nat) (e : Bytes)
  /-- HOST_MEMORY_ACCESS_FAIL (R210). A failed host memory access stops the ring concerned or fails the command with 0x0105. -/
  | hostMemoryAccessFail (kind : Nat) (g : Nat) (id : Nat)
  /-- COMPLETION_WRITE (R208). A submission, event or progress completion is written into its CQ, continuations first, when room exists. -/
  | completionWrite (g : Nat)
  /-- MSI_X_SIGNAL (R221). A CQ reaching its moderation count or time signals its vector. -/
  | msiXSignal (g : Nat)
  /-- SQ_DISABLE (R223). Clearing sq_enable stops fetching, returns outstanding entries with 0x0106 and raises L-104. -/
  | sqDisable (g : Nat)
  /-- CQ_DISABLE (R224). Clearing cq_enable stops writing at a completion boundary and goes Idle, or is refused while the SQ is not Idle. -/
  | cqDisable (g : Nat)
  /-- RING_ENABLE (R224). Setting sq_enable or cq_enable starts a ring, or refuses it with 0x010C on an invalid size or base. -/
  | ringEnable (g : Nat) (sq : Bool)
  /-- HIF_PORT_WRITE (R201). Writing HIF_PORT sets the port mode, or is refused while groups are not Idle. -/
  | hifPortWrite (v : Nat)
  /-- PORT_LINK_DOWN (R225). A port link goes down, raising L-107, and in active-standby the ring groups move to the other port. -/
  | portLinkDown (p : Nat)
  /-- PORT_LINK_UP (R225). A port link comes up and L-108 is raised. -/
  | portLinkUp (p : Nat) (speed : Nat) (width : Nat)
  /-- FAILBACK (R226). Writing failback returns the groups to port A at the next completion boundaries. -/
  | failback
  /-- DOWNLINK_EXPIRY (R213). An unsent downlink past its expiry completes with 0x0107. -/
  | downlinkExpiry (d : Nat)
  /-- DOWNLINK_AT_TIME (R214). A downlink with when = 1 reaches its hand-over time and is handed to the transmit path or modem. -/
  | downlinkAtTime (d : Nat)
  /-- LONG_OPERATION_COMPLETE (R220). A long operation ends; a final progress entry and the submission completion carry its counts. -/
  | longOperationComplete (d : Nat) (op : Nat)
  /-- LONG_OPERATION_PROGRESS (R220). A long operation's percent increases, and a progress entry is written at most every 100 ms. -/
  | longOperationProgress (d : Nat) (op : Nat)
  /-- READ_RECORD (R212). Opcode 0x01 copies a meter record to host memory. -/
  | readRecord (d : Nat)
  /-- PROVISION_RECORD (R212). Opcode 0x02 provisions a Free record from an image, or refuses a duplicate identity. -/
  | provisionRecord (d : Nat) (image : Bytes)
  /-- SET_RECORD_STATE (R212). Opcode 0x03 sets rec_state. -/
  | setRecordState (d : Nat)
  /-- LOAD_PROGRAM (R150). Opcode 0x04 checks and schedules a tariff program's activation. -/
  | loadProgram (d : Nat) (src : Bytes)
  /-- SET_PROGRAM (R150). Opcode 0x05 moves a meter to another program at an activation LT. -/
  | setProgram (d : Nat)
  /-- CLOSE_PERIOD (R157). Opcode 0x06 closes the periods of bill_day-0 meters at a named boundary. -/
  | closePeriod (d : Nat)
  /-- TOP_UP (R162). Opcode 0x07 credits a prepayment balance if the sequence is newer, and may queue reconnection. -/
  | topUp (d : Nat)
  /-- ACCEPT_EMERGENCY_CREDIT (R160). Opcode 0x08 accepts emergency credit when it is available. -/
  | acceptEmergencyCredit (d : Nat)
  /-- DISCONNECT (R162). Opcode 0x09 queues an open relay downlink with reason 1. -/
  | disconnect (d : Nat)
  /-- RECONNECT (R162). Opcode 0x0A queues a close relay downlink with reason 1. -/
  | reconnect (d : Nat)
  /-- RERATE (R164). Opcode 0x0B re-rates a range of meters from the archive in report or apply mode as a long operation. -/
  | rerate (d : Nat)
  /-- READ_DISCONTINUITY_LOG (R212). Opcode 0x0C copies clock discontinuity log entries. -/
  | readDiscontinuityLog (d : Nat)
  /-- READ_DEFERRAL_STATISTICS (R212). Opcode 0x0D copies the deferral counts and optionally clears them. -/
  | readDeferralStatistics (d : Nat)
  /-- ABORT_OPERATION (R220). Opcode 0x0F ends a running long operation, which completes with 0x010B. -/
  | abortOperation (d : Nat)
  /-- ASSIGN_SLOT (R70). Opcode 0x10 assigns a data slot, period and phase, or fails with 0x0509 to 0x050B. -/
  | assignSlot (d : Nat)
  /-- RELEASE_SLOT (R70). Opcode 0x11 frees a meter's assignment. -/
  | releaseSlot (d : Nat)
  /-- GRANT_HALL_PASS (R70). Opcode 0x12 writes a hall-pass entry, or fails with 0x050D. -/
  | grantHallPass (d : Nat)
  /-- REVOKE_HALL_PASS (R70). Opcode 0x13 frees a meter's hall pass. -/
  | revokeHallPass (d : Nat)
  /-- IMPORT_KEY (R119). Opcode 0x20 imports a Bordar package into a slot, or fails with 0x020A. -/
  | importKey (d : Nat) (pkg : Bytes)
  /-- IMPORT_METER_KEY (R212). Opcode 0x21 places a meter key in the link or spare position, or refuses. -/
  | importMeterKey (d : Nat) (pkg : Bytes)
  /-- EXPORT_KEY (R119). Opcode 0x22 exports an exportable key wrapped under a host-named slot. -/
  | exportKey (d : Nat)
  /-- DERIVE_KEY (R122). Opcode 0x23 derives a key into a target slot. -/
  | deriveKey (d : Nat) (src : Bytes)
  /-- GENERATE_KEY (R212). Opcode 0x24 generates a key inside a slot. -/
  | generateKey (d : Nat)
  /-- CLEAR_SLOT (R212). Opcode 0x25 clears a general slot. -/
  | clearSlot (d : Nat)
  /-- ATTEST (R131). Opcode 0x26 writes a signed attestation statement. -/
  | attest (d : Nat) (nonce : Bytes)
  /-- ROTATE (R129). Opcode 0x27 stages new keys for a range of handles as a long operation. -/
  | rotate (d : Nat)
  /-- CANCEL_STAGE (R127). Opcode 0x28 empties the spare of a Staged meter, or fails with 0x0208. -/
  | cancelStage (d : Nat)
  /-- LIFECYCLE_ADVANCE (R114). Opcode 0x29 programs a lifecycle step that takes effect at power-on. -/
  | lifecycleAdvance (d : Nat) (hash : Bytes) (fuseOk : Bool)
  /-- READ_UNKNOWN_SUMMARY (R139). Opcode 0x2A copies and optionally empties the unknown-identity summary. -/
  | readUnknownSummary (d : Nat)
  /-- DEFINE_GROUP (R167). Opcode 0x30 defines a plain group or phase set and attaches heads. -/
  | defineGroup (d : Nat)
  /-- DELETE_GROUP (R169). Opcode 0x31 stops evaluation, clears any finding, detaches members and frees the group. -/
  | deleteGroup (d : Nat)
  /-- ADD_MEMBER (R168). Opcode 0x32 adds a member entry and attaches the member's record. -/
  | addMember (d : Nat)
  /-- REMOVE_MEMBER (R168). Opcode 0x33 removes a member and detaches its record. -/
  | removeMember (d : Nat)
  /-- SET_HEAD (R168). Opcode 0x34 sets a group's head meter. -/
  | setHead (d : Nat)
  /-- READ_GROUP (R167). Opcode 0x35 copies a group table entry. -/
  | readGroup (d : Nat)
  /-- RESET_STATISTICS (R167). Opcode 0x36 sets mean_r and dev_r. -/
  | resetStatistics (d : Nat)
  /-- READ_ARCHIVE (R249). Opcode 0x40 copies archive entries from a sequence number. -/
  | readArchive (d : Nat)
  /-- READ_HEALTH (R248). Opcode 0x41 copies the archive health report. -/
  | readHealth (d : Nat)
  /-- HOST_READ (R249). Opcode 0x42 reads host-namespace sectors. -/
  | hostRead (d : Nat)
  /-- HOST_WRITE (R249). Opcode 0x43 writes host-namespace sectors and completes once they are verified. -/
  | hostWrite (d : Nat) (data : Bytes)
  /-- HOST_TRIM (R249). Opcode 0x44 trims host-namespace sectors. -/
  | hostTrim (d : Nat)
  /-- PATROL_PASS (R249). Opcode 0x45 runs a whole patrol pass as a long operation. -/
  | patrolPass (d : Nat)
  /-- FORMAT (R249). Opcode 0x46 erases all namespaces and records a new layout. -/
  | format (d : Nat)
  /-- SWITCHOVER (R263). Opcode 0x50 swaps the roles of a Protected pair with a gap of at most 100 µs. -/
  | switchover (d : Nat)
  /-- RESYNC (R264). Opcode 0x51 restarts a Fenced or Failed die and resynchronises it. -/
  | resync (d : Nat)
  /-- STAGE_FIRMWARE (R272). Opcode 0x52 verifies and writes an image into the alternate boot bank. -/
  | stageFirmware (d : Nat) (img : Image)
  /-- UPDATE_DIE (R273). Opcode 0x53 restarts a die with the staged image and resynchronises it, or restarts the control cores of a Single die. -/
  | updateDie (d : Nat)
  /-- READ_REPORT_CARD (R271). Opcode 0x54 copies a die's report card. -/
  | readReportCard (d : Nat)
  /-- RELEASE (R259). Opcode 0x55 frees a Failed die from reset, optionally resynchronising it. -/
  | release (d : Nat)
  /-- READ_FABRIC (R293). Opcode 0x60 copies the fabric table. -/
  | readFabric (d : Nat)
  /-- SET_PARTITION (R291). Opcode 0x61 checks and publishes a new partition fabric-wide. -/
  | setPartition (d : Nat) (runs : List (Nat × Nat)) (remote : Nat) (others : Nat)
  /-- READ_PARTITION (R293). Opcode 0x62 copies the partition. -/
  | readPartition (d : Nat)
  /-- SET_PACKAGE_NUMBER (R293). Opcode 0x63 records a package number, and the package rejoins. -/
  | setPackageNumber (d : Nat)
  /-- READ_START_LOG (R354). Opcode 0x70 copies the start log. -/
  | readStartLog (d : Nat)
  /-- LOAD_RECOVERY_IMAGE (R354). Opcode 0x71 verifies and writes an image to the recovery bank on trial. -/
  | loadRecoveryImage (d : Nat) (img : Image)
  /-- RESTART (R354). Opcode 0x72 saves where in service and resets every die into the named bank. -/
  | restart (d : Nat)
  /-- CLEAR_FAILED_STARTS (R354). Opcode 0x73 clears the Remedial flag and the failed-start count. -/
  | clearFailedStarts (d : Nat)
  /-- RUN_DIAGNOSTIC (R354). Opcode 0x74 runs a named Invigilator test in the foreground. -/
  | runDiagnostic (d : Nat) (corrected : Nat) (failed : Bool) (upOk : Bool)
  /-- WRITE_CONFIG (R354). Opcode 0x75 checks and writes both copies of a configuration blob. -/
  | writeConfig (d : Nat) (blob : Bytes) (writes : List CfgWrite) (crcOk : Bool)
  /-- READ_CONFIG (R354). Opcode 0x76 copies the configuration blob. -/
  | readConfig (d : Nat)
  /-- DOWNLINK (R214). Opcode 0x80 queues a downlink frame to wait for an Accept, a time or as soon as possible. -/
  | downlink (d : Nat) (frame : Bytes)
  /-- HEAD_END_FRAME (R216). Opcode 0x81 submits a frame, which is forwarded to the owning die when it has a free decision slot. -/
  | headEndFrame (d : Nat)
  /-- ARC_ENABLE (R230). Setting ARC_CTRL.enable identifies the NAND and fixes or checks the layout, or refuses with 0x0408. -/
  | arcEnable (d : Nat) (luns : Nat) (bpl : Nat) (sectors : Nat) (planes : Nat) (slc : Bool) (gib : Nat) (pe : Nat) (ok : Bool)
  /-- ARC_DISABLE (R250). Clearing ARC_CTRL.enable completes operations, programs open pages and goes Idle, or is refused while the ledger runs. -/
  | arcDisable (d : Nat)
  /-- OPEN_PAGE_PROGRAM (R232). An open page that is full or has aged flush_ms is programmed, padded if early. -/
  | openPageProgram (d : Nat)
  /-- NAND_PROGRAM_STATUS (R244). A program completes; a failure rebuilds from parity, relocates the block and retires it with L-112. -/
  | nandProgramStatus (d : Nat) (ok : Bool)
  /-- NAND_ERASE_STATUS (R244). An erase completes; a failure retires the block. -/
  | nandEraseStatus (d : Nat) (b : Nat) (ok : Bool)
  /-- SECTOR_DECODE_FAIL (R245). A sector failing LDPC is retried, rebuilt, fetched from the pair or recorded lost. -/
  | sectorDecodeFail (d : Nat) (key : Nat) (retryOk : Bool) (rowOk : Bool)
  /-- GARBAGE_COLLECTION (R240). Collection picks the closed block with the fewest valid sectors and copies them. -/
  | garbageCollection (d : Nat)
  /-- COPY_VERIFIED (R240). A copied page verifies, and its mapping moves; a victim with no valid sector is erased. -/
  | copyVerified (d : Nat) (bits : Nat)
  /-- PATROL_READ (R243). The patrol reads the oldest page and refreshes blocks above refresh_bits. -/
  | patrolRead (d : Nat) (bits : Nat)
  /-- WEAR_LEVEL_CHECK (R239). Daily, a spread above ARC_WEAR.spread relocates the coldest block. -/
  | wearLevelCheck (d : Nat)
  /-- GOVERNOR_RUN (R247). Hourly the governor computes life_full and enters or leaves summary form, raising L-116. -/
  | governorRun (d : Nat)
  /-- CHECKPOINT_PASS (R236). A checkpoint page of 32 records is written in rolling order, and a pass ends by time or log volume. -/
  | checkpointPass (d : Nat)
  /-- JOURNAL_BLOCK_ERASE (R237). A journal block is erased and verified; a low count raises L-117. -/
  | journalBlockErase (d : Nat) (bad : Nat)
  /-- ARCHIVE_TRIM (R234). With under 2 % free and nothing to collect, the oldest archive blocks are trimmed, and L-119 is raised. -/
  | archiveTrim (d : Nat)
  /-- MAP_WRITE_BACK (R231). Dirty mapping pages are written back at P6. -/
  | mapWriteBack (d : Nat)
  /-- HEARTBEAT_MESSAGE (R257). A partner's link heartbeat arrives, carrying its role and fault flag. -/
  | heartbeatMessage (d : Nat)
  /-- PATH_SILENCE (R258). A heartbeat path is silent for silence_us; one path raises L-130, while both, or a fault plus silence, declare the partner failed. -/
  | pathSilence (d : Nat) (wire : Bool)
  /-- PATH_RESTORED (R258). A faulted path live for 10 ms clears the fault and raises L-130. -/
  | pathRestored (d : Nat) (wire : Bool)
  /-- OWN_FATAL_FAULT (R257). A die detecting a fatal fault sets its fault signalling and stops heartbeats. -/
  | ownFatalFault (d : Nat)
  /-- FENCE_CONFIRMED (R259). The package reset controller grants the fence and holds the partner in die reset. -/
  | fenceConfirmed (d : Nat)
  /-- FENCED_DIE_RESTART (R259). A fenced die is restarted once through bring-up and resynchronised, or left Failed. -/
  | fencedDieRestart (d : Nat)
  /-- RESYNC_COMPLETE (R264). The bulk copy ends; the die becomes Substitute, the pair Protected, and L-132 is raised. -/
  | resyncComplete (d : Nat)
  /-- ARC_CATCHUP_COMPLETE (R266). MIRR_ARC_LAG reaches 0, and L-137 is raised. -/
  | arcCatchupComplete (d : Nat)
  /-- FDIE_LOST (R267). An F-die silent for silence_us is fenced, its messages are dropped, and L-136 is raised. -/
  | fdieLost (d : Nat) (f : Nat)
  /-- INVIGILATOR_TEST (R269). An Invigilator test runs at its pace, and failures are graded and acted on. -/
  | invigilatorTest (d : Nat) (id : Nat) (corrected : Nat) (failed : Bool)
  /-- LINK_TRAINING_COMPLETE (R277). An Eufer port trains at x4 or x2, and L-138 is raised. -/
  | linkTrainingComplete (d : Nat) (lanes : Nat) (far : Nat)
  /-- LINK_RETRAIN (R277). A port that failed to train retries every 100 ms. -/
  | linkRetrain (d : Nat)
  /-- LINK_DOWN (R278). Loss of lock, failed replays or stalled acknowledgements take the link down, and routes fail over. -/
  | linkDown (d : Nat)
  /-- FLIT_RECEIVED (R278). A flit is acknowledged, or negatively acknowledged on a CRC failure so that the sender replays. -/
  | flitReceived (d : Nat) (seq : Nat) (crcOk : Bool) (ackTo : Nat) (nack : Bool) (m : Option FabMsg)
  /-- FABRIC_MESSAGE (R279). A fabric message is forwarded, delivered or discarded on ttl 0. -/
  | fabricMessage (d : Nat)
  /-- FLOW_DELIVERY (R281). A class 5 or 6 message is delivered if next in sequence and acknowledged cumulatively. -/
  | flowDelivery (d : Nat)
  /-- ACK_ONLY_TIMER (R281). 20 µs without reverse traffic sends an acknowledgement-only message. -/
  | ackOnlyTimer (d : Nat) (cls : Nat) (src : Nat)
  /-- RETRANSMIT_TIMEOUT (R281). 200 µs without acknowledgement progress resends from the first unacknowledged message. -/
  | retransmitTimeout (d : Nat) (cls : Nat) (dst : Nat)
  /-- UNREACH_TIMEOUT (R282). A message without a route for unreach_ms is dropped, and L-141 is raised. -/
  | unreachTimeout (d : Nat) (cls : Nat) (dst : Nat)
  /-- CANDIDACY (R285). A received candidacy lower than the best seen is forwarded. -/
  | candidacy (d : Nat)
  /-- ELECTION_QUIET (R285). 20 ms without a lower candidacy makes the lowest package coordinator. -/
  | electionQuiet (d : Nat)
  /-- CLAIM (R286). The coordinator grants package numbers, admits in Conflict or Excludes, and floods the fabric table. -/
  | claim (d : Nat)
  /-- LINK_STATE_RECORD (R288). A flooded link-state record triggers route recomputation and installation. -/
  | linkStateRecord (d : Nat)
  /-- PARTITION_PUBLICATION (R290). A published partition is stored in the journal and derived into the F-die tables. -/
  | partitionPublication (d : Nat)
  /-- LEDGER_ONLINE_REPORT (R285). The coordinator collects ledger-online reports and floods formed, raising L-139. -/
  | ledgerOnlineReport (d : Nat)
  /-- EUF_PORT_DISABLE (R292). Clearing EUF_CTRL.enable routes around the port, drains it and raises L-138. -/
  | eufPortDisable (d : Nat)
  /-- ETH_FRAME_RECEIVED (R297). A received Ethernet frame is filtered and consumed as PTP, ARP or PAUSE, or dropped. -/
  | ethFrameReceived (d : Nat) (b : Bytes) (ts : Nat) (fits : Bool)
  /-- PAUSE_EXPIRY (R300). The PAUSE time ends, and transmission resumes. -/
  | pauseExpiry (d : Nat)
  /-- PAUSE_WATCHDOG (R300). Continuous PAUSE for wd_ms makes the MAC ignore PAUSE for 1 s and raises L-123. -/
  | pauseWatchdog (d : Nat)
  /-- COLLISION (R299). A half-duplex collision sends jam and backs off, or drops the frame. -/
  | collision (d : Nat)
  /-- BACKOFF_END (R299). An Ethernet back-off ends, and the frame is retried. -/
  | backoffEnd (d : Nat)
  /-- DELAY_REQ_TIMER (R301). Every 2^dreq_log s a Delay_Req is sent. -/
  | delayReqTimer (d : Nat)
  /-- SYNC_TIMEOUT (R301). No Sync for 3 s loses the PTP master and raises L-126. -/
  | syncTimeout (d : Nat)
  /-- DIRECT_ALARM_ACTIVATE (R303). The SC0 ring full or the ports down for wait_ms activates the direct-alarm path and raises L-124. -/
  | directAlarmActivate (d : Nat)
  /-- DIRECT_ALARM_SEND (R304). An applied SC0 item is built into an authenticated datagram and sent. -/
  | directAlarmSend (d : Nat)
  /-- ALARM_COPY_TIMER (R305). spacing_ms after a copy, the next copy of an alarm is sent. -/
  | alarmCopyTimer (d : Nat)
  /-- ALARM_ENABLE (R306). Setting alarm_en checks the template and key slot, or refuses with cfg_error. -/
  | alarmEnable (d : Nat)
  /-- ETH_DISABLE (R307). Clearing ETH_CTRL.enable finishes frames, discards queues and raises L-121. -/
  | ethDisable (d : Nat)
  /-- ETH_LINK_CHANGE (R307). The PHY link goes up or down, and L-122 is raised. -/
  | ethLinkChange (d : Nat) (up : Bool) (speed : Nat) (full : Bool)
  /-- MDIO_ACCESS (R296). ETH_MDIO.go starts a clause 22 read or write, and go clears when done. -/
  | mdioAccess (d : Nat) (v : Nat)
  /-- SLATE_ENABLE (R316). Setting SLATE_CTRL.enable raises the pumps, clears an interrupted update and enters Running. -/
  | slateEnable (d : Nat)
  /-- SLATE_DISABLE (R317). Clearing enable, or Recess without recess_keep, finishes, grounds the pins, discharges the pumps and raises F-076. -/
  | slateDisable (d : Nat)
  /-- PUMP_SETTLED (R316). VLCD or ±vdrive settle, and the Slate proceeds to show or clear. -/
  | pumpSettled (d : Nat)
  /-- PUMP_DISCHARGED (R317). The pump outputs fall below 0.2 V, the state becomes Off and the retention store is written. -/
  | pumpDischarged (d : Nat)
  /-- SLATE_UPDATE (R314). Writing update starts, defers or queues an electrophoretic update. -/
  | slateUpdate (d : Nat)
  /-- WF_CHECK (R312). Writing wf_check checks the waveform tables and sets wf_ok. -/
  | wfCheck (d : Nat)
  /-- TEMP_SAMPLE (R313). Every 1 s the panel temperature and band are sampled, VLCD is adjusted and a deferred update may start. -/
  | tempSample (d : Nat)
  /-- PHASE_BOUNDARY (R318). A waveform phase ends and the journal is written; the last phase ends the update and may schedule a refresh. -/
  | phaseBoundary (d : Nat)
  /-- REST_TIMER (R314). rest_ms after an update, the pending update or the corrective refresh starts. -/
  | restTimer (d : Nat)
  /-- DOMAIN_ENABLE (R322). Writing PWR_DOM_EN powers domains up or down, or refuses with L-020 or F-020. -/
  | domainEnable (d : Nat) (v : Nat)
  /-- RECESS_GO (R325). Writing recess_go enters the Recess level, or refuses it. -/
  | recessGo (d : Nat)
  /-- WAKE (R326). An enabled wake source, or a write to PWR_RECESS, restores the domains and raises L-019 or F-019. -/
  | wake (d : Nat) (src : Nat)
  /-- TIMING_MESSAGE (R329). A P0 timing message from the time master aligns a die's counter every 1 ms. -/
  | timingMessage (d : Nat)
  /-- SET_GO (R330). Writing set_go makes a host-time measurement that slews or steps device time. -/
  | setGo (d : Nat)
  /-- PTP_MEASUREMENT (R330). The steering MAC delivers an offset that disciplines device time. -/
  | ptpMeasurement (d : Nat)
  /-- PPS_IN_EDGE (R330). A PPS_IN edge is measured against the whole second, or ignored and counted. -/
  | ppsInEdge (d : Nat) (rising : Bool)
  /-- HOLDOVER_ENTRY (R331). 3 s without a measurement moves Locked to Holdover. -/
  | holdoverEntry (d : Nat)
  /-- HOLDOVER_EXPIRY (R331). CLK_HOLD reaching 14,400 s moves quality to Invalid. -/
  | holdoverExpiry (d : Nat)
  /-- PPS_OUT_EDGE (R332). At each whole second the time master drives PPS_OUT high for out_width_ms. -/
  | ppsOutEdge (d : Nat)
  /-- PPS_IN_LOSS (R332). No PPS_IN edge for 3 s raises L-027. -/
  | ppsInLoss (d : Nat)
  /-- ZC_COMPARISON (R333). Every 24 h the mean mains frequency is compared with the nominal, setting or clearing ref_fault. -/
  | zcComparison (d : Nat) (uhz : Nat)
  /-- BROWNOUT_WARNING (R335). VMON_IN below warn_mv starts the P0 save on every die. -/
  | brownoutWarning (mv : Nat)
  /-- SAVE_COMMIT (R335). An L-die's journal block is written, and the commit marker sets PWR_STAT.saved. -/
  | saveCommit (d : Nat)
  /-- SUPPLY_RECOVERY (R336). VMON_IN above warn_mv + hyst for 1 ms resumes without reset and supersedes the journal. -/
  | supplyRecovery (mv : Nat)
  /-- VMON_RESET (R334). VMON_IN below reset_mv holds the device in reset once any save has committed. -/
  | vmonReset (mv : Nat)
  /-- THERMAL_SAMPLE (R339). A junction sample changes the thermal stage or trips the die. -/
  | thermalSample (d : Nat) (tj : Int) (sensor : Nat)
  /-- PLL_UNLOCK (R327). A PLL loses lock, setting CLK_STAT and raising L-023 or F-023. -/
  | pllUnlock (d : Nat) (k : Nat)
  /-- CLK_REF_LOSS (R366). No CLK_REF edges for 10 µs halts every data path and invalidates time. -/
  | clkRefLoss
  /-- CLK_REF_RESTORED (R366). CLK_REF stable for 2 ms restarts every die through bring-up. -/
  | clkRefRestored
  /-- MARGIN_REPLAN (R342). Periodically, on a 15 °C change or on plan_now, the VCORE, refresh, NAND and RF margins are re-planned. -/
  | marginReplan (d : Nat) (v : AgeView)
  /-- PLAN_NOW (R342). Writing plan_now starts a re-plan at once. -/
  | planNow (d : Nat)
  /-- SLACK_DEFICIT (R342). A path monitor below guard_ps ÷ 2 raises VCORE by 10 mV, or invokes the fall-back divider. -/
  | slackDeficit (d : Nat) (slack : Int) (monitor : Nat)
  /-- AVS_COMMAND_FAIL (R343). An AVSBus command failing 3 attempts sets avs_fault and raises L-030. -/
  | avsCommandFail (d : Nat)
  /-- AVS_ENABLE (R343). Setting avs_en starts AVSBus control of VCORE. -/
  | avsEnable (d : Nat)
  /-- RESET_RELEASE (R348). RESET_N release or the end of a warm reset starts ROM: fuse check, DRAM training and image verification. -/
  | resetRelease (d : Nat) (powerOn : Bool) (fuseOk : Bool) (dramOk : Bool)
  /-- BOOT_IMAGE_MESSAGE (R346). A die receives its image from the boot die, verifies it and measures M0 and M1. -/
  | bootImageMessage (d : Nat)
  /-- BOOT_ANSWER_TIMEOUT (R346). A die not answering within 20 ms fails the start with 0x0905, or L1 boots from its own flash. -/
  | bootAnswerTimeout (d : Nat)
  /-- BOOT_STAGE_ADVANCE (R348). A die completes a stage's work and enters the next, applying the configuration writes due. -/
  | bootStageAdvance (d : Nat) (ok : Bool)
  /-- STAGE_BOUND_EXPIRY (R348). A stage not reached within its bound fails the start with 0x0906. -/
  | stageBoundExpiry (d : Nat)
  /-- RESTORING_COMPLETE (R349). Layout, map, journal, checkpoints and replay are restored, and pair roles are decided. -/
  | restoringComplete (d : Nat) (layoutOk : Bool)
  /-- JOINING_TIMEOUT (R351). 60 s in Joining without a formed fabric goes Online alone and raises L-009. -/
  | joiningTimeout (d : Nat)
  /-- START_UP_RECOVERY_COMPLETE (R350). Start-up recovery finishes; the stage becomes Service and L-007 is raised. -/
  | startUpRecoveryComplete (d : Nat)
  /-- GPIO_EDGE (R376). A GPIO edge persisting 2 µs raises F-080 + n, or wakes the die. -/
  | gpioEdge (d : Nat) (n : Nat) (rising : Bool)
  /-- EVENT_RAISE_MESSAGE (R378). The host port die receives a raise from a portless die and writes or coalesces its event entry. -/
  | eventRaiseMessage
  /-- EVT_TEST (R378). Writing EVT_TEST.go raises the named source. -/
  | evtTest (d : Nat) (n : Nat)
  /-- EVT_PEND_CLEAR (R379). Writing 1 to an EVT_PEND bit clears it and re-arms the direct signal. -/
  | evtPendClear (d : Nat) (w : Nat) (mask : Nat)
  /-- MSI_X_UNMASK (R221). Host software unmasks an MSI-X vector whose pending bit is set, and the vector signals once. -/
  | msiXUnmask (p : Nat) (v : Nat)
  /-- PLC_TX_END (R96). A power-line transmission leaves the line; the transmitter passes to the next queued frame, and a downlink that needs no MAC acknowledgement completes. -/
  | plcTxEnd (d : Nat)
  /-- PAUSE_IGNORE_END (R300). The 1 s during which the MAC ignores PAUSE after the watchdog fires runs out; pause_ignored clears and PAUSE is honoured again. -/
  | pauseIgnoreEnd (d : Nat)
  /-- FRAME_PAIR_BOUNDARY (R309). At each liquid-crystal frame-pair boundary the Slate takes up a new image and steps VLCD toward its target by at most 50 mV per frame. -/
  | framePairBoundary (d : Nat)
  /-- RESET_N_ASSERTED (R360). The board drives RESET_N low; every die enters its reset pin states, and a start still in progress counts as failed. -/
  | resetNAsserted
  /-- DOMAIN_POWER_UP_COMPLETE (R322). A domain whose bit was set finishes powering up within 100 µs, and PWR_DOM_STAT shows it on with its blocks accessible. -/
  | domainPowerUpComplete (d : Nat)
  /-- LEDGER_ENABLE (R252). Setting LEDG_CTRL.enable runs the ledger engine, and the first such enable records the paired mode and the package identity in the layout record. -/
  | ledgerEnable (d : Nat)
  /-- ETH_ENABLE (R296). Setting ETH_CTRL.enable starts the MAC, or refuses with cfg_error for half duplex at 1000 Mb/s. -/
  | ethEnable (d : Nat)
  /-- EUF_PORT_ENABLE (R277). Setting EUF_CTRL.enable, or the die's own enable after Restoring, starts link training on the external Eufer port. -/
  | eufPortEnable (d : Nat)
  deriving DecidableEq, Repr

end Sys2Proof
end

