-- ==== Sys2Proof/Decode.lean ====
section
/-! DEFINITION. The words of spec/opcode_table.json. Its rows are events and commands of a block and give no bits: no word spells
one. -/

namespace Sys2Proof

/-- The command that a word of `nbits` bits spells by the table: none, since no row of the table has bits. -/
def decodeTableWord (_nbits _w : Nat) : Option Instr := none

end Sys2Proof
end

