-- ==== Sys2Proof/Machine/Crypto.lean ====
section
/-! DEFINITION. The cryptographic primitives the spec names (05_locker_security: AES-128 and AES-256, CCM*, GCM,
CBC, CMAC, SHA-256, HMAC, HKDF, the SP 800-108 KDF and P-256). The spec names them and does not restate them: their
content is PRESUMED from the standards they are named after (assumption log 5). -/

namespace Sys2Proof.Machine

/-! ### AES -/

/-- The S-box, byte `i` of the number being the image of `i`. -/
def aesSbox : Nat :=
  0x1531D871F1E5A534CCF73F362693FDB7C072A49CAFA2D4ADF04759FA7DC982CA76ABD7FE2B670130C56F6BF27B777C63
  + 0xCF584C4A39BECB6A5BB1FC20ED00D153842FE329B3D63B52A05A6E1B1A2C830975B227EBE28012079A059618C323C704 * 2 ^ 384
  + 0x73195D643D7EA7C41744975FEC130CCDD2F3FF1021DAB6BCF5389D928F40A351A89F3C507F02F94585334D43FBAAEFD0 * 2 ^ 768
  + 0x08AE7A65EAF4566CA94ED58D6D37C8E779E4959162ACD3C25C2406490A3A32E0DB0B5EDE14B8EE4688902A22DC4F8160 * 2 ^ 1152
  + 0xDF2855CEE9871E9B948ED9691198F8E19E1DC186B95735610EF6034866B53E708A8BBD4B1F74DDE8C6B4A61C2E2578BA * 2 ^ 1536
  + 0x16BB54B00F2D99416842E6BF0D89A18C * 2 ^ 1920

/-- The inverse S-box. -/
def aesInvSbox : Nat :=
  0x4EC3FA420B954CEE3D23C2A632947B54CBE9DEC444438E3487FF2F9B8239E37CFBD7F3819EA340BF38A53630D56A0952
  + 0x849D8DA75746155EDAB9EDFD5048706C92B6655DCC5CA4D41698688664F6F87225D18B6D49A25B76B224D92866A12E08 * 2 ^ 384
  + 0x73E6B4F0CECFF297EADC674F4111913A6B8A130103BDAFC1020F3FCA8F1E2CD00645B3B80558E4F70AD3BC8C00ABD890 * 2 ^ 768
  + 0xF45ACD78FEC0DB9A2079D2C64B3E56FC1BBE18AA0E62B76F89C5291D711AF1476EDF751CE837F9E28535ADE72274AC96 * 2 ^ 1152
  + 0x619953833CBBEBC8B0F52AAE4D3BE0A0EF9CC9939F7AE52D0D4AB519A97F51605FEC8027591012B131C7078833A8DD1F * 2 ^ 1536
  + 0x7D0C2155631469E126D677BA7E042B17 * 2 ^ 1920

def subByte (b : Nat) : Nat := aesSbox / 2 ^ (8 * b) % 256
def invSubByte (b : Nat) : Nat := aesInvSbox / 2 ^ (8 * b) % 256

/-- Multiplication by x in GF(2^8). -/
def xtime (b : Nat) : Nat := if 256 ≤ 2 * b then (2 * b) ^^^ 0x11B else 2 * b

/-- Multiplication in GF(2^8), over `n` bits of the second factor. -/
def gmul : Nat → Nat → Nat → Nat
  | 0, _, _ => 0
  | n + 1, a, b => (if b % 2 = 1 then a else 0) ^^^ gmul n (xtime a) (b / 2)

def xorL (a b : List Nat) : List Nat := List.zipWith (· ^^^ ·) a b

/-- The expanded key as a list of 4-byte words, newest first, after `n` words beyond the first `nk`. -/
def aesExpand (nk : Nat) : Nat → Nat → Nat → List (List Nat) → List (List Nat)
  | 0, _, _, ws => ws
  | n + 1, i, rcon, ws =>
    let prev := ws.headD []
    let t := if i % nk = 0 then
        xorL ((prev.drop 1 ++ prev.take 1).map subByte) [rcon, 0, 0, 0]
      else if nk = 8 ∧ i % nk = 4 then prev.map subByte
      else prev
    aesExpand nk n (i + 1) (if i % nk = 0 then xtime rcon else rcon) (xorL (ws.getD (nk - 1) []) t :: ws)

/-- Cut a list into pieces of `k` (`fuel` pieces at most). -/
def pieces {α : Type} (k : Nat) : Nat → List α → List (List α)
  | 0, _ => []
  | n + 1, l => if l.isEmpty then [] else l.take k :: pieces k n (l.drop k)

/-- The round keys (16 bytes each) of a 16- or 32-byte key. -/
def aesRoundKeys (key : List Nat) : List (List Nat) :=
  let nk := key.length / 4
  let ws := (pieces 4 nk key).reverse
  pieces 16 15 ((aesExpand nk (4 * (nk + 7) - nk) nk 1 ws).reverse.flatten)

def aesShift (s : List Nat) : List Nat :=
  [0, 5, 10, 15, 4, 9, 14, 3, 8, 13, 2, 7, 12, 1, 6, 11].map (s.getD · 0)

def aesInvShift (s : List Nat) : List Nat :=
  [0, 13, 10, 7, 4, 1, 14, 11, 8, 5, 2, 15, 12, 9, 6, 3].map (s.getD · 0)

def aesMixCol (m : List Nat) (c : List Nat) : List Nat :=
  let a := c.getD 0 0; let b := c.getD 1 0; let d := c.getD 2 0; let e := c.getD 3 0
  let p := m.getD 0 0; let q := m.getD 1 0; let r := m.getD 2 0; let t := m.getD 3 0
  [gmul 4 a p ^^^ gmul 4 b q ^^^ gmul 4 d r ^^^ gmul 4 e t,
   gmul 4 a t ^^^ gmul 4 b p ^^^ gmul 4 d q ^^^ gmul 4 e r,
   gmul 4 a r ^^^ gmul 4 b t ^^^ gmul 4 d p ^^^ gmul 4 e q,
   gmul 4 a q ^^^ gmul 4 b r ^^^ gmul 4 d t ^^^ gmul 4 e p]

def aesMix (m : List Nat) (s : List Nat) : List Nat := ((pieces 4 4 s).map (aesMixCol m)).flatten

def aesRounds : List (List Nat) → List Nat → List Nat
  | [], s => s
  | [k], s => xorL (aesShift (s.map subByte)) k
  | k :: ks, s => aesRounds ks (xorL (aesMix [2, 3, 1, 1] (aesShift (s.map subByte))) k)

def aesInvRounds : List (List Nat) → List Nat → List Nat
  | [], s => s
  | [k], s => xorL ((aesInvShift s).map invSubByte) k
  | k :: ks, s => aesInvRounds ks (aesMix [14, 11, 13, 9] (xorL ((aesInvShift s).map invSubByte) k))

def toNats (b : Bytes) : List Nat := b.map BitVec.toNat
def ofNats (l : List Nat) : Bytes := l.map (BitVec.ofNat 8)

/-- One block through the cipher, on expanded keys. -/
def aesBlock (rk : List (List Nat)) (blk : List Nat) : List Nat :=
  aesRounds (rk.drop 1) (xorL blk (rk.headD []))

def aesInvBlock (rk : List (List Nat)) (blk : List Nat) : List Nat :=
  let r := rk.reverse
  aesInvRounds (r.drop 1) (xorL blk (r.headD []))

def zeros16 : List Nat := List.replicate 16 0
def pad16 (l : List Nat) : List Nat := l ++ List.replicate ((16 - l.length % 16) % 16) 0
def blocks16 (l : List Nat) : List (List Nat) := pieces 16 (l.length / 16 + 1) l

/-- CBC-MAC chaining over whole blocks. -/
def cbcMac (rk : List (List Nat)) (iv : List Nat) (bs : List (List Nat)) : List Nat :=
  bs.foldl (fun x b => aesBlock rk (xorL x b)) iv

/-- AES-CBC decryption with a 16-byte IV; whole blocks. -/
def cbcDec (key iv ct : Bytes) : Bytes :=
  let rk := aesRoundKeys (toNats key)
  let r := (blocks16 (toNats ct)).foldl
    (fun (acc : List Nat × List Nat) c => (acc.1 ++ xorL (aesInvBlock rk c) acc.2, c)) ([], toNats iv)
  ofNats r.1

/-- Counter-mode keystream application: counter blocks from `ctr 0` on. -/
def ctrXor (rk : List (List Nat)) (ctr : Nat → List Nat) (data : List Nat) : List Nat :=
  ((blocks16 data).zipIdx.map fun p => xorL p.1 (aesBlock rk (ctr p.2))).flatten

/-! ### CCM* (13-byte nonce) -/

def ccmA (nonce : List Nat) (i : Nat) : List Nat := 1 :: nonce ++ [i / 256 % 256, i % 256]

/-- The untruncated CBC-MAC of CCM* over associated data `a` and message `m` with an `n`-byte MIC. -/
def ccmRaw (rk : List (List Nat)) (nonce a m : List Nat) (n : Nat) : List Nat :=
  let f := (if a.isEmpty then 0 else 64) + (if n = 0 then 0 else 8 * ((n - 2) / 2)) + 1
  let b0 := f :: nonce ++ [m.length / 256 % 256, m.length % 256]
  let aa := if a.isEmpty then [] else pad16 ([a.length / 256 % 256, a.length % 256] ++ a)
  cbcMac rk zeros16 (b0 :: blocks16 (aa ++ pad16 m))

/-- CCM* encryption: the ciphertext followed by the `n`-byte MIC. -/
def ccmSeal (key nonce a m : Bytes) (n : Nat) : Bytes :=
  let rk := aesRoundKeys (toNats key)
  let nn := toNats nonce
  let t := (ccmRaw rk nn (toNats a) (toNats m) n).take n
  ofNats (ctrXor rk (fun i => ccmA nn (i + 1)) (toNats m) ++ xorL t (aesBlock rk (ccmA nn 0)))

/-- CCM* decryption: the plaintext and whether the MIC verifies. -/
def ccmOpen (key nonce a c mic : Bytes) : Bytes × Bool :=
  let rk := aesRoundKeys (toNats key)
  let nn := toNats nonce
  let m := ctrXor rk (fun i => ccmA nn (i + 1)) (toNats c)
  let t := (ccmRaw rk nn (toNats a) m mic.length).take mic.length
  (ofNats m, decide (xorL t (aesBlock rk (ccmA nn 0)) = toNats mic))

/-! ### CMAC -/

def dbl128 (n : Nat) : Nat := if 2 ^ 128 ≤ 2 * n then (2 * n - 2 ^ 128) ^^^ 0x87 else 2 * n

/-- AES-CMAC (16 bytes). -/
def cmac (key msg : Bytes) : Bytes :=
  let rk := aesRoundKeys (toNats key)
  let l := beNat (ofNats (aesBlock rk zeros16))
  let k1 := toNats (beBytes 16 (dbl128 l))
  let k2 := toNats (beBytes 16 (dbl128 (dbl128 l)))
  let m := toNats msg
  let whole := decide (m.length % 16 = 0 ∧ m.length ≠ 0)
  let head := m.take ((m.length - 1) / 16 * 16)
  let last := m.drop ((m.length - 1) / 16 * 16)
  let fin := if whole then xorL last k1 else xorL (pad16 (last ++ [0x80])) k2
  ofNats (cbcMac rk zeros16 (blocks16 head ++ [fin]))

/-! ### GCM (12-byte IV) -/

/-- Multiplication in GCM's GF(2^128), most significant bit first: `n` steps. -/
def ghMul : Nat → Nat → Nat → Nat
  | 0, _, _ => 0
  | n + 1, x, v => (if x.testBit n then v else 0) ^^^
      ghMul n x (if v % 2 = 1 then (v / 2) ^^^ (0xE1 * 2 ^ 120) else v / 2)

def ghash (h : Nat) (data : List Nat) : Nat :=
  (blocks16 data).foldl (fun y b => ghMul 128 (y ^^^ beNat (ofNats b)) h) 0

def gcmCtr (iv : List Nat) (i : Nat) : List Nat := iv ++ toNats (beBytes 4 (i + 1))

def gcmTag (rk : List (List Nat)) (iv a c : List Nat) : List Nat :=
  let h := beNat (ofNats (aesBlock rk zeros16))
  let lens := toNats (beBytes 8 (8 * a.length) ++ beBytes 8 (8 * c.length))
  let g := ghash h (pad16 a ++ pad16 c ++ lens)
  xorL (toNats (beBytes 16 g)) (aesBlock rk (gcmCtr iv 0))

/-- AES-GCM encryption: ciphertext followed by the 16-byte tag. -/
def gcmSeal (key iv a m : Bytes) : Bytes :=
  let rk := aesRoundKeys (toNats key)
  let c := ctrXor rk (fun i => gcmCtr (toNats iv) (i + 1)) (toNats m)
  ofNats (c ++ gcmTag rk (toNats iv) (toNats a) c)

/-- AES-GCM decryption of ciphertext and tag: `none` where the tag fails. -/
def gcmOpen (key iv a c tag : Bytes) : Option Bytes :=
  let rk := aesRoundKeys (toNats key)
  if gcmTag rk (toNats iv) (toNats a) (toNats c) = toNats tag then
    some (ofNats (ctrXor rk (fun i => gcmCtr (toNats iv) (i + 1)) (toNats c)))
  else none

/-! ### SHA-256 -/

/-- The round constants of SHA-256. -/
def shaK : List Nat := [
  0x428A2F98, 0x71374491, 0xB5C0FBCF, 0xE9B5DBA5, 0x3956C25B, 0x59F111F1, 0x923F82A4, 0xAB1C5ED5,
  0xD807AA98, 0x12835B01, 0x243185BE, 0x550C7DC3, 0x72BE5D74, 0x80DEB1FE, 0x9BDC06A7, 0xC19BF174,
  0xE49B69C1, 0xEFBE4786, 0x0FC19DC6, 0x240CA1CC, 0x2DE92C6F, 0x4A7484AA, 0x5CB0A9DC, 0x76F988DA,
  0x983E5152, 0xA831C66D, 0xB00327C8, 0xBF597FC7, 0xC6E00BF3, 0xD5A79147, 0x06CA6351, 0x14292967,
  0x27B70A85, 0x2E1B2138, 0x4D2C6DFC, 0x53380D13, 0x650A7354, 0x766A0ABB, 0x81C2C92E, 0x92722C85,
  0xA2BFE8A1, 0xA81A664B, 0xC24B8B70, 0xC76C51A3, 0xD192E819, 0xD6990624, 0xF40E3585, 0x106AA070,
  0x19A4C116, 0x1E376C08, 0x2748774C, 0x34B0BCB5, 0x391C0CB3, 0x4ED8AA4A, 0x5B9CCA4F, 0x682E6FF3,
  0x748F82EE, 0x78A5636F, 0x84C87814, 0x8CC70208, 0x90BEFFFA, 0xA4506CEB, 0xBEF9A3F7, 0xC67178F2]

/-- The initial hash value of SHA-256. -/
def shaH0 : List Nat := [
  0x6A09E667, 0xBB67AE85, 0x3C6EF372, 0xA54FF53A,
  0x510E527F, 0x9B05688C, 0x1F83D9AB, 0x5BE0CD19]

def rotr (n k : Nat) : Nat := (n / 2 ^ k) ||| (n * 2 ^ (32 - k) % 2 ^ 32)
def add32 (a b : Nat) : Nat := (a + b) % 2 ^ 32

/-- The message schedule, newest word first. -/
def shaSched : Nat → List Nat → List Nat
  | 0, ws => ws
  | n + 1, ws =>
    let a := ws.getD 14 0
    let b := ws.getD 1 0
    let s0 := rotr a 7 ^^^ rotr a 18 ^^^ (a / 2 ^ 3)
    let s1 := rotr b 17 ^^^ rotr b 19 ^^^ (b / 2 ^ 10)
    shaSched n ((ws.getD 15 0 + s0 + ws.getD 6 0 + s1) % 2 ^ 32 :: ws)

structure ShaRegs where
  a : Nat
  b : Nat
  c : Nat
  d : Nat
  e : Nat
  f : Nat
  g : Nat
  h : Nat

def shaRound (r : ShaRegs) (kw : Nat) : ShaRegs :=
  let s1 := rotr r.e 6 ^^^ rotr r.e 11 ^^^ rotr r.e 25
  let ch := (r.e &&& r.f) ^^^ ((2 ^ 32 - 1 - r.e) &&& r.g)
  let t1 := r.h + s1 + ch + kw
  let s0 := rotr r.a 2 ^^^ rotr r.a 13 ^^^ rotr r.a 22
  let mj := (r.a &&& r.b) ^^^ (r.a &&& r.c) ^^^ (r.b &&& r.c)
  ⟨(t1 + s0 + mj) % 2 ^ 32, r.a, r.b, r.c, (r.d + t1) % 2 ^ 32, r.e, r.f, r.g⟩

def shaBlock (h : List Nat) (blk : List Nat) : List Nat :=
  let ws := (pieces 4 16 blk).map fun w => beNat (ofNats w)
  let sched := (shaSched 48 ws.reverse).reverse
  let r0 : ShaRegs := ⟨h.getD 0 0, h.getD 1 0, h.getD 2 0, h.getD 3 0, h.getD 4 0, h.getD 5 0, h.getD 6 0, h.getD 7 0⟩
  let r := (List.zipWith (· + ·) shaK sched).foldl shaRound r0
  List.zipWith add32 h [r.a, r.b, r.c, r.d, r.e, r.f, r.g, r.h]

/-- SHA-256 (32 bytes). -/
def sha256 (msg : Bytes) : Bytes :=
  let m := toNats msg
  let p := m ++ [0x80] ++ List.replicate ((119 - m.length % 64) % 64) 0 ++ toNats (beBytes 8 (8 * m.length))
  ((pieces 64 (p.length / 64) p).foldl shaBlock shaH0).flatMap (beBytes 4)

/-- HMAC-SHA-256. -/
def hmac (key msg : Bytes) : Bytes :=
  let k := if 64 < key.length then sha256 key else key
  let k := k ++ List.replicate (64 - k.length) 0
  sha256 (k.map (· ^^^ 0x5C#8) ++ sha256 (k.map (· ^^^ 0x36#8) ++ msg))

/-- HKDF-SHA-256, one output block of 32 bytes. -/
def hkdf (salt ikm info : Bytes) : Bytes := hmac (hmac salt ikm) (info ++ [1#8])

/-! ### P-256 -/

def p256P : Nat := 2 ^ 256 - 2 ^ 224 + 2 ^ 192 + 2 ^ 96 - 1
def p256N : Nat := 0xFFFFFFFF00000000FFFFFFFFFFFFFFFFBCE6FAADA7179E84F3B9CAC2FC632551
def p256B : Nat := 0x5AC635D8AA3A93E7B3EBBD55769886BC651D06B0CC53B0F63BCE3C3E27D2604B
def p256G : Nat × Nat :=
  (0x6B17D1F2E12C4247F8BCE6E563A440F277037D812DEB33A0F4A13945D898C296,
   0x4FE342E2FE1A7F9B8EE7EB4A7C0F9E162BCE33576B315ECECBB6406837BF51F5)

/-- Modular power, over `n` bits of the exponent. -/
def powMod (m : Nat) : Nat → Nat → Nat → Nat
  | 0, _, _ => 1 % m
  | n + 1, b, e => (if e % 2 = 1 then b else 1) * powMod m n (b * b % m) (e / 2) % m

def invMod (m a : Nat) : Nat := powMod m 256 (a % m) (m - 2)
def subMod (m a b : Nat) : Nat := (a + m - b % m) % m

/-- Addition of affine points, `none` being the point at infinity. -/
def ecAdd (a b : Option (Nat × Nat)) : Option (Nat × Nat) :=
  match a, b with
  | none, q => q
  | p, none => p
  | some (x1, y1), some (x2, y2) =>
    if x1 = x2 ∧ (y1 + y2) % p256P = 0 then none
    else
      let l := if x1 = x2 then 3 * (x1 * x1 + p256P - 1) % p256P * invMod p256P (2 * y1) % p256P
        else subMod p256P y2 y1 * invMod p256P (subMod p256P x2 x1) % p256P
      let x3 := subMod p256P (subMod p256P (l * l % p256P) x1) x2
      some (x3, subMod p256P (l * subMod p256P x1 x3 % p256P) y1)

/-- Scalar multiplication, over `n` bits of the scalar. -/
def ecMul : Nat → Nat → Option (Nat × Nat) → Option (Nat × Nat)
  | 0, _, _ => none
  | n + 1, k, p => ecAdd (if k % 2 = 1 then p else none) (ecMul n (k / 2) (ecAdd p p))

/-- A point of the curve (64 bytes: x then y, big-endian). -/
def ecPoint (b : Bytes) : Option (Nat × Nat) :=
  let x := beNat (b.take 32)
  let y := beNat (b.drop 32)
  if x < p256P ∧ y < p256P ∧ (y * y) % p256P = (x * x * x + (p256P - 3) * x + p256B) % p256P ∧ b.length = 64
  then some (x, y) else none

def ecBytes (p : Option (Nat × Nat)) : Bytes :=
  match p with
  | none => fillBytes 64 0
  | some (x, y) => beBytes 32 x ++ beBytes 32 y

/-- The public key of a private scalar (64 bytes). -/
def p256Public (d : Bytes) : Bytes := ecBytes (ecMul 256 (beNat d % p256N) (some p256G))

/-- ECDSA P-256 with SHA-256: the 64-byte signature r ‖ s of `msg` under scalar `d`, with per-signature secret `k`. -/
def ecdsaSign (d msg k : Bytes) : Bytes :=
  let kk := beNat k % (p256N - 1) + 1
  let r := match ecMul 256 kk (some p256G) with
    | some (x, _) => x % p256N
    | none => 0
  let s := invMod p256N kk * (beNat (sha256 msg) + r * (beNat d % p256N)) % p256N
  beBytes 32 r ++ beBytes 32 s

/-- ECDH P-256: the shared x coordinate, `none` for an invalid point. -/
def ecdh (d pub : Bytes) : Option Bytes :=
  match ecPoint pub with
  | none => none
  | some q =>
    match ecMul 256 (beNat d % p256N) (some q) with
    | none => none
    | some (x, _) => some (beBytes 32 x)

/-! ### Check codes -/

/-- CRC-16 with polynomial 0x1021, no reflection (R50: id_hash). -/
def crc16Byte (crc b : Nat) : Nat :=
  (List.range 8).foldl (fun c _ => if c.testBit 15 then ((c * 2) % 65536) ^^^ 0x1021 else (c * 2) % 65536) (crc ^^^ (b * 256))

def crc16 (init : Nat) (bs : Bytes) : Nat := bs.foldl (fun c b => crc16Byte c b.toNat) init

/-- The id_hash of R50. -/
def idHash (identity : Bytes) : Nat := crc16 0xFFFF identity

/-- One byte of a reflected 32-bit CRC. -/
def crc32Byte (poly crc b : Nat) : Nat :=
  (List.range 8).foldl (fun c _ => if c % 2 = 1 then (c / 2) ^^^ poly else c / 2) (crc ^^^ b)

/-- A reflected CRC-32 with initial value and final XOR of all ones. -/
def crc32 (poly : Nat) (bs : Bytes) : Nat := (bs.foldl (fun c b => crc32Byte poly c b.toNat) 0xFFFFFFFF) ^^^ 0xFFFFFFFF

/-- CRC-32 of IEEE 802.3 (R143, R150). -/
def ieee32 (bs : Bytes) : Nat := crc32 0xEDB88320 bs

end Sys2Proof.Machine
end

