-- ==== Sys2Proof/Config.lean ====
section
/-! DEFINITION. What an implementation fixes, and the free values: constants without a body, so no proof can see
what they are. -/

namespace Sys2Proof.Config

/-- A free value of the spec's silence. The model applies it to its counter `State.free`, which advances at every
use, so every use may differ. A statement about a free value holds for every value of this constant. -/
opaque freeNat : Nat → Nat

/-- The random bytes of the die's random number generator (R114, R119: key generation, die_id), one stream per draw
number: unpredictable, hence without a body. -/
opaque randomByte : Nat → Nat → BitVec 8

/-- What a byte of an L-die's DRAM holds, by die and offset, while nothing has written it (assumption log 64). -/
opaque dramByte : Nat → Nat → BitVec 8

/-- The hash that picks one of several equal-cost next hops (R288): the spec names its inputs and not the function. -/
opaque hopHash : Nat → Nat → Nat → Nat

/-- The rate that a die learns from its last 64 measurements (R330: offset in ns and time of each, newest first), in units of
0.001 ppb: the spec does not say how it is computed. -/
opaque learnRate : List (Int × Nat) → Int

/-- The rise of a die's VCORE target in uV per day, fitted over the plans of the last 365 days (R344: day and mV of each, newest
first): the spec does not say which fit. -/
opaque driftFit : List (Nat × Nat) → Nat

/-- The largest MAC frame with FCS, in bytes, that one power-line PHY frame carries: by band (FCC), modulation and tone map (R97). It is
ITU-T G.9903's, and the spec does not state it (assumption log 68). -/
opaque plcMaxPsdu : Bool → Nat → Nat → Nat

/-- SYS_ID.revision of the modelled silicon, A0 (18_event_register_index: per silicon; DESIGN CHOICE, assumption log 3). -/
def revision : Nat := 0x00

/-- Ticks of 10 ns per microsecond, millisecond and second (R13). -/
def tUs : Nat := 100
def tMs : Nat := 100000
def tS : Nat := 100000000

end Sys2Proof.Config
end

