-- ==== Sys2Proof/Machine/LockTypes.lean ====
section
/-! DEFINITION. The state of a die's Locker and of an L-die's security pipeline beside their registers
(05_locker_security). -/

namespace Sys2Proof.Machine

/-- A key slot of the Locker (R116, R117). Slots not listed are invalid. Slot 0 is not listed: the fuses hold its key. -/
structure Slot where
  alg : Nat
  usage : Nat
  origin : Nat
  exportable : Bool := false
  resetExpiry : Bool := false
  lcBound : Bool := false
  markMask : Nat := 0
  uses : Nat := 0xFFFFFFFF
  key : Bytes
  deriving DecidableEq, Repr

/-- The fuse array (R111). Fields left empty read as zeros. -/
structure Fuses where
  root : Bytes := List.replicate 32 0
  dieId : Bytes := List.replicate 8 0
  vendorHash : Bytes := List.replicate 32 0
  ownerHash : Bytes := List.replicate 32 0
  debugHash : Bytes := List.replicate 32 0
  /-- lifecycle byte: 0x00 Factory, 0x03 Owned, 0x0F Sealed, 0xFF and every other value Retired -/
  lifecycle : Nat := 0x00
  /-- number of svn bits set, 0 to 128 -/
  svn : Nat := 0
  trim : Bytes := []
  deriving DecidableEq, Repr

structure Lock where
  fuses : Fuses := {}
  /-- lifecycle state in force since power-on: 0 Factory, 1 Owned, 2 Sealed, 3 Retired (R114) -/
  lc : Nat := 0
  slots : SMap Slot := []
  /-- marks M0 to M7 that are not zero (R120) -/
  marks : SMap Bytes := []
  deriving DecidableEq, Repr

/-- An entry of the key cache (R125): most recently used entries stand first in the list. -/
structure CacheEntry where
  slot : Nat
  link : Bytes
  spare : Option Bytes
  deriving DecidableEq, Repr

/-- An entry of the unknown-identity summary (R139). -/
structure UnknownEnt where
  identity : Bytes
  first : Nat
  last : Nat
  count : Nat
  kind : Nat
  deriving DecidableEq, Repr

/-- A Locker whose slots, marks and cache are as at a die reset keeps its fuses. -/
def Lock.lifecycleOf (f : Fuses) : Nat :=
  if f.lifecycle = 0x00 then 0 else if f.lifecycle = 0x03 then 1 else if f.lifecycle = 0x0F then 2 else 3

end Sys2Proof.Machine
end

