-- ==== Sys2Proof/Machine/DieTypes.lean ====
section
/-! DEFINITION. The tables of an L-die beside its registers: meter records and ledger tables (06_ledger_tariffs),
spill queues (08_deadline_queues), balance tables (07_balance_engine), timetable tables (03_timetable_mac), and the
mirror messages that carry them to the substitute (11_substitute_redundancy). -/

namespace Sys2Proof.Machine

/-! ### Meter records and the ledger -/

/-- The units booked to one interval of a meter whose column is not yet written (R235). -/
structure IVal where
  n : Nat
  units : Nat
  clockBack : Bool := false
  deriving DecidableEq, Repr

/-- A record slot: the 512 bytes of R143 and what the ledger keeps beside them for the meter. -/
structure MRec where
  bytes : Bytes
  /-- ledger second of the last boundary processed for the record -/
  done : Nat := 0
  ivals : List IVal := []
  /-- L-066 and L-067 have been raised and are not re-armed (R159) -/
  low1 : Bool := false
  low2 : Bool := false
  /-- pending set-program: activation second and program (R150) -/
  move : Option (Nat × Nat) := none
  /-- earlier programs: the second until which each was in force, oldest first -/
  past : List (Nat × Nat) := []
  /-- power-state item with t at a boundary not yet processed: second and state (R156) -/
  pwr : Option (Nat × Nat) := none
  /-- device relay downlink waiting: action and reason (R161, R162) -/
  relay : Option (Nat × Nat) := none
  /-- the last Accept sent a device downlink while a host downlink waited (R214) -/
  hostTurn : Bool := false
  /-- device time of the last L-090 for the meter (R72) -/
  noPass : Option Nat := none
  /-- L-036 has been raised for the present staging (R130) -/
  stale : Bool := false
  /-- device time of the last commit (R127) -/
  commitAt : Nat := 0
  deriving DecidableEq, Repr

/-- A content of a tariff program: in force from a ledger second on (R150). -/
structure ProgVer where
  num : Nat
  act : Nat
  bytes : Bytes
  /-- L-079 has been raised for its activation -/
  announced : Bool := false
  deriving DecidableEq, Repr

/-- Ledger time and the ledger tables of a die that are mirrored with it (R255). -/
structure LedTab where
  /-- LT in units of 10^-9 tick (R145) -/
  lt : Nat := 0
  /-- when LT entered Hold -/
  holdSince : Nat := 0
  progs : List ProgVer := []
  /-- boundaries of close-period commands, ledger seconds (R157) -/
  closes : List Nat := []
  /-- clock discontinuity log, oldest first (R149) -/
  disc : List Bytes := []
  /-- changes of the default tariff, newest first: LT in ticks and whether in force from it (R148) -/
  defHist : List (Nat × Bool) := []
  /-- the boundary the sweep in progress has reached, and whether a billing boundary lay in it -/
  sweepTo : Nat := 0
  billed : List Nat := []
  deriving DecidableEq, Repr

/-! ### Queues -/

/-- Where a packet lies in its queue (R193). -/
inductive QPart where
  | tail | middle | head
  deriving DecidableEq, Repr

/-- A packet of a spill queue (R194), and what its completion and its archive entry carry. -/
structure Packet where
  seq : Nat
  kind : Nat
  cls : Nat
  handle : Nat
  flags : Nat := 0
  start : Nat
  cost : Nat
  source : Nat := 0
  capture : Nat := 0
  payload : Bytes
  part : QPart := .tail
  committed : Bool := false
  applied : Bool := false
  status : Nat := 0
  /-- ticks for which the class ring had been full in all when the deadline clock started (R186) -/
  heldAt : Nat := 0
  /-- ticks of holds before that: those counted on another die or before a power loss -/
  held : Nat := 0
  redelivered : Bool := false
  unprotected : Bool := false
  identity : Bytes := List.replicate 8 0
  fdie : Nat := 0xFF
  slot : Nat := 0xFF
  rssi : Nat := 0
  lqi : Nat := 0
  subTag : Nat := 0
  counter : Nat := 0
  mic8 : Bytes := List.replicate 8 0
  /-- the decrypted payload: control byte and items, or the wireless M-Bus data records (R135, R153) -/
  plain : Bytes := []
  wmb : Bool := false
  /-- number of the acceptance decision on the die (R155) -/
  order : Nat := 0
  deriving DecidableEq, Repr

structure Queue where
  packets : List Packet := []
  /-- work admitted in the last ten 1 ms buckets, newest first (R189) -/
  window : List Nat := []
  /-- flush marker: packets below this sequence number lie ahead of it (R195) -/
  marker : Option Nat := none
  /-- the ring is full, as last reported, since -/
  heldSince : Option Nat := none
  /-- ticks of hold in all, the present one not included -/
  heldTotal : Nat := 0
  /-- L-099 has been raised for the present hold (R187) -/
  limitRaised : Bool := false
  lastRefusal : Option Nat := none
  /-- ticks of hold that QUE_n_HELD_CNT has counted -/
  heldCounted : Nat := 0
  /-- deferral statistics: counts of reasons 0x0A01 to 0x0A05 (R212) -/
  deferred : List Nat := [0, 0, 0, 0, 0]
  deriving DecidableEq, Repr

/-! ### Archive entries -/

/-- An entry of the archive log (R232, R233). -/
structure ArcEntry where
  seq : Nat
  kind : Nat
  flags : Nat
  handle : Nat
  lt : Nat
  body : Bytes
  /-- what the command read from host memory, or wrote there, of which its replay needs a copy (R233, R349) -/
  src : Bytes := []
  /-- when it reached the open page (R232) -/
  arrived : Nat := 0
  deriving DecidableEq, Repr

/-- A share booked after its interval's column was written (R235). -/
structure Amend where
  handle : Nat
  lt : Nat
  n : Nat
  share : Nat
  /-- when it reached the open page of its stream (R232) -/
  arrived : Nat := 0
  deriving DecidableEq, Repr

/-- An interval column with its directory entry (R235): the columns of the intervals of one length and offset. -/
structure Column where
  no : Nat
  intLen : Nat
  stdOff : Int
  n : Int
  /-- ledger second of the interval end -/
  ltEnd : Nat
  flags : Nat
  /-- values that are not zero, by record slot -/
  values : SMap Nat
  /-- sectors of the column recorded as lost (R245): sector i holds the values of slots 1,024 i to 1,024 i + 1,023 -/
  lost : List Nat := []
  deriving DecidableEq, Repr

/-! ### Balance -/

/-- An entry of the reference table of an owning die (R168), with the group's interval length. -/
structure Ref where
  addr : Nat
  group : Nat
  gLen : Nat
  deriving DecidableEq, Repr

structure Member where
  handle : Nat
  lastCov : Nat := 0xFFFFFFFF
  pendN : Nat := 0
  pendVal : Nat := 0
  mean : Nat := 0
  lastVal : Nat := 0
  samples : Nat := 0
  phase : Nat := 0
  estimated : Bool := false
  /-- device time of the last impostor finding for the meter -/
  impostor : Option Nat := none
  deriving DecidableEq, Repr

/-- An accumulator slot (R172). -/
structure Acc where
  n : Nat
  head : Nat := 0
  sum : Nat := 0
  unassigned : Nat := 0
  covered : Nat := 0
  headCovered : Bool := false
  clockBack : Bool := false
  defTariff : Bool := false
  deriving DecidableEq, Repr

/-- A group's table entry (R167), its member list (held with group g of a phase set), its accumulator slots and
the sums of the present run. -/
structure Group where
  kind : Nat := 0
  head : Nat := 0xFFFFFFFF
  gLen : Nat := 15
  settle : Nat := 1
  persist : Nat := 1
  lossThr : Nat := 0
  negThr : Nat := 0
  absMin : Nat := 0
  stepK : Nat := 0
  estMax : Nat := 0
  meanR : Int := 0
  devR : Nat := 0
  runHi : Nat := 0
  runNeg : Nat := 0
  runQuiet : Nat := 0
  open_ : Nat := 0
  lastEval : Nat := 0
  runStart : Nat := 0
  indetRun : Nat := 0
  list : Nat := 0
  hostTag : Bytes := List.replicate 8 0
  members : List Member := []
  accs : List Acc := []
  /-- evaluation has stopped (R169) -/
  stopped : Bool := false
  /-- sums over the present run: L and H, and its flags -/
  sumL : Int := 0
  sumH : Nat := 0
  runLen : Nat := 0
  runFlags : Nat := 0
  /-- L-084 has been raised since the last determinate interval -/
  stale : Bool := false
  deriving DecidableEq, Repr

/-- The watch table entry of a record slot (R179). -/
structure Watch where
  /-- device times of signals J, P and F, newest first -/
  j : List Nat := []
  p : List Nat := []
  f : List Nat := []
  mean : Int := 0
  samples : Nat := 0
  mutedUntil : Option Nat := none
  deriving DecidableEq, Repr

/-- A finding whose correlation is in progress (R176). -/
structure Finding where
  group : Nat
  kind : Nat
  n : Nat
  since : Nat
  flags : Nat
  runLen : Nat
  runStart : Nat
  sumL : Int
  sumH : Nat
  /-- tag of its queries, and the members whose answer is awaited -/
  tag : Nat
  waiting : List Nat
  /-- members with a tamper record in the window -/
  tampered : List Nat := []
  deriving DecidableEq, Repr

/-- A meter's head or member record to be attached or detached, with the group. -/
structure LedAccess where
  handle : Nat
  group : Nat
  head : Bool
  deriving DecidableEq, Repr

/-- A balance command waiting for remote ledger responses (R168, R169). -/
structure BalWait where
  cmd : Nat
  op : Nat
  group : Nat
  handle : Nat
  tag : Nat
  since : Nat
  /-- accesses whose response is awaited -/
  waiting : List LedAccess
  /-- status of the first response that was not 0 -/
  status : Nat := 0
  deriving DecidableEq, Repr

structure BalTab where
  groups : SMap Group := []
  refs : SMap Ref := []
  findingSeq : Nat := 0
  tagNext : Nat := 0
  /-- detaches of deleted groups not yet answered, and when sent last (R169) -/
  detaches : List (LedAccess × Nat) := []
  deriving DecidableEq, Repr

/-! ### Timetable tables of an L-die -/

/-- A hall-pass table entry (R70). -/
structure HallPass where
  handle : Nat
  expiry : Nat
  uses : Nat
  ttMask : Nat
  fdieMask : Nat
  deriving DecidableEq, Repr

/-- A held entry of an assignment table (R70): bytes 0 to 12 of the entry, the device time at which its assignment completed, and
the number of the last data slot checked under it (R76), plus 1. -/
structure AssignEnt where
  handle : Nat
  identity : Bytes
  tell : Bool
  since : Nat
  checked : Nat := 0
  deriving DecidableEq, Repr

structure TtTab where
  /-- published parameters by 8 * F-die number + timetable (R63) -/
  params : SMap TtParams := []
  /-- parameters of timetables that were disabled and enabled again, newest first: frames synced under them (R63) -/
  past : List TtParams := []
  /-- assignment tables (R70): key (8 * F-die number + timetable) * 2^40 + entry index -/
  assign : SMap AssignEnt := []
  /-- hall passes by table entry -/
  halls : SMap HallPass := []
  deriving DecidableEq, Repr

/-! ### Mirror -/

/-- One thing a mirror message carries (R255). -/
inductive MirItem where
  | record (slot : Nat) (m : MRec)
  | keys (slot : Nat) (k : Option (Bytes × Bytes))
  | packet (p : Packet)
  | applied (cls seq status : Nat)
  | delivered (cls seq : Nat)
  | ledger (state : Nat) (hold : Nat) (t : LedTab)
  | timetable (t : TtTab)
  | balance (t : BalTab)
  | archive (e : ArcEntry)
  | amend (a : Amend)
  deriving DecidableEq, Repr

/-- The queue packet that an item carries. -/
def MirItem.asPacket (i : MirItem) : Option Packet :=
  match i with
  | .packet p => some p
  | _ => none

/-- A mirror message on the on-package link of a pair (R27, R256). -/
structure MirMsg where
  src : Nat
  dst : Nat
  seq : Nat
  sent : Nat
  items : List MirItem
  deriving DecidableEq, Repr

/-- What waits at the Active die for a mirror confirmation (R27, R256). -/
inductive MirWait where
  /-- the release message of a frame at an F-die -/
  | release (fdie ctx hold : Nat)
  deriving DecidableEq, Repr

structure Mirror where
  nextSeq : Nat := 0
  /-- items of the mirror message being put together by the present update -/
  opened : List MirItem := []
  /-- messages sent and not confirmed: sequence number and time, oldest first -/
  outstanding : List (Nat × Nat) := []
  /-- the packets of those messages: message, class and sequence number -/
  unconf : List (Nat × Nat × Nat) := []
  waits : List (Nat × MirWait) := []
  /-- when something last arrived on the link and on the wire (R257) -/
  linkSeen : Nat := 0
  wireSeen : Nat := 0
  /-- the path fault is set, and since when the path has been live again (R258) -/
  linkFault : Bool := false
  wireFault : Bool := false
  linkLive : Option Nat := none
  wireLive : Option Nat := none
  /-- the partner reports a fault on a path -/
  partnerFault : Bool := false
  /-- the die itself reports a fault (R257) -/
  ownFault : Bool := false
  ownFaultAt : Nat := 0
  /-- this die has requested the fence of its partner -/
  fencing : Bool := false
  deriving DecidableEq, Repr

end Sys2Proof.Machine
end

