-- ==== Sys2Proof/Machine/ArcTypes.lean ====
section
/-! DEFINITION. The archive controller's state beside its registers (10_archive_storage). -/

namespace Sys2Proof.Machine

/-- The state of a NAND block. -/
inductive BlkState where
  | free | opened | closed | journal | bad
  deriving DecidableEq, Repr

/-- An entry of the block table. Positions in a block count pages of 16 KiB. -/
structure Blk where
  ec : Nat := 0
  st : BlkState := .free
  /-- stream written into it: 0 archive log, columns and amendments; 1 host namespace; 2 checkpoints; 3 copies; 4 mapping pages -/
  stream : Nat := 0
  /-- the stripe of the stream that it belongs to: its rows run over the blocks of one stripe (R241) -/
  stripe : Nat := 0
  /-- order of closing (R240) -/
  closeNo : Nat := 0
  /-- written under full-stripe parity (R242) -/
  full : Bool := false
  /-- pages taken since its erase, and pages whose program has ended -/
  used : Nat := 0
  done : Nat := 0
  /-- the accumulators of its rows are held in DRAM (R241), or were lost while it was open (R242) -/
  acc : Bool := false
  accLost : Bool := false
  /-- device time of its first programming since the erase (R243) -/
  since : Nat := 0
  /-- time at which a sector of it last needed step 2 or later (R245) -/
  rebuilt : Option Nat := none
  deriving DecidableEq, Repr

/-- A map entry (R231): the block of a sector and its place in the block, in sectors. -/
structure Place where
  blk : Nat
  pos : Nat
  deriving DecidableEq, Repr

/-- What the ONFI parameter pages say (R228): whether they meet the requirements, LUNs, blocks per LUN, sectors per block, planes, SLC,
capacity in GiB and rated cycles. -/
structure Nand where
  ok : Bool
  luns : Nat
  blocksPerLun : Nat
  blockSectors : Nat
  planes : Nat
  slc : Bool
  rawGib : Nat
  pe : Nat
  deriving DecidableEq, Repr

/-- What the first enable found and fixed (R228, R230, R247). -/
structure Layout where
  luns : Nat
  blocksPerLun : Nat
  blockSectors : Nat
  planes : Nat
  slc : Bool
  rawGib : Nat
  pe : Nat
  hostGib : Nat
  /-- device time of the first enable -/
  made : Nat
  /-- paired mode and package identity, recorded at the first ledger enable (R252, R285) -/
  paired : Option Bool := none
  package : Option Nat := none
  /-- package number from an earlier roll call (R286) -/
  number : Option Nat := none
  deriving DecidableEq, Repr

/-- The counts of the health report that no register holds (R248). -/
structure Health where
  appended : Nat := 0
  programmed : Nat := 0
  read : Nat := 0
  progFail : Nat := 0
  eraseFail : Nat := 0
  retried : Nat := 0
  rebuilt : Nat := 0
  lost : Nat := 0
  refreshed : Nat := 0
  passes : Nat := 0
  worstBits : Nat := 0
  passEnd : Nat := 0
  tempHours : List Nat := List.replicate 8 0
  summaryHours : Nat := 0
  govChanges : Nat := 0
  retired : Nat := 0
  deriving DecidableEq, Repr

/-- A checkpoint page: 32 records with their wrapped keys (R236). -/
structure Ckpt where
  /-- archive sequence number current when the page was taken -/
  seq : Nat
  records : SMap MRec := []
  keys : SMap (Bytes × Bytes) := []
  deriving DecidableEq, Repr

/-- The other tables of the ledger, checkpointed in the same pass (R236). -/
structure CkptTab where
  seq : Nat
  led : LedTab
  ltState : Nat
  hold : Nat
  bal : BalTab
  tt : TtTab
  /-- the die was Active (R349) -/
  active : Bool
  deriving DecidableEq, Repr

/-- A write in progress: a page of up to four sectors on its way into a block; `src` is the block in which the map still finds a copy's
sectors (R240). -/
structure Prog where
  /-- the sectors of the page, in order; none for a parity page (R242) -/
  keys : List Nat
  stream : Nat
  blk : Nat := 0
  page : Nat := 0
  src : Option Nat := none
  /-- programmed, and not yet verified -/
  programmed : Bool := false
  /-- bytes of host sectors (R249) -/
  data : Bytes := []
  /-- host command that completes when its pages are verified -/
  cmd : Option Nat := none
  /-- sequence number after the last entry of an archive log page; amendments up to the end of an amendment page -/
  seqEnd : Nat := 0
  ckpt : Option Ckpt := none
  tables : Option CkptTab := none
  deriving DecidableEq, Repr

/-- What the journal of a brown-out save holds once its commit marker is written (R198, R237, R335). One that is superseded
or consumed is gone. -/
structure Save where
  /-- the blocks of the journal block used, one on each LUN -/
  blocks : List Nat := []
  queues : List (List Packet) := []
  seqs : List Nat := []
  delivered : List Nat := []
  ledger : LedTab := {}
  ltState : Nat := 0
  hold : Nat := 0
  /-- boundary position of the sweep -/
  sweep : Nat := 0
  /-- archive entries, amendments and interval columns not on NAND -/
  entries : List ArcEntry := []
  amends : List Amend := []
  /-- amendments on NAND before them -/
  amendFrom : Nat := 0
  columns : List Column := []
  /-- pages whose program was started and not confirmed -/
  progs : List Prog := []
  deriving DecidableEq, Repr

structure Arc where
  /-- what the parameter pages said when they were last read (R228) -/
  nand : Option Nand := none
  /-- the two copies of the layout record (R230) -/
  layout : Option Layout := none
  layout2 : Option Layout := none
  /-- the two copies of the bad-block table (R244) -/
  bad : List Nat := []
  bad2 : List Nat := []
  entries : List ArcEntry := []
  /-- entries with a lower sequence number are on NAND -/
  onNand : Nat := 0
  /-- pages of the archive log so far, the sequence numbers each holds, and the first entry not in a page -/
  pages : Nat := 0
  pageSeqs : SMap (Nat × Nat) := []
  pageFrom : Nat := 0
  columnNo : Nat := 0
  columns : List Column := []
  /-- pages of columns still to be written: column and page -/
  colQueue : List (Nat × Nat) := []
  /-- last interval of each grid whose column was held at the start: length, standard offset, interval (R350) -/
  colLast : List (Nat × Int × Int) := []
  /-- boundary, as a ledger second, up to which columns had fallen due at the start (R350) -/
  colDue : Nat := 0
  /-- the amendment stream: its entries, those in a page, those on NAND, and its pages (R235) -/
  amends : List Amend := []
  amendFrom : Nat := 0
  amendNand : Nat := 0
  amendPages : Nat := 0
  /-- the amendments that each page of the stream holds: the first, and the first of the next page -/
  amendRanges : SMap (Nat × Nat) := []
  lostSeqs : List Nat := []
  /-- host namespace (R230): contents and lost sectors -/
  host : SMap Bytes := []
  hostLost : List Nat := []
  blocks : SMap Blk := []
  stripeNo : Nat := 0
  /-- failed pages: block and page (R241) -/
  failed : List (Nat × Nat) := []
  /-- the map, one entry per sector, with the directory of mapping pages as the sectors of kind 4 (R231) -/
  map : SMap Place := []
  /-- mapping pages in the DRAM cache, most recently used first, and the one at the head of each append stream -/
  cache : List Nat := []
  heads : SMap Nat := []
  /-- mapping pages changed and not yet written back -/
  dirty : List Nat := []
  progs : List Prog := []
  /-- writes that wait for a free block -/
  blocked : List Prog := []
  /-- journal blocks ready: the block of each LUN (R237) -/
  jrn : List (List Nat) := []
  closeNo : Nat := 0
  /-- blocks whose valid data is being relocated, with the reason to retire them (0: none) -/
  relocating : List (Nat × Nat) := []
  /-- checkpoint pages by number; the pass in progress: next page, pages left, when it began and the log appended since (R236) -/
  ckpts : SMap Ckpt := []
  ckptNext : Nat := 0
  ckptLeft : Nat := 0
  ckptStart : Nat := 0
  ckptLog : Nat := 0
  ckptTables : Option CkptTab := none
  /-- patrol pass: blocks read in it, free blocks erase-verified, and whether a command started it -/
  patrolled : List Nat := []
  eraseChecked : List Nat := []
  patrolCmd : Bool := false
  patrolBits : Nat := 0
  patrolPages : Nat := 0
  patrolRefreshed : Nat := 0
  /-- earliest start of the next pass of the period (R243) -/
  patrolFrom : Nat := 0
  /-- corrected bits found by the patrol, by LUN (R243) -/
  lunBits : SMap (List Nat) := []
  /-- full-form, appended and programmed bytes of each hour, newest first (R247) -/
  hours : List (Nat × Nat × Nat) := []
  hourFull : Nat := 0
  hourApp : Nat := 0
  hourProg : Nat := 0
  govNext : Nat := 0
  /-- the governor has engaged summary form (R247) -/
  govSummary : Bool := false
  wearNext : Nat := 0
  lim119 : Option Nat := none
  /-- journals whose commit marker stands, newest first -/
  saves : List Save := []
  health : Health := {}
  deriving DecidableEq, Repr

end Sys2Proof.Machine
end

