-- ==== Sys2Proof/Machine/EthTypes.lean ====
section
/-! DEFINITION. The state of an Ethernet MAC of L0 or L1 and of the direct alarms of an L-die, beside their registers
(13_ethernet_backhaul). -/

namespace Sys2Proof.Machine

/-- A copy of a direct alarm still to be sent (R305): the fields of R306 that all copies share. -/
structure AlarmCopy where
  die : Nat
  seq : Nat
  handle : Nat
  kind : Nat
  identity : Bytes
  start : Nat
  payload : Bytes
  copy : Nat
  due : Nat
  deriving DecidableEq, Repr

/-- A frame of a transmit queue, without its FCS. -/
structure EthFrame where
  /-- queue 0 or 1 -/
  queue : Nat
  bytes : Bytes
  /-- a direct-alarm datagram -/
  alarm : Bool := false
  /-- a Delay_Req with this sequence number -/
  dreq : Option Nat := none
  /-- transmission attempts so far (R299) -/
  attempts : Nat := 0
  deriving DecidableEq, Repr

/-- What an Announce message says of a master (IEEE 1588): grandmaster data in the order in which the best master
clock algorithm compares it, steps removed, and the sender's port identity. -/
structure Announce where
  gm : Nat
  gmIdentity : Nat
  steps : Nat
  port : Bytes
  /-- announce interval, as its base-2 logarithm -/
  logInterval : Int := 1
  /-- when the last two were received -/
  last : Nat
  before : Option Nat := none
  deriving DecidableEq, Repr

structure Eth where
  q0 : List EthFrame := []
  q1 : List EthFrame := []
  /-- the frame on the wire: frame, start and end -/
  cur : Option (EthFrame × Nat × Nat) := none
  /-- end of the back-off before the next attempt of the frame at the head (R299) -/
  backoff : Option (EthFrame × Nat) := none
  /-- end of the PAUSE in force, and since when PAUSE has held transmission (R300) -/
  pauseUntil : Option Nat := none
  heldSince : Option Nat := none
  ignoreUntil : Option Nat := none
  /-- foreign masters heard, the master selected by its port identity, and its last Sync (R301) -/
  foreign : List Announce := []
  master : Option Bytes := none
  syncAt : Nat := 0
  /-- a two-step Sync that waits for its Follow_Up: sequence number and receive time, ns -/
  syncWait : Option (Nat × Int) := none
  /-- t2 - t1 of the last Sync, ns -/
  lastMs : Int := 0
  dreqSeq : Nat := 0
  /-- when the last Delay_Req was due (R301) -/
  dreqAt : Option Nat := none
  /-- Delay_Req sent: sequence number and t3, ns -/
  dreqSent : Option (Nat × Int) := none
  ipId : Nat := 0
  /-- copies still to be built (R305) -/
  copies : List AlarmCopy := []
  /-- of this L-die's Q0: the next sequence number to send while the direct-alarm path is active -/
  alarmNext : Option Nat := none
  downAt : Nat := 0
  lim125 : Option Nat := none
  /-- write on the MDIO bus last made: PHY, register and data -/
  mdio : Option (Nat × Nat × Nat) := none
  deriving DecidableEq, Repr

end Sys2Proof.Machine
end

