-- ==== Sys2Proof/Machine/Frames.lean ====
section
/-! DEFINITION. Frame formats shared by the radio, the power-line modem and the security pipeline: the IEEE
802.15.4 MAC header, the mode table of R45, durations on air, the block check of wireless M-Bus. The layouts of
the named standards are PRESUMED (assumption log 6). -/

namespace Sys2Proof.Machine

/-! ### Modes (R45, R50) -/

/-- The mode-mask bit of CHN_SLOT_MODE for a mode code of R50. -/
def modeBit (m : Nat) : Option Nat :=
  match m with
  | 0x01 => some 0
  | 0x02 => some 1
  | 0x03 => some 2
  | 0x04 => some 3
  | 0x10 => some 4
  | 0x11 => some 5
  | 0x12 => some 6
  | 0x13 => some 6
  | 0x14 => some 7
  | 0x15 => some 8
  | _ => none

def modeIsSun (m : Nat) : Bool := decide (1 ≤ m ∧ m ≤ 4)

/-- Received occupied bandwidth of a mode-mask bit, in 100 Hz units (R45). -/
def rxBand (b : Nat) : Nat := [1000, 2000, 4000, 4000, 2000, 3000, 3000, 125, 125].getD b 0

/-- The transmit side of a mode (R45): bits per second and occupied bandwidth (100 Hz units). T transmits as S,
C transmits at 50 kb/s. -/
def txRate (m : Nat) : Nat :=
  match m with
  | 0x01 => 50000
  | 0x02 => 100000
  | 0x03 => 150000
  | 0x04 => 200000
  | 0x10 => 16384
  | 0x11 => 16384
  | 0x12 => 50000
  | 0x13 => 50000
  | 0x14 => 4800
  | _ => 2400

def txBand (m : Nat) : Nat :=
  match m with
  | 0x01 => 1000
  | 0x02 => 2000
  | 0x03 => 4000
  | 0x04 => 4000
  | 0x10 => 2000
  | 0x11 => 2000
  | 0x12 => 2000
  | 0x13 => 2000
  | _ => 125

/-- Transmit centre frequency in 100 Hz units for a frame on a slot whose centre is `c` (R45: T2 and S2 transmit at
868.30 MHz, C2 at 869.525 MHz, the others on the slot's channel). -/
def txCentre (m c : Nat) : Nat :=
  match m with
  | 0x10 => 8683000
  | 0x11 => 8683000
  | 0x12 => 8695250
  | 0x13 => 8695250
  | _ => c

/-- The symbols a received mode has on air (chips for wireless M-Bus): symbols per second, and symbols per byte (R45, R47). -/
def rxSymbols (m : Nat) : Nat × Nat :=
  match m with
  | 0x01 => (50000, 8)
  | 0x02 => (100000, 8)
  | 0x03 => (150000, 8)
  | 0x04 => (100000, 4)
  | 0x10 => (32768, 16)
  | 0x11 => (100000, 12)
  | 0x12 => (100000, 8)
  | 0x13 => (100000, 8)
  | 0x14 => (4800, 8)
  | _ => (2400, 8)

/-- Ticks of 10 ns that `n` uncoded byte periods of a received mode take. -/
def rxByteTicks (m n : Nat) : Nat := n * (rxSymbols m).2 * 100000000 / (rxSymbols m).1

/-- Ticks of 10 ns that `n` bits take at a rate, rounded up. -/
def bitTicks (rate n : Nat) : Nat := (n * 100000000 + rate - 1) / rate

/-- On-air time of a SUN frame sent by the device: 8-byte preamble, 2-byte SFD, 2-byte PHR, the PSDU; with FEC the
PHR and PSDU take twice as many symbols (R45, R64), and so do the 3 tail bits and the padding to whole interleaver blocks that
IEEE 802.15.4 adds, 5 bits after a PSDU of odd length and 13 after an even one (PRESUMED, assumption log 6). -/
def sunTicks (mode : Nat) (fec : Bool) (psdu : Nat) : Nat :=
  bitTicks (txRate mode)
    (if fec then 80 + 2 * (8 * (2 + psdu) + 3 + (if psdu % 2 = 1 then 5 else 13)) else 8 * (12 + psdu))

/-- Time from the start of a SUN frame to the end of its SFD. -/
def sunLead (mode : Nat) : Nat := bitTicks (txRate mode) 80

/-- On-air time of a wireless M-Bus frame sent by the device, with 6 bytes of preamble and sync. -/
def wmbTicks (mode : Nat) (len : Nat) : Nat := bitTicks (txRate mode) (8 * (6 + len))

/-! ### IEEE 802.15.4 MAC header -/

structure Mhr where
  frameType : Nat
  security : Bool
  version : Nat
  ackRequest : Bool
  seq : Option Nat
  dstMode : Nat
  dst : Bytes
  srcMode : Nat
  src : Bytes
  /-- length up to the end of the addressing fields -/
  addrLen : Nat
  /-- auxiliary security header: level, key identifier mode, frame counter, key index -/
  level : Nat
  keyIdMode : Nat
  counter : Nat
  keyIndex : Nat
  /-- length of the whole MHR -/
  len : Nat
  deriving DecidableEq, Repr

def addrSize (m : Nat) : Nat := if m = 2 then 2 else if m = 3 then 8 else 0

/-- Which PAN identifiers a frame control field implies: destination, source. -/
def panFields (version : Nat) (comp : Bool) (dm sm : Nat) : Bool × Bool :=
  if version < 2 then (dm != 0, sm != 0 && (!comp || dm == 0))
  else if dm = 0 ∧ sm = 0 then (comp, false)
  else if sm = 0 then (!comp, false)
  else if dm = 0 then (false, !comp)
  else if dm = 3 ∧ sm = 3 then (!comp, false)
  else (true, !comp)

/-- The MAC header at the start of a PSDU, if the bytes hold all of it. -/
def parseMhr (b : Bytes) : Option Mhr :=
  let fc := leField b 0 2
  let version := bits fc 13 12
  let supp := version = 2 && bit fc 8
  let dm := bits fc 11 10
  let sm := bits fc 15 14
  let pan := panFields version (bit fc 6) dm sm
  let o1 := 2 + (if supp then 0 else 1)
  let o2 := o1 + (if pan.1 then 2 else 0)
  let o3 := o2 + addrSize dm
  let o4 := o3 + (if pan.2 then 2 else 0)
  let o5 := o4 + addrSize sm
  let sec := bit fc 3
  let sc := leField b o5 1
  let kim := bits sc 4 3
  let kl := [0, 1, 5, 9].getD kim 0
  let o6 := if sec then o5 + 5 + kl else o5
  if b.length < 2 then none
  else if b.length < o5 then none
  else some { frameType := bits fc 2 0, security := sec, version := version, ackRequest := bit fc 5,
              seq := if supp then none else some (leField b 2 1), dstMode := dm, dst := slice b o2 (addrSize dm),
              srcMode := sm, src := slice b o4 (addrSize sm), addrLen := o5, level := if sec then bits sc 2 0 else 0,
              keyIdMode := kim, counter := if sec then leField b (o5 + 1) 4 else 0,
              keyIndex := if kl = 0 then 0 else leField b (o5 + 4 + kl) 1, len := o6 }

/-- MIC bytes of a security level (5 to 7). -/
def micLen (level : Nat) : Nat := if level = 5 then 4 else if level = 6 then 8 else if level = 7 then 16 else 0

/-- The standard CCM* nonce of IEEE 802.15.4: EUI-64 most significant octet first, counter big-endian, level. -/
def stdNonce (eui : Bytes) (counter level : Nat) : Bytes :=
  eui.reverse ++ beBytes 4 counter ++ [BitVec.ofNat 8 level]

/-- The nonce of the scheduled-mode AEAD (R134). -/
def schedNonce (eui : Bytes) (counter level : Nat) (down : Bool) (kind : Nat) : Bytes :=
  eui ++ leBytes 4 counter ++ [BitVec.ofNat 8 (level + 8 * b2n down + 16 * kind)]

/-- The 2-byte FCS of IEEE 802.15.4: reflected CRC-16, polynomial 0x1021, initial value 0. -/
def fcs16Byte (crc b : Nat) : Nat :=
  (List.range 8).foldl (fun c _ => if c % 2 = 1 then (c / 2) ^^^ 0x8408 else c / 2) (crc ^^^ b)

def fcs16 (bs : Bytes) : Nat := bs.foldl (fun c b => fcs16Byte c b.toNat) 0

/-- A PSDU with its 2-byte FCS appended. -/
def withFcs (bs : Bytes) : Bytes := bs ++ leBytes 2 (fcs16 bs)

/-- FCS length under which the PSDU verifies: 2 or 4 bytes, `none` if neither does. -/
def fcsCheck (psdu : Bytes) : Option Nat :=
  let n := psdu.length
  if 2 ≤ n ∧ fcs16 (psdu.take (n - 2)) = leNat (psdu.drop (n - 2)) then some 2
  else if 4 ≤ n ∧ crc32 0xEDB88320 (psdu.take (n - 4)) = leNat (psdu.drop (n - 4)) then some 4
  else none

/-! ### Wireless M-Bus -/

/-- One byte of the EN 13757-4 CRC: polynomial 0x3D65, most significant bit first. -/
def wmbCrcByte (crc b : Nat) : Nat :=
  (List.range 8).foldl (fun c _ => if c.testBit 15 then ((c * 2) % 65536) ^^^ 0x3D65 else (c * 2) % 65536) (crc ^^^ (b * 256))

def wmbCrc (bs : Bytes) : Nat := (bs.foldl (fun c b => wmbCrcByte c b.toNat) 0) ^^^ 0xFFFF

/-- Append a block's CRC, high byte first. -/
def wmbBlock (bs : Bytes) : Bytes := bs ++ beBytes 2 (wmbCrc bs)

/-- Frame format A: a block of 10 bytes, then blocks of 16, each with its CRC. -/
def wmbFormatA (bs : Bytes) : Bytes :=
  wmbBlock (bs.take 10) ++ ((pieces 16 (bs.length / 16 + 1) (bs.drop 10)).map wmbBlock).flatten

/-- Frame format B: one CRC over the frame (up to 126 bytes and CRC), a second over the rest. -/
def wmbFormatB (bs : Bytes) : Bytes :=
  if bs.length ≤ 126 then wmbBlock bs else wmbBlock (bs.take 126) ++ wmbBlock (bs.drop 126)

/-- A frame from the host as it goes on air: with the FCS, or the block CRCs, of its mode (R213). -/
def airFrame (mode : Nat) (bs : Bytes) : Bytes :=
  if modeIsSun mode then withFcs bs else if mode = 0x13 then wmbFormatB bs else wmbFormatA bs

/-- Check a block with its CRC: the data without it. -/
def wmbUnblock (b : Bytes) : Option Bytes :=
  let d := b.take (b.length - 2)
  if 2 < b.length ∧ wmbCrc d = beNat (b.drop (b.length - 2)) then some d else none

/-- The data of a list of blocks, `none` if any CRC fails. -/
def wmbUnblocks : List Bytes → Option Bytes
  | [] => some []
  | b :: bs =>
    match wmbUnblock b, wmbUnblocks bs with
    | some d, some r => some (d ++ r)
    | _, _ => none

/-- A received frame (with block CRCs) without its CRCs, `none` if any fails. -/
def wmbStrip (formatB : Bool) (bs : Bytes) : Option Bytes :=
  if formatB then wmbUnblocks (pieces 128 3 bs)
  else wmbUnblocks (bs.take 12 :: pieces 18 16 (bs.drop 12))

/-- A decoded frame passes its FCS or its block CRCs (R47). -/
def frameClean (mode : Nat) (bs : Bytes) : Bool :=
  if modeIsSun mode then (fcsCheck bs).isSome else (wmbStrip (mode == 0x13) bs).isSome

end Sys2Proof.Machine
end

