-- ==== Sys2Proof/Machine/HostTypes.lean ====
section
/-! DEFINITION. The state of the host interface beside its registers: rings, waiting completions, commands in
flight, event entries waiting, the MSI-X table (09_host_rings; event delivery R378, R379). -/

namespace Sys2Proof.Machine

/-- A completion waiting for room in a CQ (R208, R217, R219, R220). -/
structure Cpl where
  /-- first entry without its phase byte -/
  first : Bytes
  /-- continuation entries, 63 bytes each -/
  exts : List Bytes
  /-- signalled at once whatever the moderation (R221, R374) -/
  atOnce : Bool
  /-- the SQ index to report is filled when the entry is written (R217) -/
  isSub : Bool
  /-- an item completion: queue-holding die, class and sequence number (R197) -/
  item : Option (Nat × Nat × Nat)
  /-- fetch number of the entry that a submission completion answers (R226) -/
  id : Option Nat := none
  deriving DecidableEq, Repr

/-- The part of a ring group that no register shows. -/
structure Grp where
  /-- SQ tail, from the doorbell (R205) -/
  sqTail : Nat := 0
  /-- CQ head, from the doorbell (R207) -/
  cqHead : Nat := 0
  /-- completions waiting for room, oldest first -/
  waiting : List Cpl := []
  /-- entries written and not yet signalled (R221) -/
  unsig : Nat := 0
  /-- time at which the oldest unsignalled entry was written -/
  unsigSince : Nat := 0
  /-- an unsignalled entry that is signalled at once -/
  unsigNow : Bool := false
  /-- completions reserved whose write is not confirmed to the other port die (R226): first position, phase
      and content -/
  unconf : List (Nat × Nat × Cpl) := []
  /-- since when the CQ counts as full (R209) -/
  fullSince : Option Nat := none
  deriving DecidableEq, Repr

/-- A command fetched from an SQ and not yet completed (R211, R217). -/
structure Cmd where
  /-- fetch number, unique while the command is in flight -/
  id : Nat
  group : Nat
  /-- port the ring is served by (R201) -/
  port : Nat
  /-- die that executes it -/
  die : Nat
  opcode : Nat
  /-- the 64 bytes of the entry -/
  entry : Bytes
  fetched : Nat
  /-- a long operation or a head-end frame that has started (R220, R216) -/
  started : Bool := false
  /-- a head-end frame forwarded to its owning die (R216) -/
  sent : Bool := false
  /-- number of the next acceptance decision on the die when the entry was fetched (R211) -/
  order : Nat := 0
  deriving DecidableEq, Repr

/-- A long operation in progress (R220): one of each opcode per die. -/
structure LongOp where
  cmd : Nat
  die : Nat
  opcode : Nat
  /-- handle or item being worked on, and where the work ends -/
  pos : Nat := 0
  stop : Nat := 0
  first : Nat := 0
  /-- second position value of the progress entry -/
  pos2 : Nat := 0
  /-- operation-specific counts (R220) -/
  countA : Nat := 0
  countB : Nat := 0
  percent : Nat := 0
  /-- percent last reported and when -/
  repPct : Nat := 0
  repTime : Nat := 0
  aborted : Bool := false
  /-- status that an operation ended early completes with: 0x010B, or 0x0105 after a failed buffer access (R210, R220) -/
  abortStatus : Nat := 0x010B
  /-- set when the work is finished; status to complete with -/
  done : Option Nat := none
  deriving DecidableEq, Repr

/-- An event entry waiting for its CQ (R219, R378). -/
structure EvtWait where
  port : Nat
  die : Nat
  src : Nat
  count : Nat
  time : Nat
  handle : Nat
  args : Nat
  deriving DecidableEq, Repr

/-- A raise on its way from a die without a port to the host port die (R378, R379). -/
structure EvtMsg where
  die : Nat
  src : Nat
  time : Nat
  handle : Nat
  args : Nat
  ring : Bool
  /-- direct signal: port and vector -/
  direct : Option (Nat × Nat)
  deriving DecidableEq, Repr

/-- A host downlink queued at its owning L-die or F-die (R213, R214). -/
structure HostDl where
  cmd : Nat
  handle : Nat
  flags : Nat
  path : Nat
  slot : Nat
  mode : Nat
  time : Nat
  bytes : Bytes
  expires : Nat
  deriving DecidableEq, Repr

structure Hif where
  groups : SMap Grp := []
  inflight : List Cmd := []
  nextId : Nat := 0
  longOps : List LongOp := []
  evtWait : List EvtWait := []
  evtNet : List EvtMsg := []
  /-- MSI-X tables of the two ports: 32-bit words, key 256 * port + word number -/
  msixTable : SMap Nat := []
  /-- MSI-X pending bits (BAR4 0x800), key 64 * port + vector -/
  msixPend : SMap Bool := []
  /-- signals sent so far, key 64 * port + vector: what the host's interrupt controller has been sent -/
  msixSent : SMap Nat := []
  /-- bytes the device has written to host memory, key = 2^64 * port + address -/
  hostOut : SMap Byte := []
  /-- host downlinks with when = 1 or 2 that wait at the transmit path or modem -/
  timed : List HostDl := []
  /-- SQ heads, by group, and the fetch number, as mirrored to the other port die at the last doorbell or CQ reservation (R226) -/
  mirHeads : SMap Nat := []
  mirNext : Nat := 0
  /-- failback has been written and waits for port A and L0 (R226) -/
  failback : Bool := false
  /-- since when no port's link is up (R303) -/
  portsDown : Option Nat := some 0
  deriving DecidableEq, Repr

end Sys2Proof.Machine
end

