-- ==== Sys2Proof/Machine/RegsCommon.lean ====
section
/-! DEFINITION. The register fields of the common blocks SYS, PWR, CLK, EVT, LOCK and AGE, one constant per field, copied from
the register tables of the spec (offset, stride and count; bits; access; reset). -/

namespace Sys2Proof.Machine

/-! ### SYS (base 0x0), 18_event_register_index -/

def SYS_ID_revision : Field := ⟨0x0, 0x0, 0x0, 1, 7, 0, .ro, perDie 0⟩
def SYS_ID_die_type : Field := ⟨0x0, 0x0, 0x0, 1, 8, 8, .ro, perDie 1⟩
def SYS_ID_die_index : Field := ⟨0x0, 0x0, 0x0, 1, 11, 9, .ro, perDie 2⟩
def SYS_ID_variant : Field := ⟨0x0, 0x0, 0x0, 1, 15, 12, .ro, perDie 3⟩
def SYS_ID_part : Field := ⟨0x0, 0x0, 0x0, 1, 31, 16, .ro, 23556⟩
def SYS_CTRL_cnt_clear : Field := ⟨0x0, 0x4, 0x0, 1, 0, 0, .w1s, 0⟩
def SYS_STAT_acc_error : Field := ⟨0x0, 0x8, 0x0, 1, 0, 0, .w1c, 0⟩
def SYS_STAT_clk_lost : Field := ⟨0x0, 0x8, 0x0, 1, 1, 1, .ros, 0⟩
def SYS_BOOT_stage : Field := ⟨0x0, 0xC, 0x0, 1, 3, 0, .ro, 0⟩
def SYS_BOOT_reason : Field := ⟨0x0, 0xC, 0x0, 1, 15, 8, .ros, 0⟩
def SYS_BOOT_bank : Field := ⟨0x0, 0xC, 0x0, 1, 17, 16, .ro, 0⟩
def SYS_BOOT_trial : Field := ⟨0x0, 0xC, 0x0, 1, 18, 18, .ro, 0⟩
def SYS_BOOT_remedial : Field := ⟨0x0, 0xC, 0x0, 1, 19, 19, .ros, 0⟩
def SYS_ACC_ADDR_offset : Field := ⟨0x0, 0x10, 0x0, 1, 22, 0, .ro, 0⟩
def SYS_ACC_ADDR_kind : Field := ⟨0x0, 0x10, 0x0, 1, 24, 24, .ro, 0⟩
def SYS_FENCE_fenced : Field := ⟨0x0, 0x14, 0x0, 1, 7, 0, .ro, 0⟩
def SYS_START_CLK_seconds : Field := ⟨0x0, 0x18, 0x0, 1, 31, 0, .ro, 0⟩
def SYS_SCRATCH_value : Field := ⟨0x0, 0x20, 0x0, 1, 31, 0, .rws, 0⟩
def SYS_ACC_ERR_CNT : Field := ⟨0x0, 0x40, 0x0, 1, 31, 0, .ro, 0⟩

/-- The fields of the SYS registers, in table order. -/
def fieldsSYS : List Field := [
  SYS_ID_revision, SYS_ID_die_type, SYS_ID_die_index, SYS_ID_variant, SYS_ID_part, SYS_CTRL_cnt_clear,
  SYS_STAT_acc_error, SYS_STAT_clk_lost, SYS_BOOT_stage, SYS_BOOT_reason, SYS_BOOT_bank, SYS_BOOT_trial,
  SYS_BOOT_remedial, SYS_ACC_ADDR_offset, SYS_ACC_ADDR_kind, SYS_FENCE_fenced, SYS_START_CLK_seconds,
  SYS_SCRATCH_value, SYS_ACC_ERR_CNT]

/-- What cnt_clear of the SYS block clears (R8 of the counter registers). -/
def countersSYS : List Field := [
  SYS_ACC_ERR_CNT]

/-! ### PWR (base 0x10000), 15_power_clocks_ageing -/

def PWR_CTRL_cnt_clear : Field := ⟨0x10000, 0x0, 0x0, 1, 0, 0, .w1s, 0⟩
def PWR_CTRL_recess_go : Field := ⟨0x10000, 0x0, 0x0, 1, 1, 1, .w1s, 0⟩
def PWR_STAT_recess : Field := ⟨0x10000, 0x4, 0x0, 1, 1, 0, .ro, 0⟩
def PWR_STAT_bo_warn : Field := ⟨0x10000, 0x4, 0x0, 1, 2, 2, .ro, 0⟩
def PWR_STAT_saved : Field := ⟨0x10000, 0x4, 0x0, 1, 3, 3, .ro, 0⟩
def PWR_STAT_stage : Field := ⟨0x10000, 0x4, 0x0, 1, 5, 4, .ro, 0⟩
def PWR_STAT_trip : Field := ⟨0x10000, 0x4, 0x0, 1, 6, 6, .ros, 0⟩
def PWR_STAT_cfg_error : Field := ⟨0x10000, 0x4, 0x0, 1, 7, 7, .ro, 0⟩
def PWR_DOM_EN_en : Field := ⟨0x10000, 0x8, 0x0, 1, 15, 0, .rw, perDie 11⟩
def PWR_DOM_STAT_on : Field := ⟨0x10000, 0xC, 0x0, 1, 15, 0, .ro, perDie 12⟩
def PWR_RECESS_level : Field := ⟨0x10000, 0x10, 0x0, 1, 1, 0, .rw, 0⟩
def PWR_WAKE_mask : Field := ⟨0x10000, 0x14, 0x0, 1, 4, 0, .rw, 17⟩
def PWR_WAKE_last : Field := ⟨0x10000, 0x14, 0x0, 1, 12, 8, .ro, 0⟩
def PWR_VMON_warn_mv : Field := ⟨0x10000, 0x18, 0x0, 1, 10, 0, .rw, 900⟩
def PWR_VMON_reset_mv : Field := ⟨0x10000, 0x18, 0x0, 1, 26, 16, .rw, 780⟩
def PWR_VMON_hyst : Field := ⟨0x10000, 0x18, 0x0, 1, 31, 27, .rw, 20⟩
def PWR_THERM_t1 : Field := ⟨0x10000, 0x1C, 0x0, 1, 7, 0, .rw, 105⟩
def PWR_THERM_t2 : Field := ⟨0x10000, 0x1C, 0x0, 1, 15, 8, .rw, 109⟩
def PWR_THERM_t_trip : Field := ⟨0x10000, 0x1C, 0x0, 1, 23, 16, .ro, 115⟩
def PWR_THERM_hyst : Field := ⟨0x10000, 0x1C, 0x0, 1, 31, 24, .rw, 5⟩
def PWR_TEMP_tj : Field := ⟨0x10000, 0x20, 0x0, 1, 7, 0, .ro, 0⟩
def PWR_TEMP_sensor : Field := ⟨0x10000, 0x20, 0x0, 1, 10, 8, .ro, 0⟩
def PWR_TEMP_MAX_max : Field := ⟨0x10000, 0x24, 0x0, 1, 7, 0, .ros, 128⟩
def PWR_SAVE_CNT : Field := ⟨0x10000, 0x40, 0x0, 1, 31, 0, .ro, 0⟩
def PWR_DIP_CNT : Field := ⟨0x10000, 0x44, 0x0, 1, 31, 0, .ro, 0⟩
def PWR_THROT_CNT : Field := ⟨0x10000, 0x48, 0x0, 1, 31, 0, .ro, 0⟩
def PWR_WAKE_CNT : Field := ⟨0x10000, 0x4C, 0x0, 1, 31, 0, .ro, 0⟩

/-- The fields of the PWR registers, part 1, in table order. -/
def fieldsPWR1 : List Field := [
  PWR_CTRL_cnt_clear, PWR_CTRL_recess_go, PWR_STAT_recess, PWR_STAT_bo_warn, PWR_STAT_saved,
  PWR_STAT_stage, PWR_STAT_trip, PWR_STAT_cfg_error, PWR_DOM_EN_en, PWR_DOM_STAT_on, PWR_RECESS_level,
  PWR_WAKE_mask, PWR_WAKE_last, PWR_VMON_warn_mv, PWR_VMON_reset_mv, PWR_VMON_hyst, PWR_THERM_t1,
  PWR_THERM_t2, PWR_THERM_t_trip, PWR_THERM_hyst, PWR_TEMP_tj, PWR_TEMP_sensor, PWR_TEMP_MAX_max,
  PWR_SAVE_CNT]

/-- The fields of the PWR registers, part 2, in table order. -/
def fieldsPWR2 : List Field := [
  PWR_DIP_CNT, PWR_THROT_CNT, PWR_WAKE_CNT]

/-- The fields of the PWR registers. -/
def fieldsPWR : List Field := fieldsPWR1 ++ fieldsPWR2

/-- What cnt_clear of the PWR block clears (R8 of the counter registers). -/
def countersPWR : List Field := [
  PWR_SAVE_CNT, PWR_DIP_CNT, PWR_THROT_CNT, PWR_WAKE_CNT]

/-! ### CLK (base 0x20000), 15_power_clocks_ageing -/

def CLK_CTRL_cnt_clear : Field := ⟨0x20000, 0x0, 0x0, 1, 0, 0, .w1s, 0⟩
def CLK_CTRL_set_go : Field := ⟨0x20000, 0x0, 0x0, 1, 1, 1, .w1s, 0⟩
def CLK_CTRL_pps_out_en : Field := ⟨0x20000, 0x0, 0x0, 1, 2, 2, .rw, 0⟩
def CLK_STAT_quality : Field := ⟨0x20000, 0x4, 0x0, 1, 1, 0, .ro, 2⟩
def CLK_STAT_source : Field := ⟨0x20000, 0x4, 0x0, 1, 3, 2, .ro, 0⟩
def CLK_STAT_root_lock : Field := ⟨0x20000, 0x4, 0x0, 1, 4, 4, .ro, 0⟩
def CLK_STAT_ser_lock : Field := ⟨0x20000, 0x4, 0x0, 1, 5, 5, .ro, 0⟩
def CLK_STAT_eth_lock : Field := ⟨0x20000, 0x4, 0x0, 1, 6, 6, .ro, 0⟩
def CLK_STAT_ref_fault : Field := ⟨0x20000, 0x4, 0x0, 1, 7, 7, .ros, 0⟩
def CLK_STAT_pps_ok : Field := ⟨0x20000, 0x4, 0x0, 1, 8, 8, .ro, 0⟩
def CLK_STAT_master : Field := ⟨0x20000, 0x4, 0x0, 1, 9, 9, .ro, 0⟩
def CLK_SRC_first : Field := ⟨0x20000, 0x8, 0x0, 1, 1, 0, .rw, 1⟩
def CLK_SRC_second : Field := ⟨0x20000, 0x8, 0x0, 1, 3, 2, .rw, 2⟩
def CLK_SRC_third : Field := ⟨0x20000, 0x8, 0x0, 1, 5, 4, .rw, 3⟩
def CLK_DISC_lock_ns : Field := ⟨0x20000, 0xC, 0x0, 1, 15, 0, .rw, 1000⟩
def CLK_DISC_slew_max : Field := ⟨0x20000, 0xC, 0x0, 1, 23, 16, .rw, 50⟩
def CLK_DISC_step_ms : Field := ⟨0x20000, 0xC, 0x0, 1, 31, 24, .rw, 10⟩
def CLK_TIME_LO_time_lo : Field := ⟨0x20000, 0x10, 0x0, 1, 31, 0, .ro, 0⟩
def CLK_TIME_HI_time_hi : Field := ⟨0x20000, 0x14, 0x0, 1, 31, 0, .ro, 0⟩
def CLK_SET_LO_set_lo : Field := ⟨0x20000, 0x18, 0x0, 1, 31, 0, .rw, 0⟩
def CLK_SET_HI_set_hi : Field := ⟨0x20000, 0x1C, 0x0, 1, 31, 0, .rw, 0⟩
def CLK_RATE_rate : Field := ⟨0x20000, 0x20, 0x0, 1, 31, 0, .ro, 0⟩
def CLK_OFS_offset : Field := ⟨0x20000, 0x24, 0x0, 1, 31, 0, .ro, 0⟩
def CLK_PPS_in_en : Field := ⟨0x20000, 0x28, 0x0, 1, 0, 0, .rw, 0⟩
def CLK_PPS_in_pol : Field := ⟨0x20000, 0x28, 0x0, 1, 1, 1, .rw, 0⟩
def CLK_PPS_out_width_ms : Field := ⟨0x20000, 0x28, 0x0, 1, 17, 8, .rw, 100⟩
def CLK_HOLD_seconds : Field := ⟨0x20000, 0x2C, 0x0, 1, 31, 0, .ro, 0⟩
def CLK_ZC_DEV_ppm : Field := ⟨0x20000, 0x30, 0x0, 1, 15, 0, .ro, 0⟩
def CLK_STEP_CNT : Field := ⟨0x20000, 0x40, 0x0, 1, 31, 0, .ro, 0⟩
def CLK_UNLOCK_CNT : Field := ⟨0x20000, 0x44, 0x0, 1, 31, 0, .ro, 0⟩
def CLK_PPS_MISS_CNT : Field := ⟨0x20000, 0x48, 0x0, 1, 31, 0, .ro, 0⟩

/-- The fields of the CLK registers, part 1, in table order. -/
def fieldsCLK1 : List Field := [
  CLK_CTRL_cnt_clear, CLK_CTRL_set_go, CLK_CTRL_pps_out_en, CLK_STAT_quality, CLK_STAT_source,
  CLK_STAT_root_lock, CLK_STAT_ser_lock, CLK_STAT_eth_lock, CLK_STAT_ref_fault, CLK_STAT_pps_ok,
  CLK_STAT_master, CLK_SRC_first, CLK_SRC_second, CLK_SRC_third, CLK_DISC_lock_ns, CLK_DISC_slew_max,
  CLK_DISC_step_ms, CLK_TIME_LO_time_lo, CLK_TIME_HI_time_hi, CLK_SET_LO_set_lo, CLK_SET_HI_set_hi,
  CLK_RATE_rate, CLK_OFS_offset, CLK_PPS_in_en]

/-- The fields of the CLK registers, part 2, in table order. -/
def fieldsCLK2 : List Field := [
  CLK_PPS_in_pol, CLK_PPS_out_width_ms, CLK_HOLD_seconds, CLK_ZC_DEV_ppm, CLK_STEP_CNT, CLK_UNLOCK_CNT,
  CLK_PPS_MISS_CNT]

/-- The fields of the CLK registers. -/
def fieldsCLK : List Field := fieldsCLK1 ++ fieldsCLK2

/-- What cnt_clear of the CLK block clears (R8 of the counter registers). -/
def countersCLK : List Field := [
  CLK_STEP_CNT, CLK_UNLOCK_CNT, CLK_PPS_MISS_CNT]

/-! ### EVT (base 0x30000), 18_event_register_index -/

def EVT_CTRL_cnt_clear : Field := ⟨0x30000, 0x0, 0x0, 1, 0, 0, .w1s, 0⟩
def EVT_STAT_waiting : Field := ⟨0x30000, 0x4, 0x0, 1, 8, 0, .ro, 0⟩
def EVT_TEST_source : Field := ⟨0x30000, 0x8, 0x0, 1, 7, 0, .wo, 0⟩
def EVT_TEST_go : Field := ⟨0x30000, 0x8, 0x0, 1, 8, 8, .w1s, 0⟩
def EVT_PENDw_pend : Field := ⟨0x30000, 0x100, 0x4, 8, 31, 0, .w1c, 0⟩
def EVT_SRCs_en : Field := ⟨0x30000, 0x400, 0x4, 256, 0, 0, .rw, perDie 5⟩
def EVT_SRCs_class : Field := ⟨0x30000, 0x400, 0x4, 256, 2, 1, .rw, perDie 4⟩
def EVT_SRCs_direct : Field := ⟨0x30000, 0x400, 0x4, 256, 3, 3, .rw, 0⟩
def EVT_SRCs_vector : Field := ⟨0x30000, 0x400, 0x4, 256, 9, 4, .rw, 0⟩
def EVT_SRCs_port : Field := ⟨0x30000, 0x400, 0x4, 256, 10, 10, .rw, 0⟩
def EVT_SRCs_cfg_error : Field := ⟨0x30000, 0x400, 0x4, 256, 11, 11, .ro, 0⟩
def EVT_RAISE_CNT : Field := ⟨0x30000, 0x40, 0x0, 1, 31, 0, .ro, 0⟩
def EVT_COALESCE_CNT : Field := ⟨0x30000, 0x44, 0x0, 1, 31, 0, .ro, 0⟩
def EVT_SAT_CNT : Field := ⟨0x30000, 0x48, 0x0, 1, 31, 0, .ro, 0⟩

/-- The fields of the EVT registers, in table order. -/
def fieldsEVT : List Field := [
  EVT_CTRL_cnt_clear, EVT_STAT_waiting, EVT_TEST_source, EVT_TEST_go, EVT_PENDw_pend, EVT_SRCs_en,
  EVT_SRCs_class, EVT_SRCs_direct, EVT_SRCs_vector, EVT_SRCs_port, EVT_SRCs_cfg_error, EVT_RAISE_CNT,
  EVT_COALESCE_CNT, EVT_SAT_CNT]

/-- What cnt_clear of the EVT block clears (R8 of the counter registers). -/
def countersEVT : List Field := [
  EVT_RAISE_CNT, EVT_COALESCE_CNT, EVT_SAT_CNT]

/-! ### LOCK (base 0x40000), 05_locker_security -/

def LOCK_CTRL_cnt_clear : Field := ⟨0x40000, 0x0, 0x0, 1, 0, 0, .w1s, 0⟩
def LOCK_CTRL_zeroise : Field := ⟨0x40000, 0x0, 0x0, 1, 1, 1, .w1s, 0⟩
def LOCK_STAT_lifecycle : Field := ⟨0x40000, 0x4, 0x0, 1, 1, 0, .ro, 0⟩
def LOCK_STAT_ready : Field := ⟨0x40000, 0x4, 0x0, 1, 2, 2, .ro, 0⟩
def LOCK_STAT_fuse_error : Field := ⟨0x40000, 0x4, 0x0, 1, 3, 3, .ros, 0⟩
def LOCK_STAT_integrity_alarm : Field := ⟨0x40000, 0x4, 0x0, 1, 4, 4, .ros, 0⟩
def LOCK_STAT_lc_pending : Field := ⟨0x40000, 0x4, 0x0, 1, 5, 5, .ros, 0⟩
def LOCK_STAT_svn : Field := ⟨0x40000, 0x4, 0x0, 1, 15, 8, .ro, 0⟩
def LOCK_STAT_slots_valid : Field := ⟨0x40000, 0x4, 0x0, 1, 25, 16, .ro, 0⟩
def LOCK_DIE_ID_LO_id_lo : Field := ⟨0x40000, 0x8, 0x0, 1, 31, 0, .ro, 0⟩
def LOCK_DIE_ID_HI_id_hi : Field := ⟨0x40000, 0xC, 0x0, 1, 31, 0, .ro, 0⟩
def LOCK_MARK_LOCK_lock : Field := ⟨0x40000, 0x10, 0x0, 1, 7, 0, .w1s, 0⟩
def LOCK_EXT_CTRL_mark : Field := ⟨0x40000, 0x14, 0x0, 1, 2, 0, .rw, 4⟩
def LOCK_EXT_CTRL_go : Field := ⟨0x40000, 0x14, 0x0, 1, 8, 8, .w1s, 0⟩
def LOCK_EXT_CTRL_error : Field := ⟨0x40000, 0x14, 0x0, 1, 23, 16, .ro, 0⟩
def LOCK_EXT_DATAw_data : Field := ⟨0x40000, 0x20, 0x4, 8, 31, 0, .wo, 0⟩
def LOCK_SLOT_SEL_slot : Field := ⟨0x40000, 0x40, 0x0, 1, 8, 0, .rw, 0⟩
def LOCK_SLOT_ATTR_valid : Field := ⟨0x40000, 0x44, 0x0, 1, 0, 0, .ro, 0⟩
def LOCK_SLOT_ATTR_alg : Field := ⟨0x40000, 0x44, 0x0, 1, 3, 1, .ro, 0⟩
def LOCK_SLOT_ATTR_usage : Field := ⟨0x40000, 0x44, 0x0, 1, 11, 4, .ro, 0⟩
def LOCK_SLOT_ATTR_origin : Field := ⟨0x40000, 0x44, 0x0, 1, 13, 12, .ro, 0⟩
def LOCK_SLOT_ATTR_exportable : Field := ⟨0x40000, 0x44, 0x0, 1, 14, 14, .ro, 0⟩
def LOCK_SLOT_ATTR_reset_expiry : Field := ⟨0x40000, 0x44, 0x0, 1, 15, 15, .ro, 0⟩
def LOCK_SLOT_ATTR_lc_bound : Field := ⟨0x40000, 0x44, 0x0, 1, 16, 16, .ro, 0⟩
def LOCK_SLOT_ATTR_marks : Field := ⟨0x40000, 0x44, 0x0, 1, 31, 24, .ro, 0⟩
def LOCK_SLOT_USES_uses : Field := ⟨0x40000, 0x48, 0x0, 1, 31, 0, .ro, 0⟩
def LOCK_HASH_SEL_which : Field := ⟨0x40000, 0x60, 0x0, 1, 1, 0, .rw, 0⟩
def LOCK_HASH_DATAw_value : Field := ⟨0x40000, 0x80, 0x4, 8, 31, 0, .ro, 0⟩
def LOCK_MARKm_w_value : Field := ⟨0x40000, 0x100, 0x4, 64, 31, 0, .ro, 0⟩
def LOCK_OP_CNT : Field := ⟨0x40000, 0x50, 0x0, 1, 31, 0, .ro, 0⟩
def LOCK_REFUSE_CNT : Field := ⟨0x40000, 0x54, 0x0, 1, 31, 0, .ro, 0⟩

/-- The fields of the LOCK registers, part 1, in table order. -/
def fieldsLOCK1 : List Field := [
  LOCK_CTRL_cnt_clear, LOCK_CTRL_zeroise, LOCK_STAT_lifecycle, LOCK_STAT_ready, LOCK_STAT_fuse_error,
  LOCK_STAT_integrity_alarm, LOCK_STAT_lc_pending, LOCK_STAT_svn, LOCK_STAT_slots_valid,
  LOCK_DIE_ID_LO_id_lo, LOCK_DIE_ID_HI_id_hi, LOCK_MARK_LOCK_lock, LOCK_EXT_CTRL_mark, LOCK_EXT_CTRL_go,
  LOCK_EXT_CTRL_error, LOCK_EXT_DATAw_data, LOCK_SLOT_SEL_slot, LOCK_SLOT_ATTR_valid, LOCK_SLOT_ATTR_alg,
  LOCK_SLOT_ATTR_usage, LOCK_SLOT_ATTR_origin, LOCK_SLOT_ATTR_exportable, LOCK_SLOT_ATTR_reset_expiry,
  LOCK_SLOT_ATTR_lc_bound]

/-- The fields of the LOCK registers, part 2, in table order. -/
def fieldsLOCK2 : List Field := [
  LOCK_SLOT_ATTR_marks, LOCK_SLOT_USES_uses, LOCK_HASH_SEL_which, LOCK_HASH_DATAw_value,
  LOCK_MARKm_w_value, LOCK_OP_CNT, LOCK_REFUSE_CNT]

/-- The fields of the LOCK registers. -/
def fieldsLOCK : List Field := fieldsLOCK1 ++ fieldsLOCK2

/-- What cnt_clear of the LOCK block clears (R8 of the counter registers). -/
def countersLOCK : List Field := [
  LOCK_OP_CNT, LOCK_REFUSE_CNT]

/-! ### AGE (base 0x50000), 15_power_clocks_ageing -/

def AGE_CTRL_cnt_clear : Field := ⟨0x50000, 0x0, 0x0, 1, 0, 0, .w1s, 0⟩
def AGE_CTRL_plan_now : Field := ⟨0x50000, 0x0, 0x0, 1, 1, 1, .w1s, 0⟩
def AGE_CTRL_avs_en : Field := ⟨0x50000, 0x0, 0x0, 1, 2, 2, .rw, 0⟩
def AGE_STAT_planning : Field := ⟨0x50000, 0x4, 0x0, 1, 0, 0, .ro, 0⟩
def AGE_STAT_avs_fault : Field := ⟨0x50000, 0x4, 0x0, 1, 1, 1, .ro, 0⟩
def AGE_STAT_clk_derated : Field := ⟨0x50000, 0x4, 0x0, 1, 2, 2, .ro, 0⟩
def AGE_STAT_limit : Field := ⟨0x50000, 0x4, 0x0, 1, 4, 3, .ro, 0⟩
def AGE_CFG_period_h : Field := ⟨0x50000, 0x8, 0x0, 1, 7, 0, .rw, 24⟩
def AGE_CFG_guard_ps : Field := ⟨0x50000, 0x8, 0x0, 1, 15, 8, .rw, 40⟩
def AGE_CFG_warn_days : Field := ⟨0x50000, 0x8, 0x0, 1, 31, 16, .rw, 1825⟩
def AGE_VCORE_target_mv : Field := ⟨0x50000, 0xC, 0x0, 1, 9, 0, .ro, 800⟩
def AGE_VCORE_vmax_mv : Field := ⟨0x50000, 0xC, 0x0, 1, 25, 16, .rw, 850⟩
def AGE_SLACK_slack : Field := ⟨0x50000, 0x10, 0x0, 1, 15, 0, .ro, 0⟩
def AGE_SLACK_monitor : Field := ⟨0x50000, 0x10, 0x0, 1, 18, 16, .ro, 0⟩
def AGE_DRAM_refresh : Field := ⟨0x50000, 0x14, 0x0, 1, 1, 0, .ro, 0⟩
def AGE_DRAM_margin : Field := ⟨0x50000, 0x14, 0x0, 1, 15, 8, .ro, 0⟩
def AGE_LIFE_days : Field := ⟨0x50000, 0x18, 0x0, 1, 15, 0, .ro, 65535⟩
def AGE_LIFE_drift : Field := ⟨0x50000, 0x18, 0x0, 1, 31, 16, .ro, 0⟩
def AGE_AVS_rail : Field := ⟨0x50000, 0x1C, 0x0, 1, 3, 0, .rw, perDie 13⟩
def AGE_PLAN_CNT : Field := ⟨0x50000, 0x40, 0x0, 1, 31, 0, .ro, 0⟩
def AGE_VSTEP_CNT : Field := ⟨0x50000, 0x44, 0x0, 1, 31, 0, .ro, 0⟩
def AGE_AVS_ERR_CNT : Field := ⟨0x50000, 0x48, 0x0, 1, 31, 0, .ro, 0⟩

/-- The fields of the AGE registers, in table order. -/
def fieldsAGE : List Field := [
  AGE_CTRL_cnt_clear, AGE_CTRL_plan_now, AGE_CTRL_avs_en, AGE_STAT_planning, AGE_STAT_avs_fault,
  AGE_STAT_clk_derated, AGE_STAT_limit, AGE_CFG_period_h, AGE_CFG_guard_ps, AGE_CFG_warn_days,
  AGE_VCORE_target_mv, AGE_VCORE_vmax_mv, AGE_SLACK_slack, AGE_SLACK_monitor, AGE_DRAM_refresh,
  AGE_DRAM_margin, AGE_LIFE_days, AGE_LIFE_drift, AGE_AVS_rail, AGE_PLAN_CNT, AGE_VSTEP_CNT, AGE_AVS_ERR_CNT]

/-- What cnt_clear of the AGE block clears (R8 of the counter registers). -/
def countersAGE : List Field := [
  AGE_PLAN_CNT, AGE_VSTEP_CNT, AGE_AVS_ERR_CNT]

end Sys2Proof.Machine
end

