-- ==== Sys2Proof/Machine/RegsField.lean ====
section
/-! DEFINITION. The register fields of the F-die blocks RFA, RFB, RFT, CHN, DMD, TT, WMB, PLC, SLATE and GPIO, one constant per field, copied from
the register tables of the spec (offset, stride and count; bits; access; reset). -/

namespace Sys2Proof.Machine

/-! ### RFA (base 0x100000), 02_radio_reception -/

def RFA_CTRL_enable : Field := ⟨0x100000, 0x0, 0x0, 1, 0, 0, .rw, 0⟩
def RFA_CTRL_lna : Field := ⟨0x100000, 0x0, 0x0, 1, 2, 1, .rw, 0⟩
def RFA_CTRL_agc_freeze : Field := ⟨0x100000, 0x0, 0x0, 1, 3, 3, .rw, 0⟩
def RFA_CTRL_cal_start : Field := ⟨0x100000, 0x0, 0x0, 1, 4, 4, .w1s, 0⟩
def RFA_CTRL_gain_cal_start : Field := ⟨0x100000, 0x0, 0x0, 1, 5, 5, .w1s, 0⟩
def RFA_CTRL_cnt_clear : Field := ⟨0x100000, 0x0, 0x0, 1, 6, 6, .w1s, 0⟩
def RFA_TUNE_centre : Field := ⟨0x100000, 0x4, 0x0, 1, 23, 0, .rw, 0x847240⟩
def RFA_BW_bw : Field := ⟨0x100000, 0x8, 0x0, 1, 2, 0, .rw, 4⟩
def RFA_STAT_pll_lock : Field := ⟨0x100000, 0xC, 0x0, 1, 0, 0, .ro, 0⟩
def RFA_STAT_overload : Field := ⟨0x100000, 0xC, 0x0, 1, 1, 1, .ro, 0⟩
def RFA_STAT_cal_state : Field := ⟨0x100000, 0xC, 0x0, 1, 3, 2, .ro, 0⟩
def RFA_STAT_deaf : Field := ⟨0x100000, 0xC, 0x0, 1, 4, 4, .ro, 0⟩
def RFA_STAT_lna_bypassed : Field := ⟨0x100000, 0xC, 0x0, 1, 5, 5, .ro, 0⟩
def RFA_STAT_agc_gain : Field := ⟨0x100000, 0xC, 0x0, 1, 13, 6, .ro, 0⟩
def RFA_POWER_power : Field := ⟨0x100000, 0x10, 0x0, 1, 15, 0, .ro, 32768⟩
def RFA_CAL_cal_temp : Field := ⟨0x100000, 0x14, 0x0, 1, 7, 0, .ro, 0⟩
def RFA_CAL_cal_age : Field := ⟨0x100000, 0x14, 0x0, 1, 23, 8, .ro, 65535⟩
def RFA_CAL_fail_code : Field := ⟨0x100000, 0x14, 0x0, 1, 31, 24, .ro, 0⟩
def RFA_OVLD_CNT : Field := ⟨0x100000, 0x18, 0x0, 1, 31, 0, .ro, 0⟩

/-- The fields of the RFA registers, in table order. -/
def fieldsRFA : List Field := [
  RFA_CTRL_enable, RFA_CTRL_lna, RFA_CTRL_agc_freeze, RFA_CTRL_cal_start, RFA_CTRL_gain_cal_start,
  RFA_CTRL_cnt_clear, RFA_TUNE_centre, RFA_BW_bw, RFA_STAT_pll_lock, RFA_STAT_overload, RFA_STAT_cal_state,
  RFA_STAT_deaf, RFA_STAT_lna_bypassed, RFA_STAT_agc_gain, RFA_POWER_power, RFA_CAL_cal_temp,
  RFA_CAL_cal_age, RFA_CAL_fail_code, RFA_OVLD_CNT]

/-- What cnt_clear of the RFA block clears (R8 of the counter registers). -/
def countersRFA : List Field := [
  RFA_OVLD_CNT]

/-! ### RFT (base 0x120000), 02_radio_reception -/

def RFT_CTRL_enable : Field := ⟨0x120000, 0x0, 0x0, 1, 0, 0, .rw, 0⟩
def RFT_CTRL_blank_mask : Field := ⟨0x120000, 0x0, 0x0, 1, 2, 1, .rw, 0⟩
def RFT_CTRL_cnt_clear : Field := ⟨0x120000, 0x0, 0x0, 1, 3, 3, .w1s, 0⟩
def RFT_CTRL_dc_lock : Field := ⟨0x120000, 0x0, 0x0, 1, 4, 4, .w1s, 0⟩
def RFT_POWER_power : Field := ⟨0x120000, 0x4, 0x0, 1, 7, 0, .rw, 212⟩
def RFT_POWER_ramp : Field := ⟨0x120000, 0x4, 0x0, 1, 15, 8, .rw, 8⟩
def RFT_STAT_pll_lock : Field := ⟨0x120000, 0x8, 0x0, 1, 0, 0, .ro, 0⟩
def RFT_STAT_busy : Field := ⟨0x120000, 0x8, 0x0, 1, 1, 1, .ro, 0⟩
def RFT_STAT_power_fault : Field := ⟨0x120000, 0x8, 0x0, 1, 2, 2, .ros, 0⟩
def RFT_STAT_measured : Field := ⟨0x120000, 0x8, 0x0, 1, 15, 8, .ro, 0⟩
def RFT_FEM_PATn_pattern : Field := ⟨0x120000, 0x10, 0x4, 8, 5, 0, .rw, 0⟩
def RFT_DC_LOn_lo : Field := ⟨0x120000, 0x40, 0x10, 8, 23, 0, .rw, 0⟩
def RFT_DC_HIn_hi : Field := ⟨0x120000, 0x44, 0x10, 8, 23, 0, .rw, 0⟩
def RFT_DC_LIMn_lim : Field := ⟨0x120000, 0x48, 0x10, 8, 16, 0, .rw, 0⟩
def RFT_DC_LIMn_ack_reserve : Field := ⟨0x120000, 0x48, 0x10, 8, 31, 24, .rw, 0⟩
def RFT_DC_USEDn_used : Field := ⟨0x120000, 0x4C, 0x10, 8, 31, 0, .ro, 0⟩
def RFT_TX_CNT : Field := ⟨0x120000, 0xC0, 0x0, 1, 31, 0, .ro, 0⟩
def RFT_REFUSE_CNT : Field := ⟨0x120000, 0xC4, 0x0, 1, 31, 0, .ro, 0⟩

/-- The fields of the RFT registers, in table order. -/
def fieldsRFT : List Field := [
  RFT_CTRL_enable, RFT_CTRL_blank_mask, RFT_CTRL_cnt_clear, RFT_CTRL_dc_lock, RFT_POWER_power,
  RFT_POWER_ramp, RFT_STAT_pll_lock, RFT_STAT_busy, RFT_STAT_power_fault, RFT_STAT_measured,
  RFT_FEM_PATn_pattern, RFT_DC_LOn_lo, RFT_DC_HIn_hi, RFT_DC_LIMn_lim, RFT_DC_LIMn_ack_reserve,
  RFT_DC_USEDn_used, RFT_TX_CNT, RFT_REFUSE_CNT]

/-- What cnt_clear of the RFT block clears (R8 of the counter registers). -/
def countersRFT : List Field := [
  RFT_TX_CNT, RFT_REFUSE_CNT]

/-! ### CHN (base 0x130000), 02_radio_reception -/

def CHN_CTRL_cnt_clear : Field := ⟨0x130000, 0x0, 0x0, 1, 0, 0, .w1s, 0⟩
def CHN_STAT_slots_enabled : Field := ⟨0x130000, 0x4, 0x0, 1, 7, 0, .ro, 0⟩
def CHN_STAT_ctx_free : Field := ⟨0x130000, 0x4, 0x0, 1, 15, 8, .ro, 128⟩
def CHN_SLOT_CFGn_offset : Field := ⟨0x130000, 0x1000, 0x10, 128, 16, 0, .rw, 0⟩
def CHN_SLOT_CFGn_path : Field := ⟨0x130000, 0x1000, 0x10, 128, 17, 17, .rw, 0⟩
def CHN_SLOT_MODEn_mode_mask : Field := ⟨0x130000, 0x1004, 0x10, 128, 8, 0, .rw, 0⟩
def CHN_SLOT_MODEn_scheduled : Field := ⟨0x130000, 0x1004, 0x10, 128, 9, 9, .rw, 0⟩
def CHN_SLOT_MODEn_unpick : Field := ⟨0x130000, 0x1004, 0x10, 128, 10, 10, .rw, 1⟩
def CHN_SLOT_MODEn_sync_rssi_min : Field := ⟨0x130000, 0x1004, 0x10, 128, 23, 16, .rw, 128⟩
def CHN_SLOT_CTRLn_enable : Field := ⟨0x130000, 0x1008, 0x10, 128, 0, 0, .rw, 0⟩
def CHN_SLOT_STATn_state : Field := ⟨0x130000, 0x100C, 0x10, 128, 1, 0, .ro, 0⟩
def CHN_SLOT_STATn_cfg_error : Field := ⟨0x130000, 0x100C, 0x10, 128, 2, 2, .ro, 0⟩
def CHN_SLOT_STATn_frames : Field := ⟨0x130000, 0x100C, 0x10, 128, 4, 3, .ro, 0⟩
def CHN_SLOT_STATn_noise_floor : Field := ⟨0x130000, 0x100C, 0x10, 128, 15, 8, .ro, 128⟩

/-- The fields of the CHN registers, in table order. -/
def fieldsCHN : List Field := [
  CHN_CTRL_cnt_clear, CHN_STAT_slots_enabled, CHN_STAT_ctx_free, CHN_SLOT_CFGn_offset, CHN_SLOT_CFGn_path,
  CHN_SLOT_MODEn_mode_mask, CHN_SLOT_MODEn_scheduled, CHN_SLOT_MODEn_unpick, CHN_SLOT_MODEn_sync_rssi_min,
  CHN_SLOT_CTRLn_enable, CHN_SLOT_STATn_state, CHN_SLOT_STATn_cfg_error, CHN_SLOT_STATn_frames,
  CHN_SLOT_STATn_noise_floor]

/-! ### DMD (base 0x140000), 02_radio_reception -/

def DMD_CTRL_unpick_en : Field := ⟨0x140000, 0x0, 0x0, 1, 0, 0, .rw, 1⟩
def DMD_CTRL_min_ratio : Field := ⟨0x140000, 0x0, 0x0, 1, 7, 4, .rw, 4⟩
def DMD_CTRL_max_depth : Field := ⟨0x140000, 0x0, 0x0, 1, 9, 8, .rw, 2⟩
def DMD_STAT_ctx_busy : Field := ⟨0x140000, 0x4, 0x0, 1, 7, 0, .ro, 0⟩
def DMD_STAT_unpick_busy : Field := ⟨0x140000, 0x4, 0x0, 1, 12, 8, .ro, 0⟩
def DMD_CTX_STATn_state : Field := ⟨0x140000, 0x1000, 0x4, 128, 1, 0, .ro, 0⟩
def DMD_CTX_STATn_slot : Field := ⟨0x140000, 0x1000, 0x4, 128, 8, 2, .ro, 0⟩
def DMD_CTX_STATn_level : Field := ⟨0x140000, 0x1000, 0x4, 128, 10, 9, .ro, 0⟩
def DMD_CTX_STATn_bytes : Field := ⟨0x140000, 0x1000, 0x4, 128, 31, 16, .ro, 0⟩
def DMD_SYNC_CNT : Field := ⟨0x140000, 0x10, 0x0, 1, 31, 0, .ro, 0⟩
def DMD_LOST_CNT : Field := ⟨0x140000, 0x14, 0x0, 1, 31, 0, .ro, 0⟩
def DMD_FORM_CNT : Field := ⟨0x140000, 0x18, 0x0, 1, 31, 0, .ro, 0⟩
def DMD_ABORT_CNT : Field := ⟨0x140000, 0x1C, 0x0, 1, 31, 0, .ro, 0⟩
def DMD_NOCTX_CNT : Field := ⟨0x140000, 0x20, 0x0, 1, 31, 0, .ro, 0⟩
def DMD_UNPICK1_CNT : Field := ⟨0x140000, 0x24, 0x0, 1, 31, 0, .ro, 0⟩
def DMD_UNPICK2_CNT : Field := ⟨0x140000, 0x28, 0x0, 1, 31, 0, .ro, 0⟩
def DMD_UNPICK_FAIL_CNT : Field := ⟨0x140000, 0x2C, 0x0, 1, 31, 0, .ro, 0⟩
def DMD_UNPICK_LATE_CNT : Field := ⟨0x140000, 0x30, 0x0, 1, 31, 0, .ro, 0⟩
def DMD_BLANK_CNT : Field := ⟨0x140000, 0x34, 0x0, 1, 31, 0, .ro, 0⟩

/-- The fields of the DMD registers, in table order. -/
def fieldsDMD : List Field := [
  DMD_CTRL_unpick_en, DMD_CTRL_min_ratio, DMD_CTRL_max_depth, DMD_STAT_ctx_busy, DMD_STAT_unpick_busy,
  DMD_CTX_STATn_state, DMD_CTX_STATn_slot, DMD_CTX_STATn_level, DMD_CTX_STATn_bytes, DMD_SYNC_CNT,
  DMD_LOST_CNT, DMD_FORM_CNT, DMD_ABORT_CNT, DMD_NOCTX_CNT, DMD_UNPICK1_CNT, DMD_UNPICK2_CNT,
  DMD_UNPICK_FAIL_CNT, DMD_UNPICK_LATE_CNT, DMD_BLANK_CNT]

/-- What cnt_clear of the DMD block clears (R8 of the counter registers). -/
def countersDMD : List Field := [
  DMD_SYNC_CNT, DMD_LOST_CNT, DMD_FORM_CNT, DMD_ABORT_CNT, DMD_NOCTX_CNT, DMD_UNPICK1_CNT, DMD_UNPICK2_CNT,
  DMD_UNPICK_FAIL_CNT, DMD_UNPICK_LATE_CNT, DMD_BLANK_CNT]

/-! ### TT (base 0x180000), 03_timetable_mac -/

def TT_CTRL_cnt_clear : Field := ⟨0x180000, 0x0, 0x0, 1, 0, 0, .w1s, 0⟩
def TT_CTRL_camp_start : Field := ⟨0x180000, 0x0, 0x0, 1, 1, 1, .w1s, 0⟩
def TT_CTRL_camp_abort : Field := ⟨0x180000, 0x0, 0x0, 1, 2, 2, .w1s, 0⟩
def TT_STAT_running : Field := ⟨0x180000, 0x4, 0x0, 1, 7, 0, .ro, 0⟩
def TT_CAMP_CFG_camp_id : Field := ⟨0x180000, 0x40, 0x0, 1, 15, 0, .rw, 0⟩
def TT_CAMP_CFG_tt : Field := ⟨0x180000, 0x40, 0x0, 1, 18, 16, .rw, 0⟩
def TT_CAMP_CFG_rounds : Field := ⟨0x180000, 0x40, 0x0, 1, 31, 24, .rw, 1⟩
def TT_CAMP_BLOCKS_blocks : Field := ⟨0x180000, 0x44, 0x0, 1, 15, 0, .rw, 0⟩
def TT_CAMP_BLOCKS_block_len : Field := ⟨0x180000, 0x44, 0x0, 1, 23, 16, .rw, 192⟩
def TT_CAMP_SRC_LO_src_lo : Field := ⟨0x180000, 0x48, 0x0, 1, 31, 0, .rw, 0⟩
def TT_CAMP_SRC_HI_src_hi : Field := ⟨0x180000, 0x4C, 0x0, 1, 7, 0, .rw, 0⟩
def TT_CAMP_PROG_percent : Field := ⟨0x180000, 0x50, 0x0, 1, 6, 0, .ro, 0⟩
def TT_CAMP_PROG_running : Field := ⟨0x180000, 0x50, 0x0, 1, 8, 8, .ro, 0⟩
def TT_CAMP_PROG_done : Field := ⟨0x180000, 0x50, 0x0, 1, 9, 9, .ro, 0⟩
def TT_CAMP_PROG_error : Field := ⟨0x180000, 0x50, 0x0, 1, 23, 16, .ro, 0⟩
def TT_CAMP_POS_block : Field := ⟨0x180000, 0x54, 0x0, 1, 15, 0, .ro, 0⟩
def TT_CAMP_POS_round : Field := ⟨0x180000, 0x54, 0x0, 1, 23, 16, .ro, 0⟩
def TT_n_CTRL_enable : Field := ⟨0x180000, 0x100, 0x40, 8, 0, 0, .rw, 0⟩
def TT_n_CTRL_follow : Field := ⟨0x180000, 0x100, 0x40, 8, 1, 1, .rw, 0⟩
def TT_n_CTRL_draining : Field := ⟨0x180000, 0x100, 0x40, 8, 2, 2, .rw, 0⟩
def TT_n_CTRL_announce : Field := ⟨0x180000, 0x100, 0x40, 8, 3, 3, .rw, 0⟩
def TT_n_CHAN_slot : Field := ⟨0x180000, 0x104, 0x40, 8, 6, 0, .rw, 0⟩
def TT_n_CHAN_bell_fec : Field := ⟨0x180000, 0x104, 0x40, 8, 7, 7, .rw, 0⟩
def TT_n_CHAN_network : Field := ⟨0x180000, 0x104, 0x40, 8, 31, 16, .rw, 0⟩
def TT_n_FRAME_slot_len : Field := ⟨0x180000, 0x108, 0x40, 8, 11, 0, .rw, 250⟩
def TT_n_FRAME_slots : Field := ⟨0x180000, 0x108, 0x40, 8, 28, 16, .rw, 2400⟩
def TT_n_TIMING_tx_lead : Field := ⟨0x180000, 0x10C, 0x40, 8, 15, 0, .rw, 3000⟩
def TT_n_TIMING_ack_delay : Field := ⟨0x180000, 0x10C, 0x40, 8, 31, 16, .rw, 1000⟩
def TT_n_WIN_guard_min : Field := ⟨0x180000, 0x110, 0x40, 8, 15, 0, .rw, 100⟩
def TT_n_WIN_win_cap : Field := ⟨0x180000, 0x110, 0x40, 8, 31, 16, .rw, 2500⟩
def TT_n_LEARN_u_init : Field := ⟨0x180000, 0x114, 0x40, 8, 15, 0, .rw, 200⟩
def TT_n_LEARN_join_ppm : Field := ⟨0x180000, 0x114, 0x40, 8, 23, 16, .rw, 25⟩
def TT_n_LEARN_truant_hold : Field := ⟨0x180000, 0x114, 0x40, 8, 31, 24, .rw, 4⟩
def TT_n_HP_hp_first : Field := ⟨0x180000, 0x118, 0x40, 8, 12, 0, .rw, 0⟩
def TT_n_HP_hp_stride : Field := ⟨0x180000, 0x118, 0x40, 8, 23, 16, .rw, 0⟩
def TT_n_OPEN_open_first : Field := ⟨0x180000, 0x11C, 0x40, 8, 12, 0, .rw, 0⟩
def TT_n_OPEN_open_stride : Field := ⟨0x180000, 0x11C, 0x40, 8, 23, 16, .rw, 0⟩
def TT_n_BC_bc_first : Field := ⟨0x180000, 0x120, 0x40, 8, 12, 0, .rw, 0⟩
def TT_n_BC_bc_count : Field := ⟨0x180000, 0x120, 0x40, 8, 28, 16, .rw, 0⟩
def TT_n_PERIOD_period_max : Field := ⟨0x180000, 0x124, 0x40, 8, 8, 0, .rw, 1⟩
def TT_n_START_LO_start_lo : Field := ⟨0x180000, 0x128, 0x40, 8, 31, 0, .rw, 0⟩
def TT_n_START_HI_start_hi : Field := ⟨0x180000, 0x12C, 0x40, 8, 31, 0, .rw, 0⟩
def TT_n_SF_superframe : Field := ⟨0x180000, 0x130, 0x40, 8, 31, 0, .ro, 0⟩
def TT_n_STAT_running : Field := ⟨0x180000, 0x134, 0x40, 8, 0, 0, .ro, 0⟩
def TT_n_STAT_cfg_error : Field := ⟨0x180000, 0x134, 0x40, 8, 1, 1, .ro, 0⟩
def TT_n_STAT_no_key : Field := ⟨0x180000, 0x134, 0x40, 8, 2, 2, .ro, 0⟩
def TT_n_EUI_LO_eui_lo : Field := ⟨0x180000, 0x138, 0x40, 8, 31, 0, .rw, 0⟩
def TT_n_EUI_HI_eui_hi : Field := ⟨0x180000, 0x13C, 0x40, 8, 31, 0, .rw, 0⟩
def TT_BELL_CNT : Field := ⟨0x180000, 0x20, 0x0, 1, 31, 0, .ro, 0⟩
def TT_BELL_MISS_CNT : Field := ⟨0x180000, 0x24, 0x0, 1, 31, 0, .ro, 0⟩
def TT_ACK_CNT : Field := ⟨0x180000, 0x28, 0x0, 1, 31, 0, .ro, 0⟩
def TT_ACK_LATE_CNT : Field := ⟨0x180000, 0x2C, 0x0, 1, 31, 0, .ro, 0⟩
def TT_TX_CONFLICT_CNT : Field := ⟨0x180000, 0x30, 0x0, 1, 31, 0, .ro, 0⟩
def TT_BC_CNT : Field := ⟨0x180000, 0x34, 0x0, 1, 31, 0, .ro, 0⟩

/-- The fields of the TT registers, part 1, in table order. -/
def fieldsTT1 : List Field := [
  TT_CTRL_cnt_clear, TT_CTRL_camp_start, TT_CTRL_camp_abort, TT_STAT_running, TT_CAMP_CFG_camp_id,
  TT_CAMP_CFG_tt, TT_CAMP_CFG_rounds, TT_CAMP_BLOCKS_blocks, TT_CAMP_BLOCKS_block_len,
  TT_CAMP_SRC_LO_src_lo, TT_CAMP_SRC_HI_src_hi, TT_CAMP_PROG_percent, TT_CAMP_PROG_running,
  TT_CAMP_PROG_done, TT_CAMP_PROG_error, TT_CAMP_POS_block, TT_CAMP_POS_round, TT_n_CTRL_enable,
  TT_n_CTRL_follow, TT_n_CTRL_draining, TT_n_CTRL_announce, TT_n_CHAN_slot, TT_n_CHAN_bell_fec,
  TT_n_CHAN_network]

/-- The fields of the TT registers, part 2, in table order. -/
def fieldsTT2 : List Field := [
  TT_n_FRAME_slot_len, TT_n_FRAME_slots, TT_n_TIMING_tx_lead, TT_n_TIMING_ack_delay, TT_n_WIN_guard_min,
  TT_n_WIN_win_cap, TT_n_LEARN_u_init, TT_n_LEARN_join_ppm, TT_n_LEARN_truant_hold, TT_n_HP_hp_first,
  TT_n_HP_hp_stride, TT_n_OPEN_open_first, TT_n_OPEN_open_stride, TT_n_BC_bc_first, TT_n_BC_bc_count,
  TT_n_PERIOD_period_max, TT_n_START_LO_start_lo, TT_n_START_HI_start_hi, TT_n_SF_superframe,
  TT_n_STAT_running, TT_n_STAT_cfg_error, TT_n_STAT_no_key, TT_n_EUI_LO_eui_lo, TT_n_EUI_HI_eui_hi]

/-- The fields of the TT registers, part 3, in table order. -/
def fieldsTT3 : List Field := [
  TT_BELL_CNT, TT_BELL_MISS_CNT, TT_ACK_CNT, TT_ACK_LATE_CNT, TT_TX_CONFLICT_CNT, TT_BC_CNT]

/-- The fields of the TT registers. -/
def fieldsTT : List Field := fieldsTT1 ++ fieldsTT2 ++ fieldsTT3

/-- What cnt_clear of the TT block clears (R8 of the counter registers). -/
def countersTT : List Field := [
  TT_BELL_CNT, TT_BELL_MISS_CNT, TT_ACK_CNT, TT_ACK_LATE_CNT, TT_TX_CONFLICT_CNT, TT_BC_CNT]

/-! ### WMB (base 0x1A0000), 03_timetable_mac -/

def WMB_CTRL_cnt_clear : Field := ⟨0x1A0000, 0x0, 0x0, 1, 0, 0, .w1s, 0⟩
def WMB_CTRL_resp_en : Field := ⟨0x1A0000, 0x0, 0x0, 1, 1, 1, .rw, 0⟩
def WMB_PASS_pass : Field := ⟨0x1A0000, 0x4, 0x0, 1, 4, 0, .rw, 15⟩
def WMB_ADDR_M_m_field : Field := ⟨0x1A0000, 0x8, 0x0, 1, 15, 0, .rw, 0⟩
def WMB_ADDR_A_LO_a_lo : Field := ⟨0x1A0000, 0xC, 0x0, 1, 31, 0, .rw, 0⟩
def WMB_ADDR_A_HI_a_hi : Field := ⟨0x1A0000, 0x10, 0x0, 1, 15, 0, .rw, 0⟩
def WMB_RESP_S_delay : Field := ⟨0x1A0000, 0x14, 0x0, 1, 13, 0, .rw, 3000⟩
def WMB_RESP_T_delay : Field := ⟨0x1A0000, 0x18, 0x0, 1, 13, 0, .rw, 3000⟩
def WMB_RESP_C_delay : Field := ⟨0x1A0000, 0x1C, 0x0, 1, 13, 0, .rw, 3000⟩
def WMB_RESP_N_delay : Field := ⟨0x1A0000, 0x20, 0x0, 1, 13, 0, .rw, 3000⟩
def WMB_RX_CNT : Field := ⟨0x1A0000, 0x30, 0x0, 1, 31, 0, .ro, 0⟩
def WMB_CFILT_CNT : Field := ⟨0x1A0000, 0x34, 0x0, 1, 31, 0, .ro, 0⟩
def WMB_RESP_CNT : Field := ⟨0x1A0000, 0x38, 0x0, 1, 31, 0, .ro, 0⟩
def WMB_RESP_LATE_CNT : Field := ⟨0x1A0000, 0x3C, 0x0, 1, 31, 0, .ro, 0⟩

/-- The fields of the WMB registers, in table order. -/
def fieldsWMB : List Field := [
  WMB_CTRL_cnt_clear, WMB_CTRL_resp_en, WMB_PASS_pass, WMB_ADDR_M_m_field, WMB_ADDR_A_LO_a_lo,
  WMB_ADDR_A_HI_a_hi, WMB_RESP_S_delay, WMB_RESP_T_delay, WMB_RESP_C_delay, WMB_RESP_N_delay, WMB_RX_CNT,
  WMB_CFILT_CNT, WMB_RESP_CNT, WMB_RESP_LATE_CNT]

/-- What cnt_clear of the WMB block clears (R8 of the counter registers). -/
def countersWMB : List Field := [
  WMB_RX_CNT, WMB_CFILT_CNT, WMB_RESP_CNT, WMB_RESP_LATE_CNT]

/-! ### PLC (base 0x1C0000), 04_powerline -/

def PLC_CTRL_enable : Field := ⟨0x1C0000, 0x0, 0x0, 1, 0, 0, .rw, 0⟩
def PLC_CTRL_band : Field := ⟨0x1C0000, 0x0, 0x0, 1, 1, 1, .rw, 0⟩
def PLC_CTRL_cnt_clear : Field := ⟨0x1C0000, 0x0, 0x0, 1, 2, 2, .w1s, 0⟩
def PLC_CTRL_tm_unsol : Field := ⟨0x1C0000, 0x0, 0x0, 1, 3, 3, .rw, 0⟩
def PLC_STAT_state : Field := ⟨0x1C0000, 0x4, 0x0, 1, 1, 0, .ro, 0⟩
def PLC_STAT_cfg_error : Field := ⟨0x1C0000, 0x4, 0x0, 1, 2, 2, .ro, 0⟩
def PLC_STAT_zc_ok : Field := ⟨0x1C0000, 0x4, 0x0, 1, 3, 3, .ro, 0⟩
def PLC_STAT_rx_busy : Field := ⟨0x1C0000, 0x4, 0x0, 1, 4, 4, .ro, 0⟩
def PLC_STAT_tx_busy : Field := ⟨0x1C0000, 0x4, 0x0, 1, 5, 5, .ro, 0⟩
def PLC_STAT_tm_entries : Field := ⟨0x1C0000, 0x4, 0x0, 1, 18, 6, .ro, 0⟩
def PLC_ADDR_short : Field := ⟨0x1C0000, 0x8, 0x0, 1, 15, 0, .rw, 65534⟩
def PLC_ADDR_pan : Field := ⟨0x1C0000, 0x8, 0x0, 1, 31, 16, .rw, 65535⟩
def PLC_EUI_LO_eui_lo : Field := ⟨0x1C0000, 0xC, 0x0, 1, 31, 0, .rw, 0⟩
def PLC_EUI_HI_eui_hi : Field := ⟨0x1C0000, 0x10, 0x0, 1, 31, 0, .rw, 0⟩
def PLC_PORT_meter_port : Field := ⟨0x1C0000, 0x14, 0x0, 1, 15, 0, .rw, 61618⟩
def PLC_TX_atten : Field := ⟨0x1C0000, 0x18, 0x0, 1, 4, 0, .rw, 31⟩
def PLC_TX_txen_gpio : Field := ⟨0x1C0000, 0x18, 0x0, 1, 12, 8, .rw, 31⟩
def PLC_TX_txen_pol : Field := ⟨0x1C0000, 0x18, 0x0, 1, 13, 13, .rw, 0⟩
def PLC_TIMING_rifs : Field := ⟨0x1C0000, 0x1C, 0x0, 1, 15, 0, .rw, 1390⟩
def PLC_TIMING_ack_wait : Field := ⟨0x1C0000, 0x1C, 0x0, 1, 31, 16, .rw, 2780⟩
def PLC_CSMA_min_be : Field := ⟨0x1C0000, 0x20, 0x0, 1, 3, 0, .rw, 3⟩
def PLC_CSMA_max_be : Field := ⟨0x1C0000, 0x20, 0x0, 1, 7, 4, .rw, 8⟩
def PLC_CSMA_max_backoffs : Field := ⟨0x1C0000, 0x20, 0x0, 1, 15, 8, .rw, 50⟩
def PLC_CSMA_max_retries : Field := ⟨0x1C0000, 0x20, 0x0, 1, 19, 16, .rw, 5⟩
def PLC_CSMA_hp_window : Field := ⟨0x1C0000, 0x20, 0x0, 1, 23, 20, .rw, 7⟩
def PLC_CSMA_SLOT_slot_time : Field := ⟨0x1C0000, 0x24, 0x0, 1, 15, 0, .rw, 1390⟩
def PLC_TM_ttl : Field := ⟨0x1C0000, 0x28, 0x0, 1, 7, 0, .rw, 10⟩
def PLC_TM_expire : Field := ⟨0x1C0000, 0x28, 0x0, 1, 15, 8, .rw, 120⟩
def PLC_TM_margin : Field := ⟨0x1C0000, 0x28, 0x0, 1, 19, 16, .rw, 2⟩
def PLC_TM_THR_thr_robust : Field := ⟨0x1C0000, 0x2C, 0x0, 1, 7, 0, .rw, 0⟩
def PLC_TM_THR_thr_dbpsk : Field := ⟨0x1C0000, 0x2C, 0x0, 1, 15, 8, .rw, 4⟩
def PLC_TM_THR_thr_dqpsk : Field := ⟨0x1C0000, 0x2C, 0x0, 1, 23, 16, .rw, 7⟩
def PLC_TM_THR_thr_d8psk : Field := ⟨0x1C0000, 0x2C, 0x0, 1, 31, 24, .rw, 11⟩
def PLC_IMP_thr : Field := ⟨0x1C0000, 0x30, 0x0, 1, 4, 0, .rw, 12⟩
def PLC_IMP_neutral_pct : Field := ⟨0x1C0000, 0x30, 0x0, 1, 14, 8, .rw, 25⟩
def PLC_ZC_offset : Field := ⟨0x1C0000, 0x34, 0x0, 1, 7, 0, .rw, 0⟩
def PLC_ZC_ref_phase : Field := ⟨0x1C0000, 0x34, 0x0, 1, 9, 8, .rw, 0⟩
def PLC_ZC_PERIOD_period : Field := ⟨0x1C0000, 0x38, 0x0, 1, 23, 0, .ro, 0⟩
def PLC_ZC_PERIOD_valid : Field := ⟨0x1C0000, 0x38, 0x0, 1, 31, 31, .ro, 0⟩
def PLC_ZC_TIME_LO_zc_lo : Field := ⟨0x1C0000, 0x3C, 0x0, 1, 31, 0, .ro, 0⟩
def PLC_ZC_TIME_HI_zc_hi : Field := ⟨0x1C0000, 0x40, 0x0, 1, 31, 0, .ro, 0⟩
def PLC_FREQ_freq : Field := ⟨0x1C0000, 0x44, 0x0, 1, 15, 0, .ro, 0⟩
def PLC_RX_CNT : Field := ⟨0x1C0000, 0x80, 0x0, 1, 31, 0, .ro, 0⟩
def PLC_FCS_CNT : Field := ⟨0x1C0000, 0x84, 0x0, 1, 31, 0, .ro, 0⟩
def PLC_FILT_CNT : Field := ⟨0x1C0000, 0x88, 0x0, 1, 31, 0, .ro, 0⟩
def PLC_RAW_CNT : Field := ⟨0x1C0000, 0x8C, 0x0, 1, 31, 0, .ro, 0⟩
def PLC_RAW_DROP_CNT : Field := ⟨0x1C0000, 0x90, 0x0, 1, 31, 0, .ro, 0⟩
def PLC_NOBUF_CNT : Field := ⟨0x1C0000, 0x94, 0x0, 1, 31, 0, .ro, 0⟩
def PLC_IMP_FRAME_CNT : Field := ⟨0x1C0000, 0x98, 0x0, 1, 31, 0, .ro, 0⟩
def PLC_ERASED_CNT : Field := ⟨0x1C0000, 0x9C, 0x0, 1, 31, 0, .ro, 0⟩
def PLC_TX_CNT : Field := ⟨0x1C0000, 0xA0, 0x0, 1, 31, 0, .ro, 0⟩
def PLC_ACK_TX_CNT : Field := ⟨0x1C0000, 0xA4, 0x0, 1, 31, 0, .ro, 0⟩
def PLC_CSMA_FAIL_CNT : Field := ⟨0x1C0000, 0xA8, 0x0, 1, 31, 0, .ro, 0⟩
def PLC_NOACK_CNT : Field := ⟨0x1C0000, 0xAC, 0x0, 1, 31, 0, .ro, 0⟩
def PLC_TM_CHANGE_CNT : Field := ⟨0x1C0000, 0xB0, 0x0, 1, 31, 0, .ro, 0⟩
def PLC_EVICT_CNT : Field := ⟨0x1C0000, 0xB4, 0x0, 1, 31, 0, .ro, 0⟩
def PLC_ZC_GLITCH_CNT : Field := ⟨0x1C0000, 0xB8, 0x0, 1, 31, 0, .ro, 0⟩

/-- The fields of the PLC registers, part 1, in table order. -/
def fieldsPLC1 : List Field := [
  PLC_CTRL_enable, PLC_CTRL_band, PLC_CTRL_cnt_clear, PLC_CTRL_tm_unsol, PLC_STAT_state,
  PLC_STAT_cfg_error, PLC_STAT_zc_ok, PLC_STAT_rx_busy, PLC_STAT_tx_busy, PLC_STAT_tm_entries,
  PLC_ADDR_short, PLC_ADDR_pan, PLC_EUI_LO_eui_lo, PLC_EUI_HI_eui_hi, PLC_PORT_meter_port, PLC_TX_atten,
  PLC_TX_txen_gpio, PLC_TX_txen_pol, PLC_TIMING_rifs, PLC_TIMING_ack_wait, PLC_CSMA_min_be,
  PLC_CSMA_max_be, PLC_CSMA_max_backoffs, PLC_CSMA_max_retries]

/-- The fields of the PLC registers, part 2, in table order. -/
def fieldsPLC2 : List Field := [
  PLC_CSMA_hp_window, PLC_CSMA_SLOT_slot_time, PLC_TM_ttl, PLC_TM_expire, PLC_TM_margin,
  PLC_TM_THR_thr_robust, PLC_TM_THR_thr_dbpsk, PLC_TM_THR_thr_dqpsk, PLC_TM_THR_thr_d8psk, PLC_IMP_thr,
  PLC_IMP_neutral_pct, PLC_ZC_offset, PLC_ZC_ref_phase, PLC_ZC_PERIOD_period, PLC_ZC_PERIOD_valid,
  PLC_ZC_TIME_LO_zc_lo, PLC_ZC_TIME_HI_zc_hi, PLC_FREQ_freq, PLC_RX_CNT, PLC_FCS_CNT, PLC_FILT_CNT,
  PLC_RAW_CNT, PLC_RAW_DROP_CNT, PLC_NOBUF_CNT]

/-- The fields of the PLC registers, part 3, in table order. -/
def fieldsPLC3 : List Field := [
  PLC_IMP_FRAME_CNT, PLC_ERASED_CNT, PLC_TX_CNT, PLC_ACK_TX_CNT, PLC_CSMA_FAIL_CNT, PLC_NOACK_CNT,
  PLC_TM_CHANGE_CNT, PLC_EVICT_CNT, PLC_ZC_GLITCH_CNT]

/-- The fields of the PLC registers. -/
def fieldsPLC : List Field := fieldsPLC1 ++ fieldsPLC2 ++ fieldsPLC3

/-- What cnt_clear of the PLC block clears (R8 of the counter registers). -/
def countersPLC : List Field := [
  PLC_RX_CNT, PLC_FCS_CNT, PLC_FILT_CNT, PLC_RAW_CNT, PLC_RAW_DROP_CNT, PLC_NOBUF_CNT, PLC_IMP_FRAME_CNT,
  PLC_ERASED_CNT, PLC_TX_CNT, PLC_ACK_TX_CNT, PLC_CSMA_FAIL_CNT, PLC_NOACK_CNT, PLC_TM_CHANGE_CNT,
  PLC_EVICT_CNT, PLC_ZC_GLITCH_CNT]

/-! ### SLATE (base 0x200000), 14_slate_panel -/

def SLATE_CTRL_enable : Field := ⟨0x200000, 0x0, 0x0, 1, 0, 0, .rw, 0⟩
def SLATE_CTRL_update : Field := ⟨0x200000, 0x0, 0x0, 1, 1, 1, .w1s, 0⟩
def SLATE_CTRL_wf_check : Field := ⟨0x200000, 0x0, 0x0, 1, 2, 2, .w1s, 0⟩
def SLATE_CTRL_recess_keep : Field := ⟨0x200000, 0x0, 0x0, 1, 3, 3, .rws, 0⟩
def SLATE_CTRL_cnt_clear : Field := ⟨0x200000, 0x0, 0x0, 1, 4, 4, .w1s, 0⟩
def SLATE_STAT_state : Field := ⟨0x200000, 0x4, 0x0, 1, 2, 0, .ro, 0⟩
def SLATE_STAT_band : Field := ⟨0x200000, 0x4, 0x0, 1, 5, 3, .ro, 0⟩
def SLATE_STAT_band_latched : Field := ⟨0x200000, 0x4, 0x0, 1, 8, 6, .ro, 0⟩
def SLATE_STAT_wf_ok : Field := ⟨0x200000, 0x4, 0x0, 1, 9, 9, .ro, 0⟩
def SLATE_STAT_refresh_pending : Field := ⟨0x200000, 0x4, 0x0, 1, 10, 10, .ro, 0⟩
def SLATE_STAT_jrn_valid : Field := ⟨0x200000, 0x4, 0x0, 1, 11, 11, .ros, 0⟩
def SLATE_STAT_deferred : Field := ⟨0x200000, 0x4, 0x0, 1, 12, 12, .ro, 0⟩
def SLATE_STAT_cfg_error : Field := ⟨0x200000, 0x4, 0x0, 1, 13, 13, .ro, 0⟩
def SLATE_CFG_type : Field := ⟨0x200000, 0x8, 0x0, 1, 0, 0, .rw, 0⟩
def SLATE_CFG_mux : Field := ⟨0x200000, 0x8, 0x0, 1, 2, 1, .rw, 3⟩
def SLATE_CFG_bias : Field := ⟨0x200000, 0x8, 0x0, 1, 4, 3, .rw, 2⟩
def SLATE_CFG_frame_hz : Field := ⟨0x200000, 0x8, 0x0, 1, 15, 8, .rw, 64⟩
def SLATE_VLCD_v25 : Field := ⟨0x200000, 0xC, 0x0, 1, 12, 0, .rw, 3300⟩
def SLATE_VLCD_tc : Field := ⟨0x200000, 0xC, 0x0, 1, 23, 16, .rw, 246⟩
def SLATE_VLCD_vlcd : Field := ⟨0x200000, 0xC, 0x0, 1, 31, 24, .ro, 0⟩
def SLATE_TEMP_src : Field := ⟨0x200000, 0x10, 0x0, 1, 0, 0, .rw, 0⟩
def SLATE_TEMP_offset : Field := ⟨0x200000, 0x10, 0x0, 1, 15, 8, .rw, 5⟩
def SLATE_TEMP_host_temp : Field := ⟨0x200000, 0x10, 0x0, 1, 23, 16, .rw, 25⟩
def SLATE_TEMP_temp : Field := ⟨0x200000, 0x10, 0x0, 1, 31, 24, .ro, 0⟩
def SLATE_BANDS_LO_b0_b3 : Field := ⟨0x200000, 0x14, 0x0, 1, 31, 0, .rw, 0x140afbf1⟩
def SLATE_BANDS_HI_b4_b6 : Field := ⟨0x200000, 0x18, 0x0, 1, 23, 0, .rw, 0x3c2d1e⟩
def SLATE_EPD_vdrive : Field := ⟨0x200000, 0x1C, 0x0, 1, 4, 0, .rw, 15⟩
def SLATE_EPD_t_min : Field := ⟨0x200000, 0x1C, 0x0, 1, 15, 8, .rw, 236⟩
def SLATE_EPD_t_max : Field := ⟨0x200000, 0x1C, 0x0, 1, 23, 16, .rw, 70⟩
def SLATE_EPD_rest_ms : Field := ⟨0x200000, 0x1C, 0x0, 1, 31, 24, .rw, 100⟩
def SLATE_IMGw_bits : Field := ⟨0x200000, 0x100, 0x4, 5, 31, 0, .rw, 0⟩
def SLATE_SHOWNw_bits : Field := ⟨0x200000, 0x140, 0x4, 5, 31, 0, .ros, 0⟩
def SLATE_UPD_CNT : Field := ⟨0x200000, 0x40, 0x0, 1, 31, 0, .ro, 0⟩
def SLATE_REFRESH_CNT : Field := ⟨0x200000, 0x44, 0x0, 1, 31, 0, .ro, 0⟩
def SLATE_CLEAR_CNT : Field := ⟨0x200000, 0x48, 0x0, 1, 31, 0, .ro, 0⟩
def SLATE_JRNw : Field := ⟨0x200000, 0x20, 0x4, 8, 31, 0, .ros, 0⟩

/-- The fields of the SLATE registers, part 1, in table order. -/
def fieldsSLATE1 : List Field := [
  SLATE_CTRL_enable, SLATE_CTRL_update, SLATE_CTRL_wf_check, SLATE_CTRL_recess_keep, SLATE_CTRL_cnt_clear,
  SLATE_STAT_state, SLATE_STAT_band, SLATE_STAT_band_latched, SLATE_STAT_wf_ok, SLATE_STAT_refresh_pending,
  SLATE_STAT_jrn_valid, SLATE_STAT_deferred, SLATE_STAT_cfg_error, SLATE_CFG_type, SLATE_CFG_mux,
  SLATE_CFG_bias, SLATE_CFG_frame_hz, SLATE_VLCD_v25, SLATE_VLCD_tc, SLATE_VLCD_vlcd, SLATE_TEMP_src,
  SLATE_TEMP_offset, SLATE_TEMP_host_temp, SLATE_TEMP_temp]

/-- The fields of the SLATE registers, part 2, in table order. -/
def fieldsSLATE2 : List Field := [
  SLATE_BANDS_LO_b0_b3, SLATE_BANDS_HI_b4_b6, SLATE_EPD_vdrive, SLATE_EPD_t_min, SLATE_EPD_t_max,
  SLATE_EPD_rest_ms, SLATE_IMGw_bits, SLATE_SHOWNw_bits, SLATE_UPD_CNT, SLATE_REFRESH_CNT, SLATE_CLEAR_CNT,
  SLATE_JRNw]

/-- The fields of the SLATE registers. -/
def fieldsSLATE : List Field := fieldsSLATE1 ++ fieldsSLATE2

/-- What cnt_clear of the SLATE block clears (R8 of the counter registers). -/
def countersSLATE : List Field := [
  SLATE_UPD_CNT, SLATE_REFRESH_CNT, SLATE_CLEAR_CNT]

/-! ### GPIO (base 0x240000), 18_event_register_index -/

def GPIO_DIR_out : Field := ⟨0x240000, 0x0, 0x0, 1, 15, 0, .rw, 0⟩
def GPIO_OUT_level : Field := ⟨0x240000, 0x4, 0x0, 1, 15, 0, .rw, 0⟩
def GPIO_IN_level : Field := ⟨0x240000, 0x8, 0x0, 1, 15, 0, .ro, 0⟩
def GPIO_PULL_down : Field := ⟨0x240000, 0xC, 0x0, 1, 15, 0, .rw, 65535⟩
def GPIO_RISE_rise : Field := ⟨0x240000, 0x10, 0x0, 1, 15, 0, .rw, 0⟩
def GPIO_FALL_fall : Field := ⟨0x240000, 0x14, 0x0, 1, 15, 0, .rw, 0⟩
def GPIO_WAKE_wake : Field := ⟨0x240000, 0x18, 0x0, 1, 15, 0, .rw, 0⟩

/-- The fields of the GPIO registers, in table order. -/
def fieldsGPIO : List Field := [
  GPIO_DIR_out, GPIO_OUT_level, GPIO_IN_level, GPIO_PULL_down, GPIO_RISE_rise, GPIO_FALL_fall,
  GPIO_WAKE_wake]

/-- The RFB block has the registers of RFA at its own base (02_radio_reception). -/
def Field.onB (f : Field) : Field := { f with base := 0x110000 }

/-- The fields of the RFB registers. -/
def fieldsRFB : List Field := fieldsRFA.map Field.onB

end Sys2Proof.Machine
end

