-- ==== Sys2Proof/Machine/RegsLedger.lean ====
section
/-! DEFINITION. The register fields of the L-die blocks SEC, LEDG, BAL, QUE, ARC, MIRR, HIF, ETH and EUF, one constant per field, copied from
the register tables of the spec (offset, stride and count; bits; access; reset). -/

namespace Sys2Proof.Machine

/-! ### SEC (base 0x100000), 05_locker_security -/

def SEC_CTRL_enable : Field := ⟨0x100000, 0x0, 0x0, 1, 0, 0, .rw, 0⟩
def SEC_CTRL_cnt_clear : Field := ⟨0x100000, 0x0, 0x0, 1, 1, 1, .w1s, 0⟩
def SEC_CTRL_cache_flush : Field := ⟨0x100000, 0x0, 0x0, 1, 2, 2, .w1s, 0⟩
def SEC_STAT_running : Field := ⟨0x100000, 0x4, 0x0, 1, 0, 0, .ro, 0⟩
def SEC_STAT_mwk_ok : Field := ⟨0x100000, 0x4, 0x0, 1, 1, 1, .ro, 0⟩
def SEC_STAT_cache_valid : Field := ⟨0x100000, 0x4, 0x0, 1, 16, 2, .ro, 0⟩
def SEC_STAT_unwrap_busy : Field := ⟨0x100000, 0x4, 0x0, 1, 20, 17, .ro, 0⟩
def SEC_WMB_CLASS_snd_nr : Field := ⟨0x100000, 0x8, 0x0, 1, 1, 0, .rw, 2⟩
def SEC_WMB_CLASS_snd_ir : Field := ⟨0x100000, 0x8, 0x0, 1, 3, 2, .rw, 1⟩
def SEC_WMB_CLASS_acc_nr : Field := ⟨0x100000, 0x8, 0x0, 1, 5, 4, .rw, 2⟩
def SEC_WMB_CLASS_acc_dmd : Field := ⟨0x100000, 0x8, 0x0, 1, 7, 6, .rw, 0⟩
def SEC_WMB_CLASS_other : Field := ⟨0x100000, 0x8, 0x0, 1, 9, 8, .rw, 3⟩
def SEC_ROT_CFG_stage_max : Field := ⟨0x100000, 0xC, 0x0, 1, 15, 0, .rw, 30⟩
def SEC_ROT_CFG_retire_hold : Field := ⟨0x100000, 0xC, 0x0, 1, 23, 16, .rw, 24⟩
def SEC_ROT_PROG_percent : Field := ⟨0x100000, 0x10, 0x0, 1, 6, 0, .ro, 0⟩
def SEC_ROT_PROG_running : Field := ⟨0x100000, 0x10, 0x0, 1, 8, 8, .ro, 0⟩
def SEC_ROT_PROG_done : Field := ⟨0x100000, 0x10, 0x0, 1, 9, 9, .ro, 0⟩
def SEC_ROT_PROG_error : Field := ⟨0x100000, 0x10, 0x0, 1, 23, 16, .ro, 0⟩
def SEC_ROT_POS_handle : Field := ⟨0x100000, 0x14, 0x0, 1, 31, 0, .ro, 0⟩
def SEC_ACCEPT_CNT : Field := ⟨0x100000, 0x40, 0x0, 1, 31, 0, .ro, 0⟩
def SEC_DUP_CNT : Field := ⟨0x100000, 0x44, 0x0, 1, 31, 0, .ro, 0⟩
def SEC_COREC_CNT : Field := ⟨0x100000, 0x48, 0x0, 1, 31, 0, .ro, 0⟩
def SEC_REPLAY_CNT : Field := ⟨0x100000, 0x4C, 0x0, 1, 31, 0, .ro, 0⟩
def SEC_BADMIC_CNT : Field := ⟨0x100000, 0x50, 0x0, 1, 31, 0, .ro, 0⟩
def SEC_UNKNOWN_CNT : Field := ⟨0x100000, 0x54, 0x0, 1, 31, 0, .ro, 0⟩
def SEC_DEFER_CNT : Field := ⟨0x100000, 0x58, 0x0, 1, 31, 0, .ro, 0⟩
def SEC_MALFORMED_CNT : Field := ⟨0x100000, 0x5C, 0x0, 1, 31, 0, .ro, 0⟩
def SEC_LATE_CNT : Field := ⟨0x100000, 0x60, 0x0, 1, 31, 0, .ro, 0⟩
def SEC_CACHE_HIT_CNT : Field := ⟨0x100000, 0x64, 0x0, 1, 31, 0, .ro, 0⟩
def SEC_CACHE_MISS_CNT : Field := ⟨0x100000, 0x68, 0x0, 1, 31, 0, .ro, 0⟩
def SEC_WRAP_FAIL_CNT : Field := ⟨0x100000, 0x6C, 0x0, 1, 31, 0, .ro, 0⟩
def SEC_COMMIT_CNT : Field := ⟨0x100000, 0x70, 0x0, 1, 31, 0, .ro, 0⟩
def SEC_KEYREG_CNT : Field := ⟨0x100000, 0x74, 0x0, 1, 31, 0, .ro, 0⟩

/-- The fields of the SEC registers, part 1, in table order. -/
def fieldsSEC1 : List Field := [
  SEC_CTRL_enable, SEC_CTRL_cnt_clear, SEC_CTRL_cache_flush, SEC_STAT_running, SEC_STAT_mwk_ok,
  SEC_STAT_cache_valid, SEC_STAT_unwrap_busy, SEC_WMB_CLASS_snd_nr, SEC_WMB_CLASS_snd_ir,
  SEC_WMB_CLASS_acc_nr, SEC_WMB_CLASS_acc_dmd, SEC_WMB_CLASS_other, SEC_ROT_CFG_stage_max,
  SEC_ROT_CFG_retire_hold, SEC_ROT_PROG_percent, SEC_ROT_PROG_running, SEC_ROT_PROG_done,
  SEC_ROT_PROG_error, SEC_ROT_POS_handle, SEC_ACCEPT_CNT, SEC_DUP_CNT, SEC_COREC_CNT, SEC_REPLAY_CNT,
  SEC_BADMIC_CNT]

/-- The fields of the SEC registers, part 2, in table order. -/
def fieldsSEC2 : List Field := [
  SEC_UNKNOWN_CNT, SEC_DEFER_CNT, SEC_MALFORMED_CNT, SEC_LATE_CNT, SEC_CACHE_HIT_CNT, SEC_CACHE_MISS_CNT,
  SEC_WRAP_FAIL_CNT, SEC_COMMIT_CNT, SEC_KEYREG_CNT]

/-- The fields of the SEC registers. -/
def fieldsSEC : List Field := fieldsSEC1 ++ fieldsSEC2

/-- What cnt_clear of the SEC block clears (R8 of the counter registers). -/
def countersSEC : List Field := [
  SEC_ACCEPT_CNT, SEC_DUP_CNT, SEC_COREC_CNT, SEC_REPLAY_CNT, SEC_BADMIC_CNT, SEC_UNKNOWN_CNT,
  SEC_DEFER_CNT, SEC_MALFORMED_CNT, SEC_LATE_CNT, SEC_CACHE_HIT_CNT, SEC_CACHE_MISS_CNT, SEC_WRAP_FAIL_CNT,
  SEC_COMMIT_CNT, SEC_KEYREG_CNT]

/-! ### LEDG (base 0x120000), 06_ledger_tariffs -/

def LEDG_CTRL_enable : Field := ⟨0x120000, 0x0, 0x0, 1, 0, 0, .rw, 0⟩
def LEDG_CTRL_cnt_clear : Field := ⟨0x120000, 0x0, 0x0, 1, 1, 1, .w1s, 0⟩
def LEDG_CTRL_hold_release : Field := ⟨0x120000, 0x0, 0x0, 1, 2, 2, .w1s, 0⟩
def LEDG_CTRL_rr_abort : Field := ⟨0x120000, 0x0, 0x0, 1, 3, 3, .w1s, 0⟩
def LEDG_STAT_running : Field := ⟨0x120000, 0x4, 0x0, 1, 0, 0, .ro, 0⟩
def LEDG_STAT_lt_state : Field := ⟨0x120000, 0x4, 0x0, 1, 2, 1, .ro, 0⟩
def LEDG_STAT_quality : Field := ⟨0x120000, 0x4, 0x0, 1, 4, 3, .ro, 2⟩
def LEDG_STAT_default_tariff : Field := ⟨0x120000, 0x4, 0x0, 1, 5, 5, .ro, 1⟩
def LEDG_STAT_sweep_busy : Field := ⟨0x120000, 0x4, 0x0, 1, 6, 6, .ro, 0⟩
def LEDG_STAT_lanes_busy : Field := ⟨0x120000, 0x4, 0x0, 1, 11, 8, .ro, 0⟩
def LEDG_CFG_future_tol : Field := ⟨0x120000, 0x8, 0x0, 1, 7, 0, .rw, 5⟩
def LEDG_CFG_apportion_max : Field := ⟨0x120000, 0x8, 0x0, 1, 23, 8, .rw, 2880⟩
def LEDG_CFG_auto_disconnect : Field := ⟨0x120000, 0x8, 0x0, 1, 24, 24, .rw, 0⟩
def LEDG_UTC_tai_utc : Field := ⟨0x120000, 0xC, 0x0, 1, 15, 0, .rw, 0⟩
def LEDG_LT_LO_lt_lo : Field := ⟨0x120000, 0x10, 0x0, 1, 31, 0, .ro, 0⟩
def LEDG_LT_HI_lt_hi : Field := ⟨0x120000, 0x14, 0x0, 1, 31, 0, .ro, 0⟩
def LEDG_HOLD_LO_hold_lo : Field := ⟨0x120000, 0x18, 0x0, 1, 31, 0, .ro, 0⟩
def LEDG_HOLD_HI_hold_hi : Field := ⟨0x120000, 0x1C, 0x0, 1, 31, 0, .ro, 0⟩
def LEDG_SLEW_remaining : Field := ⟨0x120000, 0x20, 0x0, 1, 31, 0, .ro, 0⟩
def LEDG_SWEEP_boundary : Field := ⟨0x120000, 0x24, 0x0, 1, 31, 0, .ro, 0⟩
def LEDG_DISC_IDX_next_seq : Field := ⟨0x120000, 0x28, 0x0, 1, 31, 0, .ro, 0⟩
def LEDG_RR_PROG_percent : Field := ⟨0x120000, 0x30, 0x0, 1, 6, 0, .ro, 0⟩
def LEDG_RR_PROG_running : Field := ⟨0x120000, 0x30, 0x0, 1, 8, 8, .ro, 0⟩
def LEDG_RR_PROG_done : Field := ⟨0x120000, 0x30, 0x0, 1, 9, 9, .ro, 0⟩
def LEDG_RR_PROG_error : Field := ⟨0x120000, 0x30, 0x0, 1, 31, 16, .ro, 0⟩
def LEDG_RR_POS_handle : Field := ⟨0x120000, 0x34, 0x0, 1, 31, 0, .ro, 0⟩
def LEDG_RR_INT_interval : Field := ⟨0x120000, 0x38, 0x0, 1, 31, 0, .ro, 0⟩
def LEDG_BOOK_CNT : Field := ⟨0x120000, 0x40, 0x0, 1, 31, 0, .ro, 0⟩
def LEDG_REJECT_CNT : Field := ⟨0x120000, 0x44, 0x0, 1, 31, 0, .ro, 0⟩
def LEDG_LATE_CNT : Field := ⟨0x120000, 0x48, 0x0, 1, 31, 0, .ro, 0⟩
def LEDG_CLOCKBACK_CNT : Field := ⟨0x120000, 0x4C, 0x0, 1, 31, 0, .ro, 0⟩
def LEDG_TAMPER_CNT : Field := ⟨0x120000, 0x50, 0x0, 1, 31, 0, .ro, 0⟩
def LEDG_DISC_CNT : Field := ⟨0x120000, 0x54, 0x0, 1, 31, 0, .ro, 0⟩
def LEDG_PERIOD_CNT : Field := ⟨0x120000, 0x58, 0x0, 1, 31, 0, .ro, 0⟩
def LEDG_FAULT_CNT : Field := ⟨0x120000, 0x5C, 0x0, 1, 31, 0, .ro, 0⟩

/-- The fields of the LEDG registers, part 1, in table order. -/
def fieldsLEDG1 : List Field := [
  LEDG_CTRL_enable, LEDG_CTRL_cnt_clear, LEDG_CTRL_hold_release, LEDG_CTRL_rr_abort, LEDG_STAT_running,
  LEDG_STAT_lt_state, LEDG_STAT_quality, LEDG_STAT_default_tariff, LEDG_STAT_sweep_busy,
  LEDG_STAT_lanes_busy, LEDG_CFG_future_tol, LEDG_CFG_apportion_max, LEDG_CFG_auto_disconnect,
  LEDG_UTC_tai_utc, LEDG_LT_LO_lt_lo, LEDG_LT_HI_lt_hi, LEDG_HOLD_LO_hold_lo, LEDG_HOLD_HI_hold_hi,
  LEDG_SLEW_remaining, LEDG_SWEEP_boundary, LEDG_DISC_IDX_next_seq, LEDG_RR_PROG_percent,
  LEDG_RR_PROG_running, LEDG_RR_PROG_done]

/-- The fields of the LEDG registers, part 2, in table order. -/
def fieldsLEDG2 : List Field := [
  LEDG_RR_PROG_error, LEDG_RR_POS_handle, LEDG_RR_INT_interval, LEDG_BOOK_CNT, LEDG_REJECT_CNT,
  LEDG_LATE_CNT, LEDG_CLOCKBACK_CNT, LEDG_TAMPER_CNT, LEDG_DISC_CNT, LEDG_PERIOD_CNT, LEDG_FAULT_CNT]

/-- The fields of the LEDG registers. -/
def fieldsLEDG : List Field := fieldsLEDG1 ++ fieldsLEDG2

/-- What cnt_clear of the LEDG block clears (R8 of the counter registers). -/
def countersLEDG : List Field := [
  LEDG_BOOK_CNT, LEDG_REJECT_CNT, LEDG_LATE_CNT, LEDG_CLOCKBACK_CNT, LEDG_TAMPER_CNT, LEDG_DISC_CNT,
  LEDG_PERIOD_CNT, LEDG_FAULT_CNT]

/-! ### BAL (base 0x160000), 07_balance_engine -/

def BAL_CTRL_enable : Field := ⟨0x160000, 0x0, 0x0, 1, 0, 0, .rw, 0⟩
def BAL_CTRL_cnt_clear : Field := ⟨0x160000, 0x0, 0x0, 1, 1, 1, .w1s, 0⟩
def BAL_STAT_state : Field := ⟨0x160000, 0x4, 0x0, 1, 1, 0, .ro, 0⟩
def BAL_STAT_groups : Field := ⟨0x160000, 0x4, 0x0, 1, 18, 2, .ro, 0⟩
def BAL_STAT_outq : Field := ⟨0x160000, 0x4, 0x0, 1, 29, 19, .ro, 0⟩
def BAL_CFG_flight_ms : Field := ⟨0x160000, 0x8, 0x0, 1, 9, 0, .rw, 100⟩
def BAL_CFG_stale_run : Field := ⟨0x160000, 0x8, 0x0, 1, 23, 16, .rw, 24⟩
def BAL_CFG_report_all : Field := ⟨0x160000, 0x8, 0x0, 1, 24, 24, .rw, 0⟩
def BAL_IMP_jump_log2 : Field := ⟨0x160000, 0xC, 0x0, 1, 4, 0, .rw, 16⟩
def BAL_IMP_foff : Field := ⟨0x160000, 0xC, 0x0, 1, 15, 8, .rw, 20⟩
def BAL_IMP_window_h : Field := ⟨0x160000, 0xC, 0x0, 1, 23, 16, .rw, 24⟩
def BAL_IMP_repeat : Field := ⟨0x160000, 0xC, 0x0, 1, 27, 24, .rw, 4⟩
def BAL_IMP_imp_en : Field := ⟨0x160000, 0xC, 0x0, 1, 31, 31, .rw, 1⟩
def BAL_CORR_window_h : Field := ⟨0x160000, 0x10, 0x0, 1, 7, 0, .rw, 72⟩
def BAL_CORR_drop_pct : Field := ⟨0x160000, 0x10, 0x0, 1, 14, 8, .rw, 50⟩
def BAL_POOL_used : Field := ⟨0x160000, 0x14, 0x0, 1, 21, 0, .ro, 0⟩
def BAL_CONTRIB_CNT : Field := ⟨0x160000, 0x40, 0x0, 1, 31, 0, .ro, 0⟩
def BAL_LATE_CNT : Field := ⟨0x160000, 0x44, 0x0, 1, 31, 0, .ro, 0⟩
def BAL_LOST_CNT : Field := ⟨0x160000, 0x48, 0x0, 1, 31, 0, .ro, 0⟩
def BAL_EVAL_CNT : Field := ⟨0x160000, 0x4C, 0x0, 1, 31, 0, .ro, 0⟩
def BAL_INCOMP_CNT : Field := ⟨0x160000, 0x50, 0x0, 1, 31, 0, .ro, 0⟩
def BAL_INDET_CNT : Field := ⟨0x160000, 0x54, 0x0, 1, 31, 0, .ro, 0⟩
def BAL_FIND_CNT : Field := ⟨0x160000, 0x58, 0x0, 1, 31, 0, .ro, 0⟩
def BAL_IMPOSTOR_CNT : Field := ⟨0x160000, 0x5C, 0x0, 1, 31, 0, .ro, 0⟩
def BAL_DROP_CNT : Field := ⟨0x160000, 0x60, 0x0, 1, 31, 0, .ro, 0⟩

/-- The fields of the BAL registers, part 1, in table order. -/
def fieldsBAL1 : List Field := [
  BAL_CTRL_enable, BAL_CTRL_cnt_clear, BAL_STAT_state, BAL_STAT_groups, BAL_STAT_outq, BAL_CFG_flight_ms,
  BAL_CFG_stale_run, BAL_CFG_report_all, BAL_IMP_jump_log2, BAL_IMP_foff, BAL_IMP_window_h, BAL_IMP_repeat,
  BAL_IMP_imp_en, BAL_CORR_window_h, BAL_CORR_drop_pct, BAL_POOL_used, BAL_CONTRIB_CNT, BAL_LATE_CNT,
  BAL_LOST_CNT, BAL_EVAL_CNT, BAL_INCOMP_CNT, BAL_INDET_CNT, BAL_FIND_CNT, BAL_IMPOSTOR_CNT]

/-- The fields of the BAL registers, part 2, in table order. -/
def fieldsBAL2 : List Field := [
  BAL_DROP_CNT]

/-- The fields of the BAL registers. -/
def fieldsBAL : List Field := fieldsBAL1 ++ fieldsBAL2

/-- What cnt_clear of the BAL block clears (R8 of the counter registers). -/
def countersBAL : List Field := [
  BAL_CONTRIB_CNT, BAL_LATE_CNT, BAL_LOST_CNT, BAL_EVAL_CNT, BAL_INCOMP_CNT, BAL_INDET_CNT, BAL_FIND_CNT,
  BAL_IMPOSTOR_CNT, BAL_DROP_CNT]

/-! ### QUE (base 0x180000), 08_deadline_queues -/

def QUE_CTRL_cnt_clear : Field := ⟨0x180000, 0x0, 0x0, 1, 0, 0, .w1s, 0⟩
def QUE_STAT_kib_queued : Field := ⟨0x180000, 0x4, 0x0, 1, 12, 0, .ro, 0⟩
def QUE_STAT_protected : Field := ⟨0x180000, 0x4, 0x0, 1, 13, 13, .ro, 0⟩
def QUE_STAT_restored : Field := ⟨0x180000, 0x4, 0x0, 1, 14, 14, .ros, 0⟩
def QUE_SAVE_limit_kib : Field := ⟨0x180000, 0x8, 0x0, 1, 12, 0, .rw, 4096⟩
def QUE_SW_budget_us : Field := ⟨0x180000, 0xC, 0x0, 1, 15, 0, .rw, 500⟩
def QUE_SW_wm_period_us : Field := ⟨0x180000, 0xC, 0x0, 1, 23, 16, .rw, 100⟩
def QUE_n_CTRL_enable : Field := ⟨0x180000, 0x100, 0x40, 4, 0, 0, .rw, 0⟩
def QUE_n_CTRL_flush : Field := ⟨0x180000, 0x100, 0x40, 4, 1, 1, .w1s, 0⟩
def QUE_n_CFG_share : Field := ⟨0x180000, 0x104, 0x40, 4, 6, 0, .rw, perDie 6⟩
def QUE_n_CFG_hold_limit : Field := ⟨0x180000, 0x104, 0x40, 4, 31, 16, .rw, perDie 7⟩
def QUE_n_MID_LO_base_lo : Field := ⟨0x180000, 0x108, 0x40, 4, 31, 0, .rw, 0⟩
def QUE_n_MID_HI_base_hi : Field := ⟨0x180000, 0x10C, 0x40, 4, 7, 0, .rw, 0⟩
def QUE_n_MID_SIZE_kib : Field := ⟨0x180000, 0x110, 0x40, 4, 12, 0, .rw, perDie 8⟩
def QUE_n_STAT_state : Field := ⟨0x180000, 0x114, 0x40, 4, 1, 0, .ro, 0⟩
def QUE_n_STAT_flush_pending : Field := ⟨0x180000, 0x114, 0x40, 4, 2, 2, .ro, 0⟩
def QUE_n_STAT_flush_done : Field := ⟨0x180000, 0x114, 0x40, 4, 3, 3, .w1c, 0⟩
def QUE_n_STAT_held : Field := ⟨0x180000, 0x114, 0x40, 4, 4, 4, .ro, 0⟩
def QUE_n_STAT_refusing : Field := ⟨0x180000, 0x114, 0x40, 4, 5, 5, .ro, 0⟩
def QUE_n_STAT_cfg_error : Field := ⟨0x180000, 0x114, 0x40, 4, 6, 6, .ro, 0⟩
def QUE_n_STAT_error : Field := ⟨0x180000, 0x114, 0x40, 4, 23, 16, .ro, 0⟩
def QUE_n_FILL_kib : Field := ⟨0x180000, 0x118, 0x40, 4, 12, 0, .ro, 0⟩
def QUE_n_FILL_items : Field := ⟨0x180000, 0x118, 0x40, 4, 31, 13, .ro, 0⟩
def QUE_n_SEQ_next_seq : Field := ⟨0x180000, 0x11C, 0x40, 4, 31, 0, .ro, 0⟩
def QUE_n_DELIV_delivered : Field := ⟨0x180000, 0x120, 0x40, 4, 31, 0, .ro, 0xffffffff⟩
def QUE_n_HOLD_hold_now : Field := ⟨0x180000, 0x124, 0x40, 4, 31, 0, .ro, 0⟩
def QUE_n_ADMIT_CNT : Field := ⟨0x180000, 0x128, 0x40, 4, 31, 0, .ro, 0⟩
def QUE_n_DEFER_CNT : Field := ⟨0x180000, 0x12C, 0x40, 4, 31, 0, .ro, 0⟩
def QUE_n_LATE_CNT : Field := ⟨0x180000, 0x130, 0x40, 4, 31, 0, .ro, 0⟩
def QUE_n_HELD_CNT : Field := ⟨0x180000, 0x134, 0x40, 4, 31, 0, .ro, 0⟩
def QUE_n_REDELIV_CNT : Field := ⟨0x180000, 0x138, 0x40, 4, 31, 0, .ro, 0⟩
def QUE_n_RESTORE_CNT : Field := ⟨0x180000, 0x13C, 0x40, 4, 31, 0, .ro, 0⟩

/-- The fields of the QUE registers, part 1, in table order. -/
def fieldsQUE1 : List Field := [
  QUE_CTRL_cnt_clear, QUE_STAT_kib_queued, QUE_STAT_protected, QUE_STAT_restored, QUE_SAVE_limit_kib,
  QUE_SW_budget_us, QUE_SW_wm_period_us, QUE_n_CTRL_enable, QUE_n_CTRL_flush, QUE_n_CFG_share,
  QUE_n_CFG_hold_limit, QUE_n_MID_LO_base_lo, QUE_n_MID_HI_base_hi, QUE_n_MID_SIZE_kib, QUE_n_STAT_state,
  QUE_n_STAT_flush_pending, QUE_n_STAT_flush_done, QUE_n_STAT_held, QUE_n_STAT_refusing,
  QUE_n_STAT_cfg_error, QUE_n_STAT_error, QUE_n_FILL_kib, QUE_n_FILL_items, QUE_n_SEQ_next_seq]

/-- The fields of the QUE registers, part 2, in table order. -/
def fieldsQUE2 : List Field := [
  QUE_n_DELIV_delivered, QUE_n_HOLD_hold_now, QUE_n_ADMIT_CNT, QUE_n_DEFER_CNT, QUE_n_LATE_CNT,
  QUE_n_HELD_CNT, QUE_n_REDELIV_CNT, QUE_n_RESTORE_CNT]

/-- The fields of the QUE registers. -/
def fieldsQUE : List Field := fieldsQUE1 ++ fieldsQUE2

/-- What cnt_clear of the QUE block clears (R8 of the counter registers). -/
def countersQUE : List Field := [
  QUE_n_ADMIT_CNT, QUE_n_DEFER_CNT, QUE_n_LATE_CNT, QUE_n_HELD_CNT, QUE_n_REDELIV_CNT, QUE_n_RESTORE_CNT]

/-! ### ARC (base 0x1C0000), 10_archive_storage -/

def ARC_CTRL_enable : Field := ⟨0x1C0000, 0x0, 0x0, 1, 0, 0, .rw, 0⟩
def ARC_CTRL_cnt_clear : Field := ⟨0x1C0000, 0x0, 0x0, 1, 1, 1, .w1s, 0⟩
def ARC_CTRL_full_stripe : Field := ⟨0x1C0000, 0x0, 0x0, 1, 2, 2, .rw, 0⟩
def ARC_CTRL_summary : Field := ⟨0x1C0000, 0x0, 0x0, 1, 3, 3, .rw, 0⟩
def ARC_CTRL_gov_en : Field := ⟨0x1C0000, 0x0, 0x0, 1, 4, 4, .rw, 1⟩
def ARC_STAT_state : Field := ⟨0x1C0000, 0x4, 0x0, 1, 1, 0, .ro, 0⟩
def ARC_STAT_cfg_error : Field := ⟨0x1C0000, 0x4, 0x0, 1, 2, 2, .ro, 0⟩
def ARC_STAT_parity_full : Field := ⟨0x1C0000, 0x4, 0x0, 1, 3, 3, .ro, 1⟩
def ARC_STAT_summary : Field := ⟨0x1C0000, 0x4, 0x0, 1, 4, 4, .ro, 0⟩
def ARC_STAT_spare_warn : Field := ⟨0x1C0000, 0x4, 0x0, 1, 5, 5, .ro, 0⟩
def ARC_STAT_spare_min : Field := ⟨0x1C0000, 0x4, 0x0, 1, 6, 6, .ro, 0⟩
def ARC_STAT_jrn_low : Field := ⟨0x1C0000, 0x4, 0x0, 1, 7, 7, .ro, 0⟩
def ARC_STAT_layout_mismatch : Field := ⟨0x1C0000, 0x4, 0x0, 1, 8, 8, .ro, 0⟩
def ARC_STAT_error : Field := ⟨0x1C0000, 0x4, 0x0, 1, 23, 16, .ro, 0⟩
def ARC_STAT_jrn_ready : Field := ⟨0x1C0000, 0x4, 0x0, 1, 31, 24, .ro, 0⟩
def ARC_GEOM_luns : Field := ⟨0x1C0000, 0x8, 0x0, 1, 5, 0, .ro, 0⟩
def ARC_GEOM_planes : Field := ⟨0x1C0000, 0x8, 0x0, 1, 7, 6, .ro, 0⟩
def ARC_GEOM_slc : Field := ⟨0x1C0000, 0x8, 0x0, 1, 8, 8, .ro, 0⟩
def ARC_GEOM_raw_gib : Field := ⟨0x1C0000, 0x8, 0x0, 1, 31, 16, .ro, 0⟩
def ARC_PE_pe : Field := ⟨0x1C0000, 0xC, 0x0, 1, 15, 0, .rw, 0⟩
def ARC_NS_HOST_gib : Field := ⟨0x1C0000, 0x10, 0x0, 1, 8, 0, .rw, 0⟩
def ARC_JRN_ckpt_min : Field := ⟨0x1C0000, 0x14, 0x0, 1, 7, 0, .rw, 15⟩
def ARC_JRN_ckpt_log_mib : Field := ⟨0x1C0000, 0x14, 0x0, 1, 23, 8, .rw, 8192⟩
def ARC_CFG_flush_ms : Field := ⟨0x1C0000, 0x18, 0x0, 1, 11, 0, .rw, 400⟩
def ARC_CFG_col_delay : Field := ⟨0x1C0000, 0x18, 0x0, 1, 19, 12, .rw, 4⟩
def ARC_CFG_jrn_target : Field := ⟨0x1C0000, 0x18, 0x0, 1, 25, 20, .rw, 8⟩
def ARC_CFG_gc_low : Field := ⟨0x1C0000, 0x18, 0x0, 1, 31, 26, .rw, 8⟩
def ARC_MAPC_mib : Field := ⟨0x1C0000, 0x1C, 0x0, 1, 11, 0, .rw, 256⟩
def ARC_PATROL_days : Field := ⟨0x1C0000, 0x20, 0x0, 1, 7, 0, .rw, 30⟩
def ARC_PATROL_refresh_bits : Field := ⟨0x1C0000, 0x20, 0x0, 1, 15, 8, .rw, 60⟩
def ARC_WEAR_spread : Field := ⟨0x1C0000, 0x24, 0x0, 1, 15, 0, .rw, 200⟩
def ARC_SPARE_warn : Field := ⟨0x1C0000, 0x28, 0x0, 1, 7, 0, .rw, 20⟩
def ARC_SPARE_min : Field := ⟨0x1C0000, 0x28, 0x0, 1, 15, 8, .rw, 5⟩
def ARC_GOV_window_h : Field := ⟨0x1C0000, 0x2C, 0x0, 1, 7, 0, .rw, 24⟩
def ARC_GOV_END_end_day : Field := ⟨0x1C0000, 0x30, 0x0, 1, 15, 0, .rw, 0⟩
def ARC_LIFE_days : Field := ⟨0x1C0000, 0x34, 0x0, 1, 15, 0, .ro, 65535⟩
def ARC_LIFE_wa : Field := ⟨0x1C0000, 0x34, 0x0, 1, 31, 16, .ro, 100⟩
def ARC_EC_ec_min : Field := ⟨0x1C0000, 0x38, 0x0, 1, 15, 0, .ro, 0⟩
def ARC_EC_ec_max : Field := ⟨0x1C0000, 0x38, 0x0, 1, 31, 16, .ro, 0⟩
def ARC_FIRST_LO_first_lo : Field := ⟨0x1C0000, 0x40, 0x0, 1, 31, 0, .ro, 0⟩
def ARC_FIRST_HI_first_hi : Field := ⟨0x1C0000, 0x44, 0x0, 1, 31, 0, .ro, 0⟩
def ARC_NEXT_LO_next_lo : Field := ⟨0x1C0000, 0x48, 0x0, 1, 31, 0, .ro, 0⟩
def ARC_NEXT_HI_next_hi : Field := ⟨0x1C0000, 0x4C, 0x0, 1, 31, 0, .ro, 0⟩
def ARC_PATROL_PROG_percent : Field := ⟨0x1C0000, 0x50, 0x0, 1, 6, 0, .ro, 0⟩
def ARC_PATROL_PROG_running : Field := ⟨0x1C0000, 0x50, 0x0, 1, 8, 8, .ro, 0⟩
def ARC_PATROL_POS_lun : Field := ⟨0x1C0000, 0x54, 0x0, 1, 4, 0, .ro, 0⟩
def ARC_PATROL_POS_block : Field := ⟨0x1C0000, 0x54, 0x0, 1, 31, 8, .ro, 0⟩
def ARC_APPEND_CNT : Field := ⟨0x1C0000, 0x80, 0x0, 1, 31, 0, .ro, 0⟩
def ARC_PROG_FAIL_CNT : Field := ⟨0x1C0000, 0x84, 0x0, 1, 31, 0, .ro, 0⟩
def ARC_ERASE_FAIL_CNT : Field := ⟨0x1C0000, 0x88, 0x0, 1, 31, 0, .ro, 0⟩
def ARC_RETRY_CNT : Field := ⟨0x1C0000, 0x8C, 0x0, 1, 31, 0, .ro, 0⟩
def ARC_REBUILD_CNT : Field := ⟨0x1C0000, 0x90, 0x0, 1, 31, 0, .ro, 0⟩
def ARC_LOST_CNT : Field := ⟨0x1C0000, 0x94, 0x0, 1, 31, 0, .ro, 0⟩
def ARC_RETIRED_CNT : Field := ⟨0x1C0000, 0x98, 0x0, 1, 31, 0, .ro, 0⟩
def ARC_MAP_MISS_CNT : Field := ⟨0x1C0000, 0x9C, 0x0, 1, 31, 0, .ro, 0⟩
def ARC_GC_CNT : Field := ⟨0x1C0000, 0xA0, 0x0, 1, 31, 0, .ro, 0⟩
def ARC_REFRESH_CNT : Field := ⟨0x1C0000, 0xA4, 0x0, 1, 31, 0, .ro, 0⟩
def ARC_TRIM_CNT : Field := ⟨0x1C0000, 0xA8, 0x0, 1, 31, 0, .ro, 0⟩

/-- The fields of the ARC registers, part 1, in table order. -/
def fieldsARC1 : List Field := [
  ARC_CTRL_enable, ARC_CTRL_cnt_clear, ARC_CTRL_full_stripe, ARC_CTRL_summary, ARC_CTRL_gov_en,
  ARC_STAT_state, ARC_STAT_cfg_error, ARC_STAT_parity_full, ARC_STAT_summary, ARC_STAT_spare_warn,
  ARC_STAT_spare_min, ARC_STAT_jrn_low, ARC_STAT_layout_mismatch, ARC_STAT_error, ARC_STAT_jrn_ready,
  ARC_GEOM_luns, ARC_GEOM_planes, ARC_GEOM_slc, ARC_GEOM_raw_gib, ARC_PE_pe, ARC_NS_HOST_gib,
  ARC_JRN_ckpt_min, ARC_JRN_ckpt_log_mib, ARC_CFG_flush_ms]

/-- The fields of the ARC registers, part 2, in table order. -/
def fieldsARC2 : List Field := [
  ARC_CFG_col_delay, ARC_CFG_jrn_target, ARC_CFG_gc_low, ARC_MAPC_mib, ARC_PATROL_days,
  ARC_PATROL_refresh_bits, ARC_WEAR_spread, ARC_SPARE_warn, ARC_SPARE_min, ARC_GOV_window_h,
  ARC_GOV_END_end_day, ARC_LIFE_days, ARC_LIFE_wa, ARC_EC_ec_min, ARC_EC_ec_max, ARC_FIRST_LO_first_lo,
  ARC_FIRST_HI_first_hi, ARC_NEXT_LO_next_lo, ARC_NEXT_HI_next_hi, ARC_PATROL_PROG_percent,
  ARC_PATROL_PROG_running, ARC_PATROL_POS_lun, ARC_PATROL_POS_block, ARC_APPEND_CNT]

/-- The fields of the ARC registers, part 3, in table order. -/
def fieldsARC3 : List Field := [
  ARC_PROG_FAIL_CNT, ARC_ERASE_FAIL_CNT, ARC_RETRY_CNT, ARC_REBUILD_CNT, ARC_LOST_CNT, ARC_RETIRED_CNT,
  ARC_MAP_MISS_CNT, ARC_GC_CNT, ARC_REFRESH_CNT, ARC_TRIM_CNT]

/-- The fields of the ARC registers. -/
def fieldsARC : List Field := fieldsARC1 ++ fieldsARC2 ++ fieldsARC3

/-- What cnt_clear of the ARC block clears (R8 of the counter registers). -/
def countersARC : List Field := [
  ARC_APPEND_CNT, ARC_PROG_FAIL_CNT, ARC_ERASE_FAIL_CNT, ARC_RETRY_CNT, ARC_REBUILD_CNT, ARC_LOST_CNT,
  ARC_RETIRED_CNT, ARC_MAP_MISS_CNT, ARC_GC_CNT, ARC_REFRESH_CNT, ARC_TRIM_CNT]

/-! ### MIRR (base 0x200000), 11_substitute_redundancy -/

def MIRR_CTRL_cnt_clear : Field := ⟨0x200000, 0x0, 0x0, 1, 0, 0, .w1s, 0⟩
def MIRR_CTRL_auto_resync : Field := ⟨0x200000, 0x0, 0x0, 1, 1, 1, .rw, 1⟩
def MIRR_STAT_role : Field := ⟨0x200000, 0x4, 0x0, 1, 2, 0, .ro, 0⟩
def MIRR_STAT_pair_state : Field := ⟨0x200000, 0x4, 0x0, 1, 4, 3, .ro, 0⟩
def MIRR_STAT_partner : Field := ⟨0x200000, 0x4, 0x0, 1, 7, 5, .ro, 0⟩
def MIRR_STAT_link_ok : Field := ⟨0x200000, 0x4, 0x0, 1, 8, 8, .ro, 0⟩
def MIRR_STAT_wire_ok : Field := ⟨0x200000, 0x4, 0x0, 1, 9, 9, .ro, 0⟩
def MIRR_STAT_meas_pending : Field := ⟨0x200000, 0x4, 0x0, 1, 10, 10, .ro, 0⟩
def MIRR_CFG_paired : Field := ⟨0x200000, 0x8, 0x0, 1, 0, 0, .rw, perDie 9⟩
def MIRR_CFG_confirm_us : Field := ⟨0x200000, 0x8, 0x0, 1, 15, 8, .rw, 50⟩
def MIRR_HB_silence_us : Field := ⟨0x200000, 0xC, 0x0, 1, 7, 0, .rw, 150⟩
def MIRR_HB_fault_quiet_us : Field := ⟨0x200000, 0xC, 0x0, 1, 15, 8, .rw, 20⟩
def MIRR_RS_PROG_percent : Field := ⟨0x200000, 0x10, 0x0, 1, 6, 0, .ro, 0⟩
def MIRR_RS_PROG_running : Field := ⟨0x200000, 0x10, 0x0, 1, 8, 8, .ro, 0⟩
def MIRR_RS_PROG_done : Field := ⟨0x200000, 0x10, 0x0, 1, 9, 9, .ro, 0⟩
def MIRR_RS_PROG_error : Field := ⟨0x200000, 0x10, 0x0, 1, 23, 16, .ro, 0⟩
def MIRR_RS_POS_slot : Field := ⟨0x200000, 0x14, 0x0, 1, 19, 0, .ro, 0⟩
def MIRR_ARC_LAG_entries : Field := ⟨0x200000, 0x18, 0x0, 1, 31, 0, .ro, 0⟩
def MIRR_FW_PROG_step : Field := ⟨0x200000, 0x1C, 0x0, 1, 3, 0, .ro, 0⟩
def MIRR_FW_PROG_running : Field := ⟨0x200000, 0x1C, 0x0, 1, 8, 8, .ro, 0⟩
def MIRR_FW_PROG_done : Field := ⟨0x200000, 0x1C, 0x0, 1, 9, 9, .ro, 0⟩
def MIRR_FW_PROG_error : Field := ⟨0x200000, 0x1C, 0x0, 1, 23, 16, .ro, 0⟩
def MIRR_LAT_max : Field := ⟨0x200000, 0x20, 0x0, 1, 15, 0, .ro, 0⟩
def MIRR_LAST_SW_LO_sw_lo : Field := ⟨0x200000, 0x24, 0x0, 1, 31, 0, .ros, 0⟩
def MIRR_LAST_SW_HI_sw_hi : Field := ⟨0x200000, 0x28, 0x0, 1, 31, 0, .ros, 0⟩
def MIRR_SENT_CNT : Field := ⟨0x200000, 0x40, 0x0, 1, 31, 0, .ro, 0⟩
def MIRR_CONF_CNT : Field := ⟨0x200000, 0x44, 0x0, 1, 31, 0, .ro, 0⟩
def MIRR_TIMEOUT_CNT : Field := ⟨0x200000, 0x48, 0x0, 1, 31, 0, .ro, 0⟩
def MIRR_SWITCH_CNT : Field := ⟨0x200000, 0x4C, 0x0, 1, 31, 0, .ro, 0⟩
def MIRR_PATHFAULT_CNT : Field := ⟨0x200000, 0x50, 0x0, 1, 31, 0, .ro, 0⟩
def MIRR_RESYNC_CNT : Field := ⟨0x200000, 0x54, 0x0, 1, 31, 0, .ro, 0⟩
def MIRR_INVIG_FAIL_CNT : Field := ⟨0x200000, 0x58, 0x0, 1, 31, 0, .ro, 0⟩

/-- The fields of the MIRR registers, part 1, in table order. -/
def fieldsMIRR1 : List Field := [
  MIRR_CTRL_cnt_clear, MIRR_CTRL_auto_resync, MIRR_STAT_role, MIRR_STAT_pair_state, MIRR_STAT_partner,
  MIRR_STAT_link_ok, MIRR_STAT_wire_ok, MIRR_STAT_meas_pending, MIRR_CFG_paired, MIRR_CFG_confirm_us,
  MIRR_HB_silence_us, MIRR_HB_fault_quiet_us, MIRR_RS_PROG_percent, MIRR_RS_PROG_running,
  MIRR_RS_PROG_done, MIRR_RS_PROG_error, MIRR_RS_POS_slot, MIRR_ARC_LAG_entries, MIRR_FW_PROG_step,
  MIRR_FW_PROG_running, MIRR_FW_PROG_done, MIRR_FW_PROG_error, MIRR_LAT_max, MIRR_LAST_SW_LO_sw_lo]

/-- The fields of the MIRR registers, part 2, in table order. -/
def fieldsMIRR2 : List Field := [
  MIRR_LAST_SW_HI_sw_hi, MIRR_SENT_CNT, MIRR_CONF_CNT, MIRR_TIMEOUT_CNT, MIRR_SWITCH_CNT,
  MIRR_PATHFAULT_CNT, MIRR_RESYNC_CNT, MIRR_INVIG_FAIL_CNT]

/-- The fields of the MIRR registers. -/
def fieldsMIRR : List Field := fieldsMIRR1 ++ fieldsMIRR2

/-- What cnt_clear of the MIRR block clears (R8 of the counter registers). -/
def countersMIRR : List Field := [
  MIRR_SENT_CNT, MIRR_CONF_CNT, MIRR_TIMEOUT_CNT, MIRR_SWITCH_CNT, MIRR_PATHFAULT_CNT, MIRR_RESYNC_CNT,
  MIRR_INVIG_FAIL_CNT, MIRR_LAT_max]

/-! ### HIF (base 0x240000), 09_host_rings -/

def HIF_CTRL_cnt_clear : Field := ⟨0x240000, 0x0, 0x0, 1, 0, 0, .w1s, 0⟩
def HIF_CTRL_failback : Field := ⟨0x240000, 0x0, 0x0, 1, 1, 1, .w1s, 0⟩
def HIF_STAT_a_up : Field := ⟨0x240000, 0x4, 0x0, 1, 0, 0, .ro, 0⟩
def HIF_STAT_b_up : Field := ⟨0x240000, 0x4, 0x0, 1, 1, 1, .ro, 0⟩
def HIF_STAT_active : Field := ⟨0x240000, 0x4, 0x0, 1, 2, 2, .ro, 0⟩
def HIF_STAT_a_speed : Field := ⟨0x240000, 0x4, 0x0, 1, 5, 3, .ro, 0⟩
def HIF_STAT_a_width : Field := ⟨0x240000, 0x4, 0x0, 1, 8, 6, .ro, 0⟩
def HIF_STAT_b_speed : Field := ⟨0x240000, 0x4, 0x0, 1, 11, 9, .ro, 0⟩
def HIF_STAT_b_width : Field := ⟨0x240000, 0x4, 0x0, 1, 14, 12, .ro, 0⟩
def HIF_STAT_standby_ready : Field := ⟨0x240000, 0x4, 0x0, 1, 15, 15, .ro, 0⟩
def HIF_STAT_cfg_error : Field := ⟨0x240000, 0x4, 0x0, 1, 16, 16, .ro, 0⟩
def HIF_PORT_mode : Field := ⟨0x240000, 0x8, 0x0, 1, 1, 0, .rw, 0⟩
def HIF_PORT_admin_port : Field := ⟨0x240000, 0x8, 0x0, 1, 2, 2, .rw, 0⟩
def HIF_CLASS_sc0_group : Field := ⟨0x240000, 0xC, 0x0, 1, 7, 0, .rw, 0⟩
def HIF_CLASS_sc1_group : Field := ⟨0x240000, 0xC, 0x0, 1, 15, 8, .rw, 0⟩
def HIF_CLASS_sc2_group : Field := ⟨0x240000, 0xC, 0x0, 1, 23, 16, .rw, 0⟩
def HIF_CLASS_sc3_group : Field := ⟨0x240000, 0xC, 0x0, 1, 31, 24, .rw, 0⟩
def HIF_EVT_group_a : Field := ⟨0x240000, 0x10, 0x0, 1, 7, 0, .rw, 0⟩
def HIF_EVT_en_a : Field := ⟨0x240000, 0x10, 0x0, 1, 8, 8, .rw, 0⟩
def HIF_EVT_group_b : Field := ⟨0x240000, 0x10, 0x0, 1, 23, 16, .rw, 0⟩
def HIF_EVT_en_b : Field := ⟨0x240000, 0x10, 0x0, 1, 24, 24, .rw, 0⟩
def HIF_GRPn_CTRL_sq_enable : Field := ⟨0x240000, 0x1000, 0x40, 256, 0, 0, .rw, 0⟩
def HIF_GRPn_CTRL_cq_enable : Field := ⟨0x240000, 0x1000, 0x40, 256, 1, 1, .rw, 0⟩
def HIF_GRPn_CTRL_sq_kind : Field := ⟨0x240000, 0x1000, 0x40, 256, 3, 2, .rw, 0⟩
def HIF_GRPn_CTRL_port : Field := ⟨0x240000, 0x1000, 0x40, 256, 4, 4, .rw, 0⟩
def HIF_GRPn_SIZE_sq_log2 : Field := ⟨0x240000, 0x1004, 0x40, 256, 4, 0, .rw, 6⟩
def HIF_GRPn_SIZE_cq_log2 : Field := ⟨0x240000, 0x1004, 0x40, 256, 12, 8, .rw, 6⟩
def HIF_GRPn_SQ_LO_base_lo : Field := ⟨0x240000, 0x1008, 0x40, 256, 31, 0, .rw, 0⟩
def HIF_GRPn_SQ_HI_base_hi : Field := ⟨0x240000, 0x100C, 0x40, 256, 31, 0, .rw, 0⟩
def HIF_GRPn_CQ_LO_base_lo : Field := ⟨0x240000, 0x1010, 0x40, 256, 31, 0, .rw, 0⟩
def HIF_GRPn_CQ_HI_base_hi : Field := ⟨0x240000, 0x1014, 0x40, 256, 31, 0, .rw, 0⟩
def HIF_GRPn_MOD_count : Field := ⟨0x240000, 0x1018, 0x40, 256, 7, 0, .rw, 1⟩
def HIF_GRPn_MOD_time_us : Field := ⟨0x240000, 0x1018, 0x40, 256, 23, 8, .rw, 0⟩
def HIF_GRPn_MOD_vector : Field := ⟨0x240000, 0x1018, 0x40, 256, 29, 24, .rw, 0⟩
def HIF_GRPn_STAT_sq_state : Field := ⟨0x240000, 0x101C, 0x40, 256, 1, 0, .ro, 0⟩
def HIF_GRPn_STAT_cq_state : Field := ⟨0x240000, 0x101C, 0x40, 256, 3, 2, .ro, 0⟩
def HIF_GRPn_STAT_full : Field := ⟨0x240000, 0x101C, 0x40, 256, 4, 4, .ro, 0⟩
def HIF_GRPn_STAT_cfg_error : Field := ⟨0x240000, 0x101C, 0x40, 256, 5, 5, .ro, 0⟩
def HIF_GRPn_STAT_error : Field := ⟨0x240000, 0x101C, 0x40, 256, 23, 16, .ro, 0⟩
def HIF_GRPn_SQ_HEAD_head : Field := ⟨0x240000, 0x1020, 0x40, 256, 15, 0, .ro, 0⟩
def HIF_GRPn_CQ_TAIL_tail : Field := ⟨0x240000, 0x1024, 0x40, 256, 15, 0, .ro, 0⟩
def HIF_GRPn_CQ_TAIL_phase : Field := ⟨0x240000, 0x1024, 0x40, 256, 16, 16, .ro, 1⟩
def HIF_FETCH_CNT : Field := ⟨0x240000, 0x40, 0x0, 1, 31, 0, .ro, 0⟩
def HIF_CPL_CNT : Field := ⟨0x240000, 0x44, 0x0, 1, 31, 0, .ro, 0⟩
def HIF_VOID_CNT : Field := ⟨0x240000, 0x48, 0x0, 1, 31, 0, .ro, 0⟩
def HIF_DMA_ERR_CNT : Field := ⟨0x240000, 0x4C, 0x0, 1, 31, 0, .ro, 0⟩
def HIF_DB_ERR_CNT : Field := ⟨0x240000, 0x50, 0x0, 1, 31, 0, .ro, 0⟩
def HIF_FAILOVER_CNT : Field := ⟨0x240000, 0x54, 0x0, 1, 31, 0, .ro, 0⟩
def HIF_GRPn_HELD_CNT : Field := ⟨0x240000, 0x1028, 0x40, 256, 31, 0, .ro, 0⟩

/-- The fields of the HIF registers, part 1, in table order. -/
def fieldsHIF1 : List Field := [
  HIF_CTRL_cnt_clear, HIF_CTRL_failback, HIF_STAT_a_up, HIF_STAT_b_up, HIF_STAT_active, HIF_STAT_a_speed,
  HIF_STAT_a_width, HIF_STAT_b_speed, HIF_STAT_b_width, HIF_STAT_standby_ready, HIF_STAT_cfg_error,
  HIF_PORT_mode, HIF_PORT_admin_port, HIF_CLASS_sc0_group, HIF_CLASS_sc1_group, HIF_CLASS_sc2_group,
  HIF_CLASS_sc3_group, HIF_EVT_group_a, HIF_EVT_en_a, HIF_EVT_group_b, HIF_EVT_en_b,
  HIF_GRPn_CTRL_sq_enable, HIF_GRPn_CTRL_cq_enable, HIF_GRPn_CTRL_sq_kind]

/-- The fields of the HIF registers, part 2, in table order. -/
def fieldsHIF2 : List Field := [
  HIF_GRPn_CTRL_port, HIF_GRPn_SIZE_sq_log2, HIF_GRPn_SIZE_cq_log2, HIF_GRPn_SQ_LO_base_lo,
  HIF_GRPn_SQ_HI_base_hi, HIF_GRPn_CQ_LO_base_lo, HIF_GRPn_CQ_HI_base_hi, HIF_GRPn_MOD_count,
  HIF_GRPn_MOD_time_us, HIF_GRPn_MOD_vector, HIF_GRPn_STAT_sq_state, HIF_GRPn_STAT_cq_state,
  HIF_GRPn_STAT_full, HIF_GRPn_STAT_cfg_error, HIF_GRPn_STAT_error, HIF_GRPn_SQ_HEAD_head,
  HIF_GRPn_CQ_TAIL_tail, HIF_GRPn_CQ_TAIL_phase, HIF_FETCH_CNT, HIF_CPL_CNT, HIF_VOID_CNT, HIF_DMA_ERR_CNT,
  HIF_DB_ERR_CNT, HIF_FAILOVER_CNT]

/-- The fields of the HIF registers, part 3, in table order. -/
def fieldsHIF3 : List Field := [
  HIF_GRPn_HELD_CNT]

/-- The fields of the HIF registers. -/
def fieldsHIF : List Field := fieldsHIF1 ++ fieldsHIF2 ++ fieldsHIF3

/-- What cnt_clear of the HIF block clears (R8 of the counter registers). -/
def countersHIF : List Field := [
  HIF_FETCH_CNT, HIF_CPL_CNT, HIF_VOID_CNT, HIF_DMA_ERR_CNT, HIF_DB_ERR_CNT, HIF_FAILOVER_CNT,
  HIF_GRPn_HELD_CNT]

/-! ### ETH (base 0x280000), 13_ethernet_backhaul -/

def ETH_CTRL_enable : Field := ⟨0x280000, 0x0, 0x0, 1, 0, 0, .rw, 0⟩
def ETH_CTRL_cnt_clear : Field := ⟨0x280000, 0x0, 0x0, 1, 1, 1, .w1s, 0⟩
def ETH_CTRL_alarm_en : Field := ⟨0x280000, 0x0, 0x0, 1, 2, 2, .rw, 0⟩
def ETH_CTRL_ptp_en : Field := ⟨0x280000, 0x0, 0x0, 1, 3, 3, .rw, 0⟩
def ETH_STAT_state : Field := ⟨0x280000, 0x4, 0x0, 1, 1, 0, .ro, 0⟩
def ETH_STAT_link : Field := ⟨0x280000, 0x4, 0x0, 1, 2, 2, .ro, 0⟩
def ETH_STAT_speed : Field := ⟨0x280000, 0x4, 0x0, 1, 4, 3, .ro, 0⟩
def ETH_STAT_duplex : Field := ⟨0x280000, 0x4, 0x0, 1, 5, 5, .ro, 0⟩
def ETH_STAT_cfg_error : Field := ⟨0x280000, 0x4, 0x0, 1, 6, 6, .ro, 0⟩
def ETH_STAT_alarm_active : Field := ⟨0x280000, 0x4, 0x0, 1, 7, 7, .ro, 0⟩
def ETH_STAT_pause_ignored : Field := ⟨0x280000, 0x4, 0x0, 1, 8, 8, .ro, 0⟩
def ETH_STAT_ptp_state : Field := ⟨0x280000, 0x4, 0x0, 1, 10, 9, .ro, 0⟩
def ETH_CFG_iface : Field := ⟨0x280000, 0x8, 0x0, 1, 0, 0, .rw, 0⟩
def ETH_CFG_auto : Field := ⟨0x280000, 0x8, 0x0, 1, 1, 1, .rw, 1⟩
def ETH_CFG_speed : Field := ⟨0x280000, 0x8, 0x0, 1, 3, 2, .rw, 2⟩
def ETH_CFG_duplex : Field := ⟨0x280000, 0x8, 0x0, 1, 4, 4, .rw, 1⟩
def ETH_CFG_phy_addr : Field := ⟨0x280000, 0x8, 0x0, 1, 12, 8, .rw, 0⟩
def ETH_CFG_rx_vid : Field := ⟨0x280000, 0x8, 0x0, 1, 27, 16, .rw, 0⟩
def ETH_CFG_rx_vid_en : Field := ⟨0x280000, 0x8, 0x0, 1, 28, 28, .rw, 0⟩
def ETH_MAC_LO_mac_lo : Field := ⟨0x280000, 0xC, 0x0, 1, 31, 0, .rw, 0⟩
def ETH_MAC_HI_mac_hi : Field := ⟨0x280000, 0x10, 0x0, 1, 15, 0, .rw, 0⟩
def ETH_Qn_TAG_vid : Field := ⟨0x280000, 0x14, 0x4, 2, 11, 0, .rw, 0⟩
def ETH_Qn_TAG_dei : Field := ⟨0x280000, 0x14, 0x4, 2, 12, 12, .rw, 0⟩
def ETH_Qn_TAG_pcp : Field := ⟨0x280000, 0x14, 0x4, 2, 15, 13, .rw, perDie 10⟩
def ETH_Qn_TAG_insert : Field := ⟨0x280000, 0x14, 0x4, 2, 16, 16, .rw, 0⟩
def ETH_PAUSE_honour : Field := ⟨0x280000, 0x1C, 0x0, 1, 0, 0, .rw, 1⟩
def ETH_PAUSE_wd_ms : Field := ⟨0x280000, 0x1C, 0x0, 1, 17, 8, .rw, 100⟩
def ETH_PTP_domain : Field := ⟨0x280000, 0x20, 0x0, 1, 7, 0, .rw, 0⟩
def ETH_PTP_transport : Field := ⟨0x280000, 0x20, 0x0, 1, 8, 8, .rw, 0⟩
def ETH_PTP_dreq_log : Field := ⟨0x280000, 0x20, 0x0, 1, 11, 9, .rw, 0⟩
def ETH_PTP_DLY_tx_delay : Field := ⟨0x280000, 0x24, 0x0, 1, 15, 0, .rw, 0⟩
def ETH_PTP_DLY_rx_delay : Field := ⟨0x280000, 0x24, 0x0, 1, 31, 16, .rw, 0⟩
def ETH_PTP_OFS_offset : Field := ⟨0x280000, 0x28, 0x0, 1, 31, 0, .ro, 0⟩
def ETH_PTP_PATH_path : Field := ⟨0x280000, 0x2C, 0x0, 1, 31, 0, .ro, 0⟩
def ETH_ALARM_wait_ms : Field := ⟨0x280000, 0x30, 0x0, 1, 9, 0, .rw, 20⟩
def ETH_ALARM_repeat : Field := ⟨0x280000, 0x30, 0x0, 1, 13, 12, .rw, 1⟩
def ETH_ALARM_spacing_ms : Field := ⟨0x280000, 0x30, 0x0, 1, 23, 16, .rw, 5⟩
def ETH_ALARM_KEY_slot : Field := ⟨0x280000, 0x34, 0x0, 1, 8, 0, .rw, 0⟩
def ETH_MDIO_data : Field := ⟨0x280000, 0x38, 0x0, 1, 15, 0, .rw, 0⟩
def ETH_MDIO_reg : Field := ⟨0x280000, 0x38, 0x0, 1, 20, 16, .rw, 0⟩
def ETH_MDIO_phy : Field := ⟨0x280000, 0x38, 0x0, 1, 25, 21, .rw, 0⟩
def ETH_MDIO_op : Field := ⟨0x280000, 0x38, 0x0, 1, 26, 26, .rw, 0⟩
def ETH_MDIO_go : Field := ⟨0x280000, 0x38, 0x0, 1, 27, 27, .w1s, 0⟩
def ETH_TPLw_bytes : Field := ⟨0x280000, 0x40, 0x4, 11, 31, 0, .rw, 0⟩
def ETH_TX_CNT : Field := ⟨0x280000, 0x80, 0x0, 1, 31, 0, .ro, 0⟩
def ETH_RX_CNT : Field := ⟨0x280000, 0x84, 0x0, 1, 31, 0, .ro, 0⟩
def ETH_RX_FCS_CNT : Field := ⟨0x280000, 0x88, 0x0, 1, 31, 0, .ro, 0⟩
def ETH_RX_FILT_CNT : Field := ⟨0x280000, 0x8C, 0x0, 1, 31, 0, .ro, 0⟩
def ETH_RX_VLAN_CNT : Field := ⟨0x280000, 0x90, 0x0, 1, 31, 0, .ro, 0⟩
def ETH_RX_OVF_CNT : Field := ⟨0x280000, 0x94, 0x0, 1, 31, 0, .ro, 0⟩
def ETH_COLL_CNT : Field := ⟨0x280000, 0x98, 0x0, 1, 31, 0, .ro, 0⟩
def ETH_EXCOLL_CNT : Field := ⟨0x280000, 0x9C, 0x0, 1, 31, 0, .ro, 0⟩
def ETH_LATECOLL_CNT : Field := ⟨0x280000, 0xA0, 0x0, 1, 31, 0, .ro, 0⟩
def ETH_PAUSE_RX_CNT : Field := ⟨0x280000, 0xA4, 0x0, 1, 31, 0, .ro, 0⟩
def ETH_PAUSE_WD_CNT : Field := ⟨0x280000, 0xA8, 0x0, 1, 31, 0, .ro, 0⟩
def ETH_PTP_RX_CNT : Field := ⟨0x280000, 0xAC, 0x0, 1, 31, 0, .ro, 0⟩
def ETH_ALARM_TX_CNT : Field := ⟨0x280000, 0xB0, 0x0, 1, 31, 0, .ro, 0⟩
def ETH_ALARM_DROP_CNT : Field := ⟨0x280000, 0xB4, 0x0, 1, 31, 0, .ro, 0⟩

/-- The fields of the ETH registers, part 1, in table order. -/
def fieldsETH1 : List Field := [
  ETH_CTRL_enable, ETH_CTRL_cnt_clear, ETH_CTRL_alarm_en, ETH_CTRL_ptp_en, ETH_STAT_state, ETH_STAT_link,
  ETH_STAT_speed, ETH_STAT_duplex, ETH_STAT_cfg_error, ETH_STAT_alarm_active, ETH_STAT_pause_ignored,
  ETH_STAT_ptp_state, ETH_CFG_iface, ETH_CFG_auto, ETH_CFG_speed, ETH_CFG_duplex, ETH_CFG_phy_addr,
  ETH_CFG_rx_vid, ETH_CFG_rx_vid_en, ETH_MAC_LO_mac_lo, ETH_MAC_HI_mac_hi, ETH_Qn_TAG_vid, ETH_Qn_TAG_dei,
  ETH_Qn_TAG_pcp]

/-- The fields of the ETH registers, part 2, in table order. -/
def fieldsETH2 : List Field := [
  ETH_Qn_TAG_insert, ETH_PAUSE_honour, ETH_PAUSE_wd_ms, ETH_PTP_domain, ETH_PTP_transport,
  ETH_PTP_dreq_log, ETH_PTP_DLY_tx_delay, ETH_PTP_DLY_rx_delay, ETH_PTP_OFS_offset, ETH_PTP_PATH_path,
  ETH_ALARM_wait_ms, ETH_ALARM_repeat, ETH_ALARM_spacing_ms, ETH_ALARM_KEY_slot, ETH_MDIO_data,
  ETH_MDIO_reg, ETH_MDIO_phy, ETH_MDIO_op, ETH_MDIO_go, ETH_TPLw_bytes, ETH_TX_CNT, ETH_RX_CNT,
  ETH_RX_FCS_CNT, ETH_RX_FILT_CNT]

/-- The fields of the ETH registers, part 3, in table order. -/
def fieldsETH3 : List Field := [
  ETH_RX_VLAN_CNT, ETH_RX_OVF_CNT, ETH_COLL_CNT, ETH_EXCOLL_CNT, ETH_LATECOLL_CNT, ETH_PAUSE_RX_CNT,
  ETH_PAUSE_WD_CNT, ETH_PTP_RX_CNT, ETH_ALARM_TX_CNT, ETH_ALARM_DROP_CNT]

/-- The fields of the ETH registers. -/
def fieldsETH : List Field := fieldsETH1 ++ fieldsETH2 ++ fieldsETH3

/-- What cnt_clear of the ETH block clears (R8 of the counter registers). -/
def countersETH : List Field := [
  ETH_TX_CNT, ETH_RX_CNT, ETH_RX_FCS_CNT, ETH_RX_FILT_CNT, ETH_RX_VLAN_CNT, ETH_RX_OVF_CNT, ETH_COLL_CNT,
  ETH_EXCOLL_CNT, ETH_LATECOLL_CNT, ETH_PAUSE_RX_CNT, ETH_PAUSE_WD_CNT, ETH_PTP_RX_CNT, ETH_ALARM_TX_CNT,
  ETH_ALARM_DROP_CNT]

/-! ### EUF (base 0x2A0000), 12_eufer_fabric -/

def EUF_CTRL_enable : Field := ⟨0x2A0000, 0x0, 0x0, 1, 0, 0, .rw, 0⟩
def EUF_CTRL_cnt_clear : Field := ⟨0x2A0000, 0x0, 0x0, 1, 1, 1, .w1s, 0⟩
def EUF_STAT_port_state : Field := ⟨0x2A0000, 0x4, 0x0, 1, 2, 0, .ro, 0⟩
def EUF_STAT_rc_stage : Field := ⟨0x2A0000, 0x4, 0x0, 1, 5, 3, .ro, 0⟩
def EUF_STAT_coordinator : Field := ⟨0x2A0000, 0x4, 0x0, 1, 6, 6, .ro, 0⟩
def EUF_STAT_conflict : Field := ⟨0x2A0000, 0x4, 0x0, 1, 7, 7, .ro, 0⟩
def EUF_STAT_excluded : Field := ⟨0x2A0000, 0x4, 0x0, 1, 8, 8, .ro, 0⟩
def EUF_STAT_cfg_error : Field := ⟨0x2A0000, 0x4, 0x0, 1, 9, 9, .ro, 0⟩
def EUF_STAT_package : Field := ⟨0x2A0000, 0x4, 0x0, 1, 17, 10, .ro, 0⟩
def EUF_STAT_pkg_valid : Field := ⟨0x2A0000, 0x4, 0x0, 1, 18, 18, .ro, 0⟩
def EUF_STAT_error : Field := ⟨0x2A0000, 0x4, 0x0, 1, 31, 24, .ro, 0⟩
def EUF_CFG_prio : Field := ⟨0x2A0000, 0x8, 0x0, 1, 7, 0, .rw, 128⟩
def EUF_CFG_pkg_req : Field := ⟨0x2A0000, 0x8, 0x0, 1, 15, 8, .rw, 0⟩
def EUF_CFG_pkg_req_en : Field := ⟨0x2A0000, 0x8, 0x0, 1, 16, 16, .rw, 0⟩
def EUF_TIMING_unreach_ms : Field := ⟨0x2A0000, 0xC, 0x0, 1, 15, 0, .rw, 1000⟩
def EUF_ID_LO_id_lo : Field := ⟨0x2A0000, 0x10, 0x0, 1, 31, 0, .ro, 0⟩
def EUF_ID_HI_id_hi : Field := ⟨0x2A0000, 0x14, 0x0, 1, 31, 0, .ro, 0⟩
def EUF_COORD_coord : Field := ⟨0x2A0000, 0x18, 0x0, 1, 7, 0, .ro, 0⟩
def EUF_COORD_members : Field := ⟨0x2A0000, 0x18, 0x0, 1, 16, 8, .ro, 0⟩
def EUF_NEIGH_addr : Field := ⟨0x2A0000, 0x1C, 0x0, 1, 10, 0, .ro, 0⟩
def EUF_NEIGH_valid : Field := ⟨0x2A0000, 0x1C, 0x0, 1, 11, 11, .ro, 0⟩
def EUF_PART_VER_version : Field := ⟨0x2A0000, 0x20, 0x0, 1, 31, 0, .ro, 0⟩
def EUF_RC_TIME_ms : Field := ⟨0x2A0000, 0x24, 0x0, 1, 15, 0, .ro, 0⟩
def EUF_ROUTEp_hops : Field := ⟨0x2A0000, 0x1000, 0x4, 256, 4, 0, .ro, 31⟩
def EUF_ROUTEp_nh0 : Field := ⟨0x2A0000, 0x1000, 0x4, 256, 11, 8, .ro, 0⟩
def EUF_ROUTEp_nh1 : Field := ⟨0x2A0000, 0x1000, 0x4, 256, 15, 12, .ro, 0⟩
def EUF_ROUTEp_nh2 : Field := ⟨0x2A0000, 0x1000, 0x4, 256, 19, 16, .ro, 0⟩
def EUF_ROUTEp_nh3 : Field := ⟨0x2A0000, 0x1000, 0x4, 256, 23, 20, .ro, 0⟩
def EUF_ROUTEp_alt : Field := ⟨0x2A0000, 0x1000, 0x4, 256, 27, 24, .ro, 0⟩
def EUF_TX_MSG_CNT : Field := ⟨0x2A0000, 0x40, 0x0, 1, 31, 0, .ro, 0⟩
def EUF_RX_MSG_CNT : Field := ⟨0x2A0000, 0x44, 0x0, 1, 31, 0, .ro, 0⟩
def EUF_CRC_CNT : Field := ⟨0x2A0000, 0x48, 0x0, 1, 31, 0, .ro, 0⟩
def EUF_LINKDOWN_CNT : Field := ⟨0x2A0000, 0x4C, 0x0, 1, 31, 0, .ro, 0⟩
def EUF_RETX_CNT : Field := ⟨0x2A0000, 0x50, 0x0, 1, 31, 0, .ro, 0⟩
def EUF_UNREACH_CNT : Field := ⟨0x2A0000, 0x54, 0x0, 1, 31, 0, .ro, 0⟩
def EUF_TTL_CNT : Field := ⟨0x2A0000, 0x58, 0x0, 1, 31, 0, .ro, 0⟩
def EUF_REROUTE_CNT : Field := ⟨0x2A0000, 0x5C, 0x0, 1, 31, 0, .ro, 0⟩

/-- The fields of the EUF registers, part 1, in table order. -/
def fieldsEUF1 : List Field := [
  EUF_CTRL_enable, EUF_CTRL_cnt_clear, EUF_STAT_port_state, EUF_STAT_rc_stage, EUF_STAT_coordinator,
  EUF_STAT_conflict, EUF_STAT_excluded, EUF_STAT_cfg_error, EUF_STAT_package, EUF_STAT_pkg_valid,
  EUF_STAT_error, EUF_CFG_prio, EUF_CFG_pkg_req, EUF_CFG_pkg_req_en, EUF_TIMING_unreach_ms,
  EUF_ID_LO_id_lo, EUF_ID_HI_id_hi, EUF_COORD_coord, EUF_COORD_members, EUF_NEIGH_addr, EUF_NEIGH_valid,
  EUF_PART_VER_version, EUF_RC_TIME_ms, EUF_ROUTEp_hops]

/-- The fields of the EUF registers, part 2, in table order. -/
def fieldsEUF2 : List Field := [
  EUF_ROUTEp_nh0, EUF_ROUTEp_nh1, EUF_ROUTEp_nh2, EUF_ROUTEp_nh3, EUF_ROUTEp_alt, EUF_TX_MSG_CNT,
  EUF_RX_MSG_CNT, EUF_CRC_CNT, EUF_LINKDOWN_CNT, EUF_RETX_CNT, EUF_UNREACH_CNT, EUF_TTL_CNT, EUF_REROUTE_CNT]

/-- The fields of the EUF registers. -/
def fieldsEUF : List Field := fieldsEUF1 ++ fieldsEUF2

/-- What cnt_clear of the EUF block clears (R8 of the counter registers). -/
def countersEUF : List Field := [
  EUF_TX_MSG_CNT, EUF_RX_MSG_CNT, EUF_CRC_CNT, EUF_LINKDOWN_CNT, EUF_RETX_CNT, EUF_UNREACH_CNT,
  EUF_TTL_CNT, EUF_REROUTE_CNT]

end Sys2Proof.Machine
end

