-- ==== Sys2Proof/Machine/SlateTypes.lean ====
section
/-! DEFINITION. The state of an F-die's panel driver beside its registers (14_slate_panel). -/

namespace Sys2Proof.Machine

/-- What the electrophoretic drive is doing: an update or refresh (R314, R315), or a step of the clearing of R319. -/
inductive SlateStep where
  | update | refresh | compensate | black | white | rewrite
  deriving DecidableEq, Repr

/-- A waveform in progress. -/
structure SlateRun where
  step : SlateStep
  band : Nat
  phase : Nat := 0
  /-- bit s: segment s is driven -/
  mask : Nat
  /-- target levels, 2 bits per segment -/
  target : Nat
  /-- when the phase began -/
  since : Nat
  /-- the interrupted phase and the time that had elapsed in it, for the compensation -/
  cut : Nat := 0
  elapsed : Nat := 0
  deriving DecidableEq, Repr

/-- What a pin of the panel is driven to (R308, R309): 0 V, nothing, VLCD, one of the levels VLCD × k ÷ n, or ±vdrive. -/
inductive PanelLevel where
  | ground | highZ | vlcd
  | bias (n : Nat)
  | plus | minus
  deriving DecidableEq, Repr

structure Slate where
  /-- waveform memory (R311): 32-bit words, key 128 * band + word number -/
  wave : SMap Nat := []
  /-- retention store (R318): journal and the five words of SLATE_SHOWN; none while it holds nothing valid -/
  store : Option (Bytes × List Nat) := none
  run : Option SlateRun := none
  /-- image of the update that waits, its five words (R314) -/
  next : Option (List Nat) := none
  /-- end of the rest after the last update -/
  restUntil : Nat := 0
  /-- segments of the scheduled refresh (R315) -/
  refresh : Nat := 0
  /-- VLCD now and the value of R310 it goes to, mV -/
  vlcd : Nat := 0
  vlcdGoal : Nat := 0
  /-- a power-off waits for the end of the frame pair or update (R317) -/
  stopping : Bool := false
  /-- the power-off under way is that of a brown-out warning (R317) -/
  brown : Bool := false
  deriving DecidableEq, Repr

end Sys2Proof.Machine
end

