-- ==== Sys2Proof/Machine/State.lean ====
section
/-! DEFINITION. The machine's state as plain data, and the state right after reset. -/

namespace Sys2Proof.Machine

/-- The four ordering variants of R1. -/
inductive Variant where
  | f1l1 | f2l2 | l4 | l8
  deriving DecidableEq, Repr

/-- The number of L-dies of a variant (R1); they have the lowest die indices (R2). -/
def Variant.lDies : Variant → Nat
  | .f1l1 => 1
  | .f2l2 => 2
  | .l4 => 4
  | .l8 => 8

/-- The number of F-dies of a variant (R1). -/
def Variant.fDies : Variant → Nat
  | .f1l1 => 1
  | .f2l2 => 2
  | .l4 => 0
  | .l8 => 0

/-- SYS_ID.variant's code. -/
def Variant.code : Variant → Nat
  | .f1l1 => 0
  | .f2l2 => 1
  | .l4 => 2
  | .l8 => 3

/-- Why a step stops with a fault. -/
inductive Fault where
  /-- A command names a die, or a unit of a die, that the variant does not have (R1, R2, R372): nothing is there
  to act. Raised by every meaning that acts at a die. Safe: the device has no behaviour there to differ from. -/
  | absentUnit
  deriving DecidableEq, Repr

/-- Why a step refuses. -/
inductive Refusal where
  /-- The command has no meaning in the model yet. Raised by the dispatch only. Safe. -/
  | notModelled (mnemonic : String)
  deriving DecidableEq, Repr

/-- What every die has (common blocks), beside its registers. -/
structure Com where
  /-- device-time counter in units of 10^-9 tick (R13, R330) -/
  clk : Nat := 0
  lock : Lock := {}
  boot : BootDie := {}
  pwr : Pwr := {}
  disc : Disc := {}
  age : Age := {}
  /-- Invigilator tests by id: passes, corrected, uncorrected (R271) -/
  tests : SMap (Nat × Nat × Nat) := []
  deriving DecidableEq, Repr

/-- An F-die. -/
structure FDie where
  radio : Radio := {}
  plc : Plc := {}
  slate : Slate := {}
  /-- levels on the GPIO pins from outside, bit n for pin n -/
  pins : Nat := 0
  deriving DecidableEq, Repr

/-- A frame at an owning L-die between its header and its verdict (R50, R22). -/
structure LFrame where
  src : Nat
  ctx : Nat
  hold : Nat
  header : Header
  /-- device time at which the header arrived -/
  headerAt : Nat
  /-- bytes received so far, holes as zeros -/
  bytes : Bytes := []
  trailer : Option Trailer := none
  /-- the prefetch of identity, record and keys has completed (R22), and when -/
  ready : Bool := false
  readyAt : Nat := 0
  /-- the frame waited for another cause than its prefetch: a brown-out (R23, R336) -/
  held : Bool := false
  /-- the record slot found, and whether its record passed the fetch check -/
  slot : Option Nat := none
  good : Bool := false
  deriving DecidableEq, Repr

/-- A head-end frame in a decision slot (R31, R216). -/
structure HeFrame where
  cmd : Nat
  /-- submission entry and frame -/
  entry : Bytes
  bytes : Bytes
  arrived : Nat
  ready : Bool := false
  /-- its prefetch completed late (R23), and whether a brown-out held it -/
  late : Bool := false
  held : Bool := false
  slot : Option Nat := none
  good : Bool := false
  deriving DecidableEq, Repr

/-- An Accept of a meter: when, by which F-die, of which counter and MIC, and the mirror message that carried it (R26, R27). -/
structure LastAccept where
  time : Nat
  die : Nat
  counter : Nat
  mic8 : Bytes
  mirror : Option Nat
  deriving DecidableEq, Repr

/-- The security pipeline of an L-die. -/
structure Sec where
  /-- wrapped keys by record slot: link and spare position (R123) -/
  wrapped : SMap (Bytes × Bytes) := []
  /-- key cache (R125), most recently used first -/
  cache : List CacheEntry := []
  frames : List LFrame := []
  headEnd : List HeFrame := []
  /-- the last two Accepts of a meter, newest first: those that the mark and the retiring key's mark stand for (R128) -/
  accepts : SMap (List LastAccept) := []
  /-- unknown-identity summary, most recently seen first (R139) -/
  unknowns : List UnknownEnt := []
  /-- host downlinks that wait for a meter's next Accept, by record slot (R214) -/
  hostDls : SMap HostDl := []
  lim034 : Option Nat := none
  lim039 : Option Nat := none
  deriving DecidableEq, Repr

/-- An L-die. -/
structure LDie where
  sec : Sec := {}
  /-- meter records by slot; an unlisted slot holds a Free record (R143) -/
  recs : SMap MRec := []
  led : LedTab := {}
  /-- last raise of L-064 (R153) -/
  lim064 : Option Nat := none
  /-- last raise of L-097 (R185) -/
  lim097 : Option Nat := none
  ques : List Queue := [{}, {}, {}, {}]
  /-- number of the next acceptance decision -/
  orderNext : Nat := 0
  bal : BalTab := {}
  /-- balance output buffer (R177) -/
  balOut : List Packet := []
  /-- finding records that wait for a free entry of the output buffer (R177) -/
  balLate : List Packet := []
  watch : SMap Watch := []
  findings : List Finding := []
  balWaits : List BalWait := []
  lim085 : Option Nat := none
  lim086 : Option Nat := none
  tt : TtTab := {}
  mir : Mirror := {}
  arc : Arc := {}
  euf : Euf := {}
  eth : Eth := {}
  /-- DRAM outside the tables and queues, where host software keeps campaign images (R79): bytes by offset -/
  dram : SMap Byte := []
  /-- LEDG_LT_HI, latched by a read of LEDG_LT_LO -/
  ltHi : Nat := 0
  deriving DecidableEq, Repr

/-- The boot flashes and what else belongs to the package as a whole (16_bringup_rollcall). -/
structure Pkg where
  /-- storage blobs of Locker slots (R123, R346), key 512 * die + slot -/
  blobs : SMap Bytes := []
  fab : Fab := {}
  boot : Boot := {}
  /-- dies held in die reset by the package reset controller (R259) -/
  fenced : List Nat := []
  /-- declarations of failure: die and time (R259) -/
  failures : List (Nat × Nat) := []
  deriving DecidableEq, Repr

structure State where
  variant : Variant
  /-- ticks of 10 ns since reset, by CLK_REF -/
  now : Nat := 0
  /-- the model's own counter for free values (not the spec's) -/
  free : Nat := 0
  pending : List Instr := []
  /-- what the last register read with an answer of its own returned to the host (R6, R373) -/
  busRead : Nat := 0
  /-- register fields that differ from their reset value, by `Field.key` -/
  regs : SMap Nat := []
  hif : Hif := {}
  com : List Com := []
  pkg : Pkg := {}
  fdies : List FDie := []
  ldies : List LDie := []
  /-- hand-off messages (R50) and their answers (R52) on the on-package links -/
  hand : List HandMsg := []
  back : List BackMsg := []
  /-- timetable parameters on their way to an L-die (R63): destination and content -/
  ttPub : List (Nat × TtParams) := []
  /-- partition tables on their way to an F-die (R20) -/
  partPub : List (Nat × List (Nat × Nat)) := []
  /-- mirror messages and confirmations on the links of the pairs (R256): destination and sequence number -/
  mirrors : List MirMsg := []
  confirms : List (Nat × Nat) := []
  /-- contribution messages (R171), remote ledger accesses and responses (R284) that have reached the package of
  their destination -/
  ledMsgs : List LedMsg := []
  deriving DecidableEq, Repr

/-- The package right after reset: an SG4-F2L2 whose dies are in reset (R348), every register at its reset value, boot flash and
NAND blank, the fuses as they leave manufacture (assumption log 8). -/
def State.reset : State :=
  { variant := .f2l2, com := List.replicate 4 {}, fdies := List.replicate 2 {}, ldies := List.replicate 2 {} }

end Sys2Proof.Machine
end

