-- ==== Sys2Proof/Machine/Ops.lean ====
section
/-! DEFINITION. The named operations every meaning is written over: dies, registers, counters, device time, free
values, and the raising of events (R8, R13, R17, R374 to R379). -/

namespace Sys2Proof.Machine

/-- What a meaning answers. -/
abbrev Res := Host.Outcome State Fault Refusal

/-! ### Dies -/

def State.nL (s : State) : Nat := s.variant.lDies
def State.nDies (s : State) : Nat := s.variant.lDies + s.variant.fDies
/-- Die `d` is an L-die of the package (R2). -/
def State.isL (s : State) (d : Nat) : Bool := decide (d < s.variant.lDies)
/-- Die `d` is an F-die of the package (R2). -/
def State.isF (s : State) (d : Nat) : Bool :=
  decide (s.variant.lDies ≤ d) && decide (d < s.variant.lDies + s.variant.fDies)
/-- Die `d` carries a host port: L0, and L1 where it exists (R200). -/
def State.isPort (s : State) (d : Nat) : Bool := s.isL d && decide (d < 2)

/-- The die index of F-die number `f` (F0, F1). -/
def State.fIndex (s : State) (f : Nat) : Nat := s.variant.lDies + f

def State.com1 (s : State) (d : Nat) : Com := s.com.getD d {}
def State.l (s : State) (d : Nat) : LDie := s.ldies.getD d {}
def State.f (s : State) (d : Nat) : FDie := s.fdies.getD (d - s.variant.lDies) {}

/-- A list with its element `d` set; the elements that it does not list are the default. -/
def setAt {α : Type} (dflt : α) : List α → Nat → α → List α
  | [], 0, x => [x]
  | _ :: t, 0, x => x :: t
  | [], d + 1, x => dflt :: setAt dflt [] d x
  | y :: t, d + 1, x => y :: setAt dflt t d x

def State.setCom (s : State) (d : Nat) (c : Com) : State := { s with com := setAt {} s.com d c }
def State.setL (s : State) (d : Nat) (x : LDie) : State := { s with ldies := setAt {} s.ldies d x }
def State.setFd (s : State) (d : Nat) (x : FDie) : State :=
  { s with fdies := setAt {} s.fdies (d - s.variant.lDies) x }
def State.rad (s : State) (d : Nat) : Radio := (s.f d).radio
def State.setRad (s : State) (d : Nat) (r : Radio) : State := s.setFd d { s.f d with radio := r }

/-- What no command changes: the silicon, the commands that wait, and the time, which passes while none waits. -/
def State.settle (s t : State) : State := { t with variant := s.variant, pending := s.pending, now := s.now }

/-- A meaning that acts at the package as a whole. -/
def onAll (s t : State) : Res := .next (s.settle t)
/-- A meaning that acts at an L-die: a command at a die that is none stops (no such unit). -/
def onL (s : State) (d : Nat) (t : State) : Res := if s.isL d then .next (s.settle t) else .fault .absentUnit
/-- A meaning that acts at an F-die. -/
def onF (s : State) (d : Nat) (t : State) : Res := if s.isF d then .next (s.settle t) else .fault .absentUnit
/-- A meaning that acts at a die with a host port. -/
def onPort (s : State) (d : Nat) (t : State) : Res := if s.isPort d then .next (s.settle t) else .fault .absentUnit
/-- A meaning that acts at any die. -/
def onDie (s : State) (d : Nat) (t : State) : Res :=
  if d < s.nDies then .next (s.settle t) else .fault .absentUnit

/-- A byte of the DRAM of L-die `l` at an offset; one that nothing has written there since reset is a free value (assumption log
64). -/
def State.dramByte (s : State) (l a : Nat) : Byte := smGetD (s.l l).dram (Config.dramByte l a) a

/-- A brown-out holds the frames of an L-die: their verdicts are not late ones (R23, R336). -/
def State.holdFrames (s : State) (d : Nat) : State :=
  let x := s.l d
  s.setL d { x with sec := { x.sec with
    frames := x.sec.frames.map (fun f => { f with held := true })
    headEnd := x.sec.headEnd.map (fun f => { f with held := true }) } }

/-! ### Register fields -/

/-- The default class of an event source (R375, R376): 0 F, 1 W, 2 N; `none` for a reserved number (R377). -/
def evtClassL (n : Nat) : Option Nat :=
  if n ∈ [6, 12, 13, 16, 18, 22, 23, 26, 78, 105, 107, 114, 117, 129, 133, 136, 140] then some 0
  else if n ∈ [0, 5, 8, 9, 14, 15, 17, 20, 21, 24, 25, 27, 29, 30, 32, 33, 34, 35, 38, 65, 72, 73, 75, 80, 81, 83,
    84, 85, 91, 97, 98, 99, 102, 103, 106, 112, 113, 115, 116, 119, 120, 122, 123, 124, 128, 130, 131, 135, 138,
    141] then some 1
  else if n ∈ [4, 7, 19, 28, 36, 37, 39, 64, 66, 67, 68, 69, 70, 71, 74, 76, 77, 79, 82, 86, 88, 89, 90, 92, 96,
    100, 101, 104, 108, 118, 121, 125, 126, 132, 134, 137, 139, 142, 143] then some 2
  else none

/-- The default class of an F-die source (R376). -/
def evtClassF (n : Nat) : Option Nat :=
  if n ∈ [12, 13, 16, 22, 23, 26, 34, 35, 43, 66] then some 0
  else if n ∈ [0, 14, 15, 17, 20, 21, 24, 25, 29, 30, 32, 33, 37, 38, 40, 41, 42, 45, 46, 47, 49, 50, 52, 53, 55,
    56, 57, 64, 65, 73, 75] then some 1
  else if n ∈ [4, 19, 28, 36, 39, 44, 48, 51, 54, 72, 74, 76] then some 2
  else if 80 ≤ n ∧ n ≤ 95 then some 2
  else none

/-- The default class of source `n` of die `d`, `none` for a reserved source (R377). -/
def State.evtDefault (s : State) (d n : Nat) : Option Nat := if s.isL d then evtClassL n else evtClassF n

/-- Reset values that the spec gives per copy, die or variant rather than as one number. -/
def resetFor (v : Variant) (d : Nat) (f : Field) (i : Nat) : Nat :=
  let isL := decide (d < v.lDies)
  let evt := if isL then evtClassL i else evtClassF i
  if f.reset < 2 ^ 32 then f.reset
  else match f.reset - 2 ^ 32 with
    | 0 => Config.revision
    | 1 => b2n (!isL && decide (d < v.lDies + v.fDies))
    | 2 => d
    | 3 => v.code
    | 4 => evt.getD 0
    | 5 => b2n evt.isSome
    | 6 => [10, 15, 60, 100].getD i 0
    | 7 => [10, 50, 500, 3000].getD i 0
    | 8 => [256, 512, 2048, 1024].getD i 0
    | 9 => b2n (v == .f2l2)
    | 10 => if i = 1 then 7 else 0
    | 11 => if isL && decide (2 ≤ d) then 0x8FFF else 0xFFFF
    | 12 => if isL && decide (2 ≤ d) then 0x8FFF else 0xFFFF
    | _ => d

/-- The reset value of copy `i` of a field on die `d` of this package. -/
def State.resetOf (s : State) (d : Nat) (f : Field) (i : Nat) : Nat := resetFor s.variant d f i

/-- The value of copy `i` of a field on die `d`. -/
def State.get (s : State) (d : Nat) (f : Field) (i : Nat := 0) : Nat :=
  smGetD s.regs (s.resetOf d f i) (f.key d i)

/-- A field that is a flag. -/
def State.flag (s : State) (d : Nat) (f : Field) (i : Nat := 0) : Bool := s.get d f i != 0

/-- Set copy `i` of a field on die `d`, cut to the field's width. -/
def State.put (s : State) (d : Nat) (f : Field) (v : Nat) (i : Nat := 0) : State :=
  { s with regs := smSet s.regs (s.resetOf d f i) (f.key d i) (v % 2 ^ f.width) }

/-- Set a flag. -/
def State.putB (s : State) (d : Nat) (f : Field) (b : Bool) (i : Nat := 0) : State := s.put d f (b2n b) i

/-- Set a signed field. -/
def State.putZ (s : State) (d : Nat) (f : Field) (z : Int) (i : Nat := 0) : State :=
  s.put d f (ofSigned f.width z) i

/-- The value of a signed field. -/
def State.getZ (s : State) (d : Nat) (f : Field) (i : Nat := 0) : Int := toSigned f.width (s.get d f i)

/-- A 64-bit value held in two words, low and high. -/
def State.get2 (s : State) (d : Nat) (lo hi : Field) (i : Nat := 0) : Nat :=
  s.get d lo i + 2 ^ 32 * s.get d hi i

def State.put2 (s : State) (d : Nat) (lo hi : Field) (v : Nat) (i : Nat := 0) : State :=
  (s.put d lo (v % 2 ^ 32) i).put d hi (v / 2 ^ 32) i

/-- Count `k` on a counter register, which saturates (R8). -/
def State.inc (s : State) (d : Nat) (f : Field) (k : Nat := 1) (i : Nat := 0) : State :=
  s.put d f (satAdd32 (s.get d f i) k) i

/-! ### Pairs and roles (R4, R252 to R254) -/

/-- Paired mode: fixed on the SG4-F2L2 and SG4-F1L1, else MIRR_CFG.paired (of L0; one value per package). -/
def State.paired (s : State) : Bool :=
  match s.variant with
  | .f1l1 => false
  | .f2l2 => true
  | .l4 => s.flag 0 MIRR_CFG_paired
  | .l8 => s.flag 0 MIRR_CFG_paired

/-- The other die of an L-die's pair. -/
def partnerOf (d : Nat) : Nat := if d % 2 = 0 then d + 1 else d - 1

/-- MIRR_STAT.role (R254): 0 Single, 1 Active, 2 Substitute, 3 Resyncing, 4 Fenced, 5 Failed, 6 Updating. -/
def State.role (s : State) (d : Nat) : Nat := s.get d MIRR_STAT_role

/-- The die serves meters: Single or Active. -/
def State.serving (s : State) (d : Nat) : Bool := s.isL d && (s.role d = 0 || s.role d = 1)

/-- A meter handle is valid (R10): bits [31:23] zero, the owning die an L-die of the package, and in paired mode
not the second die of its pair (R253). -/
def State.handleOk (s : State) (h : Nat) : Bool :=
  decide (h < 2 ^ 23) && s.isL (h / 2 ^ 20) && !(s.paired && decide (h / 2 ^ 20 % 2 = 1))

/-- The die that serves a handle now: the die it names, or in paired mode the Active die of its pair (R253). -/
def State.handleDie (s : State) (h : Nat) : Option Nat :=
  let d := h / 2 ^ 20
  if !s.handleOk h then none
  else if s.serving d && !(s.paired && s.role d = 0 && s.role (partnerOf d) = 1) then some d
  else if s.paired && s.serving (partnerOf d) then some (partnerOf d)
  else none

/-- The L-dies that serve now. -/
def State.servingDies (s : State) : List Nat := (List.range s.nL).filter s.serving

/-! ### Power (R321, R328, R335, R339) -/

/-- The bring-up stage of a die lets its domain `n` be used (R348, R354): none before Loaded, from there SYS, PWR, CLK, LOCK and
AGE, from Memory on every one; in Remedial mode those and HIF. -/
def stageDom (stage n : Nat) : Bool :=
  if stage = 15 then n == 0 || n == 1 || n == 2 || n == 12
  else if n ≤ 2 then decide (2 ≤ stage)
  else decide (3 ≤ stage)

/-- Domain `n` of die `d` is powered and accessible (PWR_DOM_STAT). -/
def State.domOn (s : State) (d n : Nat) : Bool :=
  (s.get d PWR_DOM_STAT_on).testBit n && stageDom (s.get d SYS_BOOT_stage) n

/-- The data path of a die stands still: a brown-out warning is in force, or it is halted by a trip or the loss of CLK_REF. -/
def State.stopped (s : State) (d : Nat) : Bool := s.flag d PWR_STAT_bo_warn || (s.com1 d).pwr.halted

/-- R_eff of R189 in updates per 700 us: 1.9 per us at full rate, 0.7 and 0.4 of it in thermal stages 1 and 2 (R339), and
6/7 of that while the data-path divider is 7 (R328). -/
def State.rEff (s : State) (d : Nat) : Nat :=
  let k := if s.get d PWR_STAT_stage = 0 then 1330 else if s.get d PWR_STAT_stage = 1 then 931 else 532
  if s.flag d AGE_STAT_clk_derated then k * 6 / 7 else k

/-! ### Time and free values -/

/-- Device time of die `d` in ticks (R13). -/
def State.devTime (s : State) (d : Nat) : Nat := (s.com1 d).clk / 10 ^ 9

/-- A free value below `n` (`n` > 0), and the state after the use. -/
def State.freeBelow (s : State) (n : Nat) : Nat × State :=
  (Config.freeNat s.free % n, { s with free := s.free + 1 })

/-- `n` random bytes of the random number generator, and the state after the draw. -/
def State.randomBytes (s : State) (n : Nat) : Bytes × State :=
  ((List.range n).map (Config.randomByte s.free), { s with free := s.free + 1 })

/-- At most once in any interval of `dt` ticks: may it happen now, `last` being when it last happened? -/
def limiterOpen (last : Option Nat) (now dt : Nat) : Bool :=
  match last with
  | none => true
  | some t => decide (t + dt ≤ now)

/-- The device has passed instant `t` (an instant of the monotonic clock `now`). -/
def State.due (s : State) (t : Nat) : Bool := decide (t ≤ s.now)

/-! ### Host ports, MSI-X -/

/-- Port 1 (B) exists only where L1 does (R200). -/
def State.portPresent (s : State) (p : Nat) : Bool := decide (p < 2) && s.isL p

def State.linkUp (s : State) (p : Nat) : Bool :=
  if p = 0 then s.flag 0 HIF_STAT_a_up else s.flag 0 HIF_STAT_b_up

/-- HIF_PORT.mode, 3 acting as 0 (R201). -/
def State.portMode (s : State) : Nat := if s.get 0 HIF_PORT_mode = 3 then 0 else s.get 0 HIF_PORT_mode

/-- The port that serves ring group `g` (R201). -/
def State.groupPort (s : State) (g : Nat) : Nat :=
  if s.portMode = 2 then s.get 0 HIF_GRPn_CTRL_port g
  else if s.portMode = 1 then s.get 0 HIF_STAT_active
  else 0

/-- Write bytes to the memory of the host on port `p` (R203: posted writes). An unlisted byte is one the device
has not written. -/
def hostWrite (m : SMap Byte) (p : Nat) (addr : Nat) : Bytes → SMap Byte
  | [] => m
  | b :: bs => hostWrite (smPut m (2 ^ 64 * p + addr % 2 ^ 64) b) p (addr + 1) bs

def State.toHost (s : State) (p addr : Nat) (bs : Bytes) : State :=
  { s with hif := { s.hif with hostOut := hostWrite s.hif.hostOut p addr bs } }

/-- Word `w` of an MSI-X table entry (0, 1 address; 2 data; 3 vector control, bit 0 mask, set at reset). -/
def State.msixWord (s : State) (p v w : Nat) : Nat :=
  smGetD s.hif.msixTable (if w = 3 then 1 else 0) (256 * p + 4 * v + w)

/-- Signal MSI-X vector `v` of port `p`: a signal to a port that is down is lost (R379); a masked vector sets its
pending bit (R221). -/
def State.signal (s : State) (p v : Nat) : State :=
  if !(s.portPresent p && s.linkUp p) then s
  else if s.msixWord p v 3 % 2 = 1 then
    { s with hif := { s.hif with msixPend := smSet s.hif.msixPend false (64 * p + v) true } }
  else
    let a := s.msixWord p v 0 + 2 ^ 32 * s.msixWord p v 1
    let s := s.toHost p a (leBytes 4 (s.msixWord p v 2))
    { s with hif := { s.hif with
        msixSent := smSet s.hif.msixSent 0 (64 * p + v) (smGetD s.hif.msixSent 0 (64 * p + v) + 1) } }

/-! ### Completion rings: room (R209) -/

def State.grp (s : State) (g : Nat) : Grp := smGetD s.hif.groups {} g
def State.setGrp (s : State) (g : Nat) (x : Grp) : State :=
  { s with hif := { s.hif with groups := smSet s.hif.groups {} g x } }

/-- Entries of a CQ. -/
def State.cqSize (s : State) (g : Nat) : Nat := 2 ^ s.get 0 HIF_GRPn_SIZE_cq_log2 g
def State.sqSize (s : State) (g : Nat) : Nat := 2 ^ s.get 0 HIF_GRPn_SIZE_sq_log2 g

/-- Entries written and not yet freed by the host. -/
def State.cqUsed (s : State) (g : Nat) : Nat :=
  (s.get 0 HIF_GRPn_CQ_TAIL_tail g + s.cqSize g - (s.grp g).cqHead) % s.cqSize g

/-- Free entries: one stays unused, so that a full ring differs from an empty one. -/
def State.cqFree (s : State) (g : Nat) : Nat := s.cqSize g - 1 - s.cqUsed g

/-- The CQ can take a completion of `n` entries now (R209). -/
def State.cqRoom (s : State) (g n : Nat) : Bool :=
  s.get 0 HIF_GRPn_STAT_cq_state g == 1 && s.linkUp (s.groupPort g) && decide (n ≤ s.cqFree g)

/-! ### Events (R374 to R379) -/

/-- No source named: the value of the handle field (R375). -/
def noHandle : Nat := 0xFFFFFFFF

/-- An argument value at its offset in the eight args bytes (R219, R375). -/
def arg (off v : Nat) : Nat := v * 2 ^ (8 * off)

/-- The ports whose event entries a raise produces (R206, R378): the ports HIF_EVT enables, or, while a port
serving the host has none enabled, that port, which holds the raise. -/
def State.evtPorts (s : State) : List Nat :=
  let serving (p : Nat) : Bool :=
    s.portPresent p && (s.portMode = 2 || p = (if s.portMode = 1 then s.get 0 HIF_STAT_active else 0))
  let enabled (p : Nat) : Bool :=
    s.portPresent p && (p = 0 || s.portMode != 0) && s.flag 0 (if p = 0 then HIF_EVT_en_a else HIF_EVT_en_b)
  [0, 1].filter fun p => serving p || enabled p

/-- The event CQ of a port, if HIF_EVT enables one. -/
def State.evtGroup (s : State) (p : Nat) : Option Nat :=
  if p = 0 then (if s.flag 0 HIF_EVT_en_a then some (s.get 0 HIF_EVT_group_a) else none)
  else (if s.flag 0 HIF_EVT_en_b then some (s.get 0 HIF_EVT_group_b) else none)

/-- The event CQ of a port counts as full (R209, R378). -/
def State.evtFull (s : State) (p : Nat) : Bool :=
  match s.evtGroup p with
  | none => true
  | some g => !s.cqRoom g 1

/-- Add the raises of an entry to the first waiting entry of its source (R219), if there is one. -/
def coalesce (w : EvtWait) : List EvtWait → Option (List EvtWait)
  | [] => none
  | x :: xs =>
    if x.port = w.port ∧ x.die = w.die ∧ x.src = w.src then some ({ x with count := min (x.count + w.count) 0xFFFF } :: xs)
    else (coalesce w xs).map (x :: ·)

/-- The count of the entry that already waits for a source. -/
def waitingCount (w : EvtWait) (l : List EvtWait) : Nat :=
  match l.find? (fun x => decide (x.port = w.port ∧ x.die = w.die ∧ x.src = w.src)) with
  | some x => x.count
  | none => 0

/-- The CQ group that takes item completions of a class (R206). -/
def State.classGroup (s : State) (c : Nat) : Nat :=
  match c with
  | 0 => s.get 0 HIF_CLASS_sc0_group
  | 1 => s.get 0 HIF_CLASS_sc1_group
  | 2 => s.get 0 HIF_CLASS_sc2_group
  | _ => s.get 0 HIF_CLASS_sc3_group

/-- Entries of a packet's completion (R218). -/
def Packet.entries (p : Packet) : Nat := 1 + (p.payload.length - 7 + 62) / 63

/-- The entries of the next item completion for a CQ: the first item that is ready for delivery (R192, R206). -/
def State.itemNeed (s : State) (g : Nat) : Option Nat :=
  [0, 1, 2, 3].findSome? (fun c => if s.classGroup c ≠ g then none
    else s.servingDies.findSome? (fun d => match ((s.l d).ques.getD c {}).packets with
      | p :: _ => if p.applied && p.part == .head then some p.entries else none
      | [] => none))

/-- The entries of the next completion waiting for a CQ, 0 while none waits (R209). -/
def State.cqNeed (s : State) (g : Nat) : Nat :=
  match (s.grp g).waiting with
  | c :: _ => 1 + c.exts.length
  | [] => if s.hif.evtWait.any (fun w => s.evtGroup w.port == some g) then 1 else (s.itemNeed g).getD 0

/-- Time a CQ has spent full (R209): since when it is full now, and the milliseconds of a time that has ended. -/
def State.fullTrack (s : State) (g : Nat) : State :=
  let x := s.grp g
  match x.fullSince, s.get 0 HIF_GRPn_STAT_cq_state g == 1 && decide (s.cqFree g < s.cqNeed g) with
  | none, true => s.setGrp g { x with fullSince := some s.now }
  | some t, false => (s.inc 0 HIF_GRPn_HELD_CNT ((s.now - t) / Config.tMs) g).setGrp g { x with fullSince := none }
  | _, _ => s

/-- Queue an event entry for one port, or add it to the entry that waits while the CQ is full (R219, R378). -/
def State.evtEnqueue (s : State) (w : EvtWait) : State :=
  let app : State := { s with hif := { s.hif with evtWait := s.hif.evtWait ++ [w] } }
  if s.evtFull w.port then
    match coalesce w s.hif.evtWait with
    | none => app
    | some l =>
      let s' := if waitingCount w s.hif.evtWait = 0xFFFF then s.inc w.die EVT_SAT_CNT else s.inc w.die EVT_COALESCE_CNT w.count
      { s' with hif := { s'.hif with evtWait := l } }
  else app

/-- A CQ that has become full holds back at most one waiting entry per source (R219): later entries of a source join its first. -/
def State.evtMerge (s : State) : State :=
  s.hif.evtWait.foldl (fun s w => s.evtEnqueue w) { s with hif := { s.hif with evtWait := [] } }

/-- The entries of one raise reach the host port die (R378). -/
def State.evtArrive (s : State) (m : EvtMsg) : State :=
  let s := if m.ring then
      s.evtPorts.foldl (fun s p => s.evtEnqueue ⟨p, m.die, m.src, 1, m.time, m.handle, m.args⟩) s
    else s
  match m.direct with
  | none => s
  | some (p, v) => s.signal p v

/-- Raise event source `n` of die `d` (R378, R379). A reserved source never raises (R377). A die without a port
sends the raise to the host port die. -/
def State.raise (s : State) (d n : Nat) (args : Nat := 0) (handle : Nat := noHandle) : State :=
  if (s.evtDefault d n).isNone then s
  else
    let en := s.flag d EVT_SRCs_en n
    let dir := s.flag d EVT_SRCs_direct n
    let was := bit (s.get d EVT_PENDw_pend (n / 32)) (n % 32)
    let s1 := if en then s.inc d EVT_RAISE_CNT else s
    let s2 := if dir then s1.put d EVT_PENDw_pend (s1.get d EVT_PENDw_pend (n / 32) ||| 2 ^ (n % 32)) (n / 32) else s1
    let m : EvtMsg := ⟨d, n, s.devTime d, handle, args, en,
      if dir && !was then some (s.get d EVT_SRCs_port n, s.get d EVT_SRCs_vector n) else none⟩
    if !en && m.direct.isNone then s2
    else if s.isPort d then s2.evtArrive m
    else { s2 with hif := { s2.hif with evtNet := s2.hif.evtNet ++ [m] } }

end Sys2Proof.Machine
end

