-- ==== Sys2Proof/Machine/HostOps.lean ====
section
/-! DEFINITION. Shared operations of the host interface: the completion of a command (R217), progress entries
(R220), and the fields of a submission entry (R211). -/

namespace Sys2Proof.Machine


/-- The submission completion of R217, without its phase byte; sq_head is filled at the write. -/
def subCpl (status tag opcode group target : Nat) (result : Bytes) : Cpl :=
  let b := leBytes 1 0x30 ++ leBytes 1 0 ++ leBytes 2 status ++ leBytes 4 tag ++ leBytes 1 opcode ++ leBytes 1 0
    ++ leBytes 2 group ++ leBytes 4 target ++ slice result 0 40 ++ leBytes 2 0 ++ leBytes 5 0
  { first := b, exts := [], atOnce := status != 0, isSub := true, item := none }

def State.pushCpl (s : State) (g : Nat) (c : Cpl) : State :=
  (s.setGrp g { s.grp g with waiting := (s.grp g).waiting ++ [c] }).fullTrack g

def State.cmd (s : State) (id : Nat) : Option Cmd := s.hif.inflight.find? (fun c => c.id == id)

def State.dropCmd (s : State) (id : Nat) : State :=
  { s with hif := { s.hif with inflight := s.hif.inflight.filter (fun c => c.id != id) } }

/-- Complete command `id` with a status and a result area (R217); `target` replaces the entry's target where the
opcode reports a handle: a submission's entry names none, so that a completion without a verdict reports that there is none. A command no longer in flight is not completed again. -/
def State.completeT (s : State) (id status : Nat) (result : Bytes) (target : Option Nat) : State :=
  match s.cmd id with
  | none => s
  | some c =>
    (s.dropCmd id).pushCpl c.group
      { subCpl status (leField c.entry 4 4) c.opcode c.group
        (target.getD (if c.opcode = 0x81 then noHandle else leField c.entry 8 4)) result with id := some id }

def State.complete (s : State) (id status : Nat) (result : Bytes := []) : State :=
  s.completeT id status result none

/-- The oldest command in flight of an opcode at a die that may start now: commands of one SQ to one die begin in
fetch order, and a fenced one waits for every earlier entry of its SQ (R211). The entries of downlinks and submissions hold no fence
bit (R213, R215). -/
def State.startable (s : State) (c : Cmd) : Bool :=
  let earlier := s.hif.inflight.filter (fun x => x.id < c.id && x.group == c.group)
  if c.opcode != 0x80 && c.opcode != 0x81 && bit (leField c.entry 1 1) 0 then earlier.isEmpty
  else earlier.all (fun x => x.die != c.die || x.started || x.opcode == 0x80 || x.opcode == 0x81)

def State.nextCmd (s : State) (d opcode : Nat) : Option Cmd :=
  s.hif.inflight.find? (fun c => c.die == d && c.opcode == opcode && !c.started && s.startable c)

/-- Mark a long operation's command as started. -/
def State.markStarted (s : State) (id : Nat) : State :=
  { s with hif := { s.hif with
      inflight := s.hif.inflight.map (fun c => if c.id = id then { c with started := true } else c) } }

/-- A little-endian operand of a command entry (R211: offsets count from the start of the entry). -/
def Cmd.op (c : Cmd) (off size : Nat) : Nat := leField c.entry off size
def Cmd.tag (c : Cmd) : Nat := leField c.entry 4 4
def Cmd.target (c : Cmd) : Nat := leField c.entry 8 4
/-- The record slot of a handle target (R10). -/
def Cmd.slot (c : Cmd) : Nat := c.target % 2 ^ 20

/-! ### Writing into a CQ (R207, R208, R226) -/

/-- Bases of a group's rings in host memory. -/
def State.sqBase (s : State) (g : Nat) : Nat := s.get2 0 HIF_GRPn_SQ_LO_base_lo HIF_GRPn_SQ_HI_base_hi g
def State.cqBase (s : State) (g : Nat) : Nat := s.get2 0 HIF_GRPn_CQ_LO_base_lo HIF_GRPn_CQ_HI_base_hi g

/-- The state of the host interface goes to the other port die, at every doorbell and every CQ reservation (R226). -/
def State.hifMirror (s : State) : State :=
  let heads := (List.range 256).filterMap (fun g =>
    let h := s.get 0 HIF_GRPn_SQ_HEAD_head g
    if h = 0 then none else some (g, h))
  { s with hif := { s.hif with mirHeads := heads, mirNext := s.hif.nextId } }

/-- One 64-byte entry at ring position `pos` (counted past the end of the ring) with the phase of its pass. -/
def State.cqEntry (s : State) (g pos phase : Nat) (b : Bytes) : State :=
  let n := s.cqSize g
  let ph := if pos < n then phase else 1 - phase
  s.toHost (s.groupPort g) (s.cqBase g + 64 * (pos % n)) (slice b 0 63 ++ leBytes 1 ph)

/-- Write a completion: its positions are reserved, then its continuations are written, then its first entry (R208, R226). -/
def State.cqWrite (s : State) (g : Nat) (c : Cpl) : State :=
  let s := s.hifMirror
  let t := s.get 0 HIF_GRPn_CQ_TAIL_tail g
  let ph := s.get 0 HIF_GRPn_CQ_TAIL_phase g
  let n := s.cqSize g
  let k := 1 + c.exts.length
  let first := if c.isSub then putBytes (slice c.first 0 63) 56 (leBytes 2 (s.get 0 HIF_GRPn_SQ_HEAD_head g)) else c.first
  let s := (c.exts.zipIdx).foldl (fun s e => s.cqEntry g (t + 1 + e.2) ph e.1) s
  let s := s.cqEntry g t ph first
  let s := (s.put 0 HIF_GRPn_CQ_TAIL_tail ((t + k) % n) g).put 0 HIF_GRPn_CQ_TAIL_phase (if t + k < n then ph else 1 - ph) g
  let s := s.inc 0 HIF_CPL_CNT
  let x := s.grp g
  s.setGrp g { x with
    unsig := x.unsig + k, unsigSince := if x.unsig = 0 then s.now else x.unsigSince,
    unsigNow := x.unsigNow || c.atOnce, unconf := x.unconf ++ [(t, ph, c)] }

/-! ### Long operations (R220) -/

def State.longOp (s : State) (d opcode : Nat) : Option LongOp :=
  s.hif.longOps.find? (fun o => o.die == d && o.opcode == opcode)

def State.setLong (s : State) (o : LongOp) : State :=
  { s with hif := { s.hif with
      longOps := s.hif.longOps.map (fun x => if x.die = o.die ∧ x.opcode = o.opcode then o else x) } }

def State.dropLong (s : State) (d opcode : Nat) : State :=
  { s with hif := { s.hif with longOps := s.hif.longOps.filter (fun x => !(x.die == d && x.opcode == opcode)) } }

/-- The progress entry of R220. -/
def progCpl (s : State) (c : Cmd) (o : LongOp) (st : Nat) : Cpl :=
  { first := leBytes 1 0x41 ++ leBytes 1 0 ++ leBytes 2 0 ++ leBytes 4 c.tag ++ leBytes 1 c.opcode ++ leBytes 1 o.die
      ++ leBytes 2 c.group ++ leBytes 1 st ++ leBytes 1 o.percent ++ leBytes 2 0 ++ leBytes 8 o.pos ++ leBytes 8 o.pos2
      ++ leBytes 4 o.countA ++ leBytes 4 o.countB ++ leBytes 8 (s.devTime o.die) ++ leBytes 15 0,
    exts := [], atOnce := false, isSub := false, item := none }

/-- Write a progress entry for a long operation: state 0 running, 1 done, 2 aborted. -/
def State.progress (s : State) (o : LongOp) (st : Nat) : State :=
  match s.cmd o.cmd with
  | none => s
  | some c =>
    (s.pushCpl c.group (progCpl s c o st)).setLong { o with repPct := o.percent, repTime := s.now }

/-- Start a long operation: its command counts as begun and the progress entry with percent 0 is written. -/
def State.startLong (s : State) (o : LongOp) : State :=
  let s := s.markStarted o.cmd
  let s := { s with hif := { s.hif with longOps := s.hif.longOps ++ [o] } }
  s.progress o 0

/-- Mark a long operation as finished with a status; LONG_OPERATION_COMPLETE writes its entries. -/
def State.finishLong (s : State) (o : LongOp) (status : Nat) : State := s.setLong { o with done := some status }

end Sys2Proof.Machine
end

