-- ==== Sys2Proof/Machine/Records.lean ====
section
/-! DEFINITION. Meter records: the fields of R143, the fetch check of R144, the record update, and the mirror message
an update puts together (R27, R255); appending to the archive log (R232). -/

namespace Sys2Proof.Machine

/-- The offset and size of a record field (R143). -/
abbrev RF := Nat × Nat

def rHandle : RF := (0, 4)
def rIdentity : RF := (4, 8)
def rIdKind : RF := (12, 1)
def rState : RF := (13, 1)
def rKind : RF := (14, 1)
def rFlags : RF := (15, 1)
def rProgram : RF := (16, 2)
def rUnit : RF := (18, 1)
def rSeq : RF := (20, 4)
def rWmbMatch : RF := (24, 2)
def rBalHead : RF := (26, 2)
def rBalMember0 : RF := (28, 2)
def rBalMember1 : RF := (30, 2)
def rTt : RF := (32, 1)
def rPeriod : RF := (33, 1)
def rSlot : RF := (34, 2)
def rPhase : RF := (36, 1)
def rTtState : RF := (37, 1)
def rMisses : RF := (38, 1)
def rSamples : RF := (39, 1)
def rBEst : RF := (40, 4)
def rU : RF := (44, 4)
def rLastSeen : RF := (48, 8)
def rOowCount : RF := (56, 2)
def rTruantCount : RF := (58, 2)
def rStoredAck : RF := (60, 12)
def rSuite : RF := (72, 1)
def rKeyState : RF := (73, 1)
def rMinLevel : RF := (74, 1)
def rSecFlags : RF := (75, 1)
def rHwm : RF := (76, 4)
def rLastMic : RF := (80, 8)
def rLinkGen : RF := (88, 4)
def rSpareGen : RF := (92, 4)
def rStageTime : RF := (96, 8)
def rPrevHwm : RF := (104, 4)
def rDlCtr : RF := (108, 4)
def rPrevMic : RF := (112, 8)
def rPrevAck : RF := (120, 12)
def rReplayCount : RF := (132, 2)
def rBadMicCount : RF := (134, 2)
def rReplayEvt : RF := (136, 8)
def rPhaseHist : RF := (144, 4)
def rPhaseAsg : RF := (148, 1)
def rReadFlags : RF := (149, 1)
def rRejCount : RF := (150, 2)
def rLastIndex : RF := (152, 8)
def rLastReadLt : RF := (160, 8)
def rPeriodNo : RF := (168, 4)
def rIntOpen : RF := (172, 4)
def rIntAcc : RF := (176, 8)
def rMaxRate : RF := (184, 4)
def rTouNow : RF := (188, 1)
def rIntFlags : RF := (189, 1)
def rDigits : RF := (190, 1)
def rBalance : RF := (320, 8)
def rLow1 : RF := (328, 4)
def rLow2 : RF := (332, 4)
def rEcLimit : RF := (336, 4)
def rPpState : RF := (340, 1)
def rPpFlags : RF := (341, 1)
def rStateS : RF := (344, 4)
def rTopupSeq : RF := (348, 4)
def rLastTopupS : RF := (352, 4)
def rDebitCarry : RF := (356, 4)
def rPeriodStartLt : RF := (456, 8)
def rPwrState : RF := (464, 1)
def rPwrChangeS : RF := (468, 4)
def rBooked : RF := (472, 4)
def rCrc : RF := (508, 4)
/-- Time-of-use register `i`. -/
def rTou (i : Nat) : RF := (192 + 8 * (i % 8), 8)
/-- Maximum demand of register `i`: value and ledger second of the interval end. -/
def rMd (i : Nat) : RF := (256 + 8 * (i % 8), 4)
def rMdAt (i : Nat) : RF := (260 + 8 * (i % 8), 4)
/-- Tamper record `k`: count, first, last. -/
def rTamCount (k : Nat) : RF := (360 + 12 * (k % 8), 4)
def rTamFirst (k : Nat) : RF := (364 + 12 * (k % 8), 4)
def rTamLast (k : Nat) : RF := (368 + 12 * (k % 8), 4)

/-- A field of a record as a number. -/
def MRec.g (m : MRec) (f : RF) : Nat := leField m.bytes f.1 f.2
/-- A field of a record as stored bytes. -/
def MRec.gb (m : MRec) (f : RF) : Bytes := slice m.bytes f.1 f.2
/-- A signed field. -/
def MRec.gz (m : MRec) (f : RF) : Int := toSigned (8 * f.2) (m.g f)
def MRec.p (m : MRec) (f : RF) (v : Nat) : MRec := { m with bytes := putBytes m.bytes f.1 (leBytes f.2 v) }
def MRec.pb (m : MRec) (f : RF) (v : Bytes) : MRec := { m with bytes := putBytes m.bytes f.1 (slice v 0 f.2) }
def MRec.pz (m : MRec) (f : RF) (z : Int) : MRec := m.p f (ofSigned (8 * f.2) z)
/-- A bit of a flags field. -/
def MRec.bit (m : MRec) (f : RF) (k : Nat) : Bool := (m.g f).testBit k
def MRec.pbit (m : MRec) (f : RF) (k : Nat) (b : Bool) : MRec :=
  m.p f (if b then m.g f ||| 2 ^ k else m.g f - (if (m.g f).testBit k then 2 ^ k else 0))
/-- A saturating increment of a count field. -/
def MRec.incr (m : MRec) (f : RF) : MRec := m.p f (min (m.g f + 1) (2 ^ (8 * f.2) - 1))

def sealRec (b : Bytes) : Bytes := putBytes b 508 (leBytes 4 (ieee32 (b.take 508)))

/-- The handle by which the record slot of a die is named: in paired mode the first die of the pair (R253). -/
def State.slotHandle (s : State) (d slot : Nat) : Nat :=
  (if s.paired then d - d % 2 else d) * 2 ^ 20 + slot

/-- A Free record, as an unlisted slot holds it. -/
def freeRec (h : Nat) : MRec :=
  { bytes := sealRec (putBytes (putBytes (putBytes (fillBytes 512 0) 0 (leBytes 4 h)) 26 (fillBytes 6 0xFF)) 32 (fillBytes 1 0xFF)) }

def State.rawRec (s : State) (d slot : Nat) : MRec :=
  (smGet (s.l d).recs slot).getD (freeRec (s.slotHandle d slot))

/-- The two conditions of the fetch check (R144). -/
def fetchOk (m : MRec) (h : Nat) : Bool :=
  decide (m.g rCrc = ieee32 (m.bytes.take 508)) && decide (m.g rHandle = h)

/-! ### The mirror message of an update (R27, R255) -/

/-- Mirror messages are sent while the partner holds, or is being brought, the mirror set (R256, R264). -/
def State.mirroring (s : State) (d : Nat) : Bool :=
  s.role d = 1 && (s.get d MIRR_STAT_pair_state = 1 || s.get d MIRR_STAT_pair_state = 3)

def State.setMir (s : State) (d : Nat) (m : Mirror) : State := s.setL d { s.l d with mir := m }

/-- Add an item to the mirror message the present update of die `d` puts together. -/
def State.mirAdd (s : State) (d : Nat) (i : MirItem) : State :=
  if s.mirroring d then s.setMir d { (s.l d).mir with opened := (s.l d).mir.opened ++ [i] } else s

/-- Send the mirror message put together. -/
def State.mirSend (s : State) (d : Nat) : State :=
  let m := (s.l d).mir
  if m.opened.isEmpty then s
  else
    let s := s.inc d MIRR_SENT_CNT
    let s := { s with mirrors := s.mirrors ++ [MirMsg.mk d (partnerOf d) m.nextSeq s.now m.opened] }
    s.setMir d { m with
      nextSeq := m.nextSeq + 1, opened := [], outstanding := m.outstanding ++ [(m.nextSeq, s.now)]
      unconf := m.unconf ++ m.opened.filterMap (fun i => i.asPacket.map (fun p => (m.nextSeq, p.cls, p.seq))) }

/-! ### Fetch and update -/

def State.setRecs (s : State) (d : Nat) (r : SMap MRec) : State := s.setL d { s.l d with recs := r }

/-- Fetch a record under the fetch check (R144): a failing record is repaired from the substitute's copy. -/
def State.fetch (s : State) (d slot : Nat) : Option MRec × State :=
  let h := s.slotHandle d slot
  let m := s.rawRec d slot
  if fetchOk m h then (some m, s)
  else
    let p := partnerOf d
    let c := s.rawRec p slot
    if s.paired && s.isL p && s.role p = 2 && fetchOk c h then
      (some c, s.setRecs d (smPut (s.l d).recs slot c))
    else (none, (s.inc d LEDG_FAULT_CNT).raise d 78 0 h)

/-- One record update: rec_seq advances, rec_crc is made anew, and the change is mirrored (R143). -/
def State.update (s : State) (d slot : Nat) (m : MRec) : State :=
  let m := m.p rSeq (m.g rSeq + 1)
  let m := { m with bytes := sealRec m.bytes }
  (s.setRecs d (smPut (s.l d).recs slot m)).mirAdd d (.record slot m)

/-! ### Archive log (R232) -/

def State.setArc (s : State) (d : Nat) (a : Arc) : State := s.setL d { s.l d with arc := a }
def State.arc (s : State) (d : Nat) : Arc := (s.l d).arc

/-- Bytes of an entry in a page: header and body, a multiple of 8. -/
def arcLen (body : Bytes) : Nat := roundUp (16 + body.length) 8

/-- Put an entry at the end of the log, at the sequence number it carries. -/
def State.arcPut (s : State) (d : Nat) (e : ArcEntry) : State :=
  let a := s.arc d
  let n := arcLen e.body
  let s := (s.put2 d ARC_NEXT_LO_next_lo ARC_NEXT_HI_next_hi (e.seq + 1)).inc d ARC_APPEND_CNT
  s.setArc d { a with
    entries := a.entries ++ [{ e with arrived := s.now }], ckptLog := a.ckptLog + n,
    hourApp := a.hourApp + n, hourFull := a.hourFull + n,
    health := { a.health with appended := a.health.appended + n } }

def State.arcNext (s : State) (d : Nat) : Nat := s.get2 d ARC_NEXT_LO_next_lo ARC_NEXT_HI_next_hi

/-- Append an entry (ARCHIVE_ENTRY, R232); the substitute appends the same one from the mirror stream. -/
def State.arcAppend (s : State) (d kind flags handle lt : Nat) (body : Bytes) (src : Bytes := []) : State :=
  let e : ArcEntry := { seq := s.arcNext d, kind := kind, flags := flags, handle := handle, lt := lt, body := body, src := src }
  (s.arcPut d e).mirAdd d (.archive e)

/-- Put an amendment at the end of its stream (R235): 24 bytes. -/
def State.amendPut (s : State) (d : Nat) (m : Amend) : State :=
  let a := s.arc d
  s.setArc d { a with
    amends := a.amends ++ [{ m with arrived := s.now }], ckptLog := a.ckptLog + 24,
    hourApp := a.hourApp + 24, hourFull := a.hourFull + 24, health := { a.health with appended := a.health.appended + 24 } }

/-! ### Unprogrammed data (R232) -/

/-- What a sector is: 0 archive log, 1 interval column, 2 host namespace, 3 checkpoint, 4 mapping page, 5 amendment stream. -/
def keyKind (k : Nat) : Nat := k / 2 ^ 40
def keyNo (k : Nat) : Nat := k % 2 ^ 40

/-- Bytes of archive data that no verified page holds: entries, amendments, and column pages being written. -/
def Arc.unprogrammed (a : Arc) : Nat :=
  a.entries.foldl (fun n e => if a.onNand ≤ e.seq then n + arcLen e.body else n) 0 + 24 * (a.amends.length - a.amendNand)
    + 16384 * ((a.progs ++ a.blocked).filter (fun p => p.src.isNone && (p.keys.head?.map keyKind) == some 1)).length

/-- The unprogrammed data of a die leaves no room for another update's entries within the 2 MiB of R232: what would append waits. The
64 KiB kept free are more than one update appends. -/
def State.arcFull (s : State) (d : Nat) : Bool := decide (2 * 2 ^ 20 < (s.arc d).unprogrammed + 65536)

end Sys2Proof.Machine
end

