-- ==== Sys2Proof/Machine/ArcOps.lean ====
section
/-! DEFINITION. Shared operations of the archive controller (10_archive_storage): the block table, the namespaces and the spare pool
(R230, R246), the map and its cache (R231), the choice of blocks (R238), parity (R241, R242), writes and their relocation (R240, R244),
and retirement. -/

namespace Sys2Proof.Machine

/-! ### Sectors and their keys -/

/-- Page `n` of the archive log. -/
def keyPage (n : Nat) : Nat := 4 * n
/-- Sector `i` of a column: 1,024 sectors of values and one of its directory entry (R235). -/
def keyColumn (no i : Nat) : Nat := 2 ^ 40 + 1028 * no + i
def keyHost (n : Nat) : Nat := 2 * 2 ^ 40 + n
def keyCkpt (n : Nat) : Nat := 3 * 2 ^ 40 + 4 * n
def keyMap (n : Nat) : Nat := 4 * 2 ^ 40 + 4 * n
def keyAmend (n : Nat) : Nat := 5 * 2 ^ 40 + 4 * n
/-- The four sectors of a page. -/
def pageKeys (k : Nat) : List Nat := [k, k + 1, k + 2, k + 3]
/-- The page of its kind that a sector of the log, the checkpoints, the mapping pages or the amendments belongs to. -/
def keyPageNo (k : Nat) : Nat := keyNo k / 4
/-- Pages of a column. -/
def columnPages : Nat := 257
/-- The sectors of page `i` of a column. -/
def columnKeys (no i : Nat) : List Nat := ((List.range 4).map (fun j => 4 * i + j)).filterMap
  (fun j => if j < 1025 then some (keyColumn no j) else none)
/-- The mapping page that holds a sector's entry: 4,096 entries each. -/
def mapPage (k : Nat) : Nat := k / 4096

/-! ### Blocks -/

def Arc.blk (a : Arc) (b : Nat) : Blk := smGetD a.blocks {} b
def Arc.setBlk (a : Arc) (b : Nat) (x : Blk) : Arc := { a with blocks := smSet a.blocks {} b x }
def Arc.bpl (a : Arc) : Nat := match a.layout with
  | some l => max 1 l.blocksPerLun
  | none => 1
def Arc.luns (a : Arc) : Nat := match a.layout with
  | some l => l.luns
  | none => 0
/-- Pages of a block. -/
def Arc.cap (a : Arc) : Nat := match a.layout with
  | some l => l.blockSectors / 4
  | none => 0
/-- Pages of a word line (R240). -/
def Arc.lineOf (a : Arc) : Nat := match a.layout with
  | some l => if l.slc then 1 else 3
  | none => 1
def Arc.lunOf (a : Arc) (b : Nat) : Nat := b / a.bpl
def Arc.allBlocks (a : Arc) : List Nat := List.range (a.luns * a.bpl)
def Arc.goodBlocks (a : Arc) : List Nat := a.allBlocks.filter (fun b => (a.blk b).st != .bad)
/-- Valid sectors of a block, by key. -/
def Arc.validKeys (a : Arc) (b : Nat) : List Nat := (a.map.filter (fun e => e.2.blk == b)).map (·.1)
def Arc.valid (a : Arc) (b : Nat) : Nat := (a.validKeys b).length
/-- Writes in progress into a block, or copying out of it. -/
def Arc.busy (a : Arc) (b : Nat) : Bool := (a.progs ++ a.blocked).any (fun p => p.blk == b || p.src == some b)

/-- The free block of a LUN with the lowest erase count, then the lowest number (R238). -/
def Arc.freeBlock (a : Arc) (lun : Nat) : Option Nat :=
  (((List.range a.bpl).map (fun i => lun * a.bpl + i)).filter (fun b => (a.blk b).st == .free)).foldl
    (fun o b => match o with
      | none => some b
      | some c => if (a.blk b).ec < (a.blk c).ec then some b else some c) none

def Arc.freeCount (a : Arc) : Nat := (a.allBlocks.filter (fun b => (a.blk b).st == .free)).length

/-- Close a block of a stream. -/
def Arc.close (a : Arc) (b : Nat) : Arc :=
  { a.setBlk b { a.blk b with st := .closed, closeNo := a.closeNo } with closeNo := a.closeNo + 1 }

/-! ### Namespaces and the spare pool (R230, R246) -/

/-- The layout record is written in two copies. -/
def State.setLayout (s : State) (d : Nat) (l : Layout) : State :=
  s.setArc d { s.arc d with layout := some l, layout2 := some l }

def blockBytes (l : Layout) : Nat := l.blockSectors * 4096

/-- Blocks of the spare pool: 7 % of the raw blocks. -/
def Arc.pool (a : Arc) : Nat := (7 * a.allBlocks.length + 99) / 100

/-- Blocks of the archive namespace: all that the host namespace, the journal with its blocks, and the spare pool leave. -/
def State.logCap (s : State) (d : Nat) : Nat :=
  let a := s.arc d
  match a.layout with
  | none => 0
  | some l =>
    let bb := max 1 (blockBytes l)
    let host := (l.hostGib * 2 ^ 30 + bb - 1) / bb
    let jrn := (1024 * 2 ^ 20 + bb - 1) / bb + s.get d ARC_CFG_jrn_target * l.luns
    a.allBlocks.length - host - jrn - a.pool

/-- Data of the archive namespace: log, columns, amendments. -/
def isLogKey (k : Nat) : Bool := keyKind k == 0 || keyKind k == 1 || keyKind k == 5

/-- Blocks that the archive namespace uses. -/
def Arc.logBlocks (a : Arc) : Nat :=
  (a.allBlocks.filter (fun b => ((a.blk b).st == .opened && (a.blk b).stream == 0) || (a.validKeys b).any isLogKey)).length

/-- Blocks in the spare pool (R246): good free blocks beyond those that the namespaces need. -/
def State.spare (s : State) (d : Nat) : Nat :=
  let a := s.arc d
  min a.freeCount (a.goodBlocks.length + a.pool - a.allBlocks.length)

/-- Summary form in force (R246, R247): the governor's, forced by the host, or forced by a spare pool below its minimum. -/
def State.summaryCheck (s : State) (d : Nat) : State :=
  s.putB d ARC_STAT_summary ((s.arc d).govSummary || s.flag d ARC_CTRL_summary || s.flag d ARC_STAT_spare_min)

/-- The levels of R246, in 0.1 % of the raw blocks. -/
def State.spareCheck (s : State) (d : Nat) : State :=
  let raw := (s.arc d).allBlocks.length
  let sp := s.spare d
  let low := decide (sp * 1000 < s.get d ARC_SPARE_warn * raw)
  let min := decide (sp * 1000 < s.get d ARC_SPARE_min * raw)
  let s := if low && !s.flag d ARC_STAT_spare_warn then s.raise d 115 (arg 0 0) else s
  let s := s.putB d ARC_STAT_spare_warn low
  let s := if min && !s.flag d ARC_STAT_spare_min then s.raise d 115 (arg 0 1) else s
  (s.putB d ARC_STAT_spare_min min).summaryCheck d

/-! ### Room for a page (R238, R241, R242) -/

/-- Page `q` of a block on a LUN holds its row's parity: its position rotates with the row number. -/
def Arc.parityPage (a : Arc) (lun q : Nat) : Bool := a.luns != 0 && q % a.luns == lun

/-- The stripe of a stream that a fresh block on a LUN joins: the stream's present one, or a new one where it has that LUN already. -/
def Arc.stripeFor (a : Arc) (lun stream : Nat) : Nat × Arc :=
  let mine := a.blocks.filter (fun e => e.2.stream == stream && (e.2.st == .opened || e.2.st == .closed))
  match mine with
  | [] => (a.stripeNo, { a with stripeNo := a.stripeNo + 1 })
  | e :: es =>
    let top := es.foldl (fun n x => max n x.2.stripe) e.2.stripe
    if mine.any (fun x => x.2.stripe == top && a.lunOf x.1 == lun) then (a.stripeNo, { a with stripeNo := a.stripeNo + 1 })
    else (top, a)

/-- Take the next page of an open block; the parity pages passed over are given too. -/
def Arc.takePage (a : Arc) (b : Nat) : Option (Nat × List Nat × Arc) :=
  let x := a.blk b
  let par := x.full && a.parityPage (a.lunOf b) x.used && decide (x.used < a.cap)
  let q := if par then x.used + 1 else x.used
  let l := if par then [x.used] else []
  if q < a.cap then some (q, l, a.setBlk b { x with used := q + 1 }) else none

/-- Room for a page of a stream on a LUN: in its open block, or in a fresh one. `full` is the present parity mode, `fresh` says that the
stream may take a fresh block. The answer names block, page, parity pages to program, and the block table. -/
def Arc.room (a : Arc) (lun stream now : Nat) (full fresh : Bool) : Option (Nat × Nat × List (Nat × Nat) × Arc) :=
  let take (a : Arc) (par : List (Nat × Nat)) : Option (Nat × Nat × List (Nat × Nat) × Arc) :=
    match fresh, a.freeBlock lun with
    | true, some b =>
      let r := a.stripeFor lun stream
      let a := r.2.setBlk b { r.2.blk b with st := .opened, stream := stream, stripe := r.1, since := now, full := full, acc := true }
      (a.takePage b).map (fun p => (b, p.1, par ++ p.2.1.map (fun q => (b, q)), p.2.2))
    | _, _ => none
  match a.blocks.find? (fun e => e.2.st == .opened && e.2.stream == stream && a.lunOf e.1 == lun) with
  | none => take a []
  | some (b, x) =>
    if x.full != full || x.accLost then take (a.close b) []
    else match a.takePage b with
      | some p => some (b, p.1, p.2.1.map (fun q => (b, q)), p.2.2)
      | none => take (a.close b) (if x.full && a.parityPage (a.lunOf b) x.used && decide (x.used < a.cap) then [(b, x.used)] else [])

/-- Start a write on a LUN, or keep it waiting for a free block: the archive namespace takes fresh blocks up to its size (R230). -/
def State.arcStart (s : State) (d lun : Nat) (p : Prog) : State :=
  let a := s.arc d
  match a.room lun p.stream (s.devTime d) (s.flag d ARC_STAT_parity_full) (p.stream != 0 || decide (a.logBlocks < s.logCap d)) with
  | none => s.setArc d { a with blocked := a.blocked ++ [p] }
  | some (b, q, par, a) =>
    s.setArc d { a with progs := a.progs ++ par.map (fun x => { keys := [], stream := p.stream, blk := x.1, page := x.2 })
                                 ++ [{ p with blk := b, page := q }] }

/-- Start a write of an append stream: its rows run over the LUNs of the die, in an order the spec does not give. -/
def State.arcWrite (s : State) (d : Nat) (p : Prog) : State :=
  let r := s.freeBelow (max 1 (s.arc d).luns)
  r.2.arcStart d r.1 p

/-- Retry the writes that wait for a block. -/
def State.arcUnblock (s : State) (d : Nat) : State :=
  let l := (s.arc d).blocked
  l.foldl (fun s p => match p.src with
    | some b => s.arcStart d ((s.arc d).lunOf b) p
    | none => s.arcWrite d p) (s.setArc d { s.arc d with blocked := [] })

/-! ### Parity (R241, R242) -/

/-- Another page of the row of page `q` of block `b` has failed. -/
def Arc.rowFailed (a : Arc) (b q : Nat) : Bool :=
  a.failed.any (fun e => e.1 != b && e.2 == q && (a.blk e.1).stream == (a.blk b).stream && (a.blk e.1).stripe == (a.blk b).stripe)

/-- Page `q` of block `b` can be rebuilt: its row's accumulator is held, or the row has its parity page, and no other page of the row has
failed. -/
def Arc.canRebuild (a : Arc) (b q : Nat) : Bool := ((a.blk b).acc || (a.blk b).full) && !a.rowFailed b q

def Arc.addFailed (a : Arc) (b q : Nat) : Arc := if a.failed.contains (b, q) then a else { a with failed := a.failed ++ [(b, q)] }

/-- The accumulators of closed blocks whose writes are all verified are dropped. -/
def Arc.dropAccs (a : Arc) : Arc :=
  { a with blocks := a.blocks.map (fun e =>
      if e.2.st == .closed && e.2.acc && !(a.progs.any (fun p => p.blk == e.1)) then (e.1, { e.2 with acc := false }) else e) }

/-! ### Journal blocks, erase counts -/

def State.putJrn (s : State) (d : Nat) (l : List (List Nat)) : State :=
  (s.setArc d { s.arc d with jrn := l }).put d ARC_STAT_jrn_ready l.length

/-- The low-count rule of R237. -/
def State.jrnCheck (s : State) (d : Nat) : State :=
  let n := (s.arc d).jrn.length
  if 4 ≤ n then s.putB d ARC_STAT_jrn_low false
  else if n < 2 ∧ s.flag d ARC_STAT_jrn_low = false then (s.putB d ARC_STAT_jrn_low true).raise d 117 (arg 0 n)
  else s

/-- Return the blocks of a journal block for erasure. -/
def State.jrnReturn (s : State) (d : Nat) (l : List Nat) : State :=
  s.setArc d (l.foldl (fun a b => a.close b) (s.arc d))

/-- The erase counts of good blocks, lowest and highest, and their sum. -/
def Arc.ecMin (a : Arc) : Nat :=
  match a.goodBlocks.map (fun b => (a.blk b).ec) with
  | [] => 0
  | x :: xs => xs.foldl min x
def Arc.ecMax (a : Arc) : Nat := (a.goodBlocks.map (fun b => (a.blk b).ec)).foldl max 0
def Arc.ecSum (a : Arc) : Nat := (a.goodBlocks.map (fun b => (a.blk b).ec)).foldl (· + ·) 0

def State.putEc (s : State) (d : Nat) : State :=
  (s.put d ARC_EC_ec_min (min 0xFFFF (s.arc d).ecMin)).put d ARC_EC_ec_max (min 0xFFFF (s.arc d).ecMax)

/-! ### The map and its cache (R231) -/

/-- Pages that the DRAM cache holds: ARC_MAPC.mib of 16 KiB pages. -/
def State.mapCap (s : State) (d : Nat) : Nat := 64 * s.get d ARC_MAPC_mib

/-- A dirty mapping page is written back. -/
def State.mapWrite (s : State) (d pg : Nat) : State :=
  let a := s.arc d
  (s.setArc d { a with dirty := a.dirty.filter (· != pg) }).arcWrite d { keys := pageKeys (keyMap pg), stream := 4 }

/-- Least-recently-used pages leave a cache that is over its size, a dirty one after its write-back; pinned pages stay. -/
def State.mapEvict (s : State) (d : Nat) : Nat → State
  | 0 => s
  | f + 1 =>
    let a := s.arc d
    if a.cache.length ≤ s.mapCap d then s
    else match a.cache.reverse.find? (fun p => !(a.heads.any (fun h => h.2 == p))) with
      | none => s
      | some p =>
        let s := if a.dirty.contains p then s.mapWrite d p else s
        (s.setArc d { s.arc d with cache := (s.arc d).cache.filter (· != p) }).mapEvict d f

/-- A mapping page is used. A page that the cache does not hold and NAND does is a miss: one page read. -/
def State.mapTouch (s : State) (d pg : Nat) : State :=
  let a := s.arc d
  let hit := a.cache.contains pg
  let s := if hit || (smGet a.map (keyMap pg)).isNone then s
    else (s.inc d ARC_MAP_MISS_CNT).setArc d { a with health := { a.health with read := a.health.read + 16384 } }
  let s := s.setArc d { s.arc d with cache := pg :: (s.arc d).cache.filter (· != pg) }
  if hit then s else s.mapEvict d 2

/-- The mapping pages of sectors are used. -/
def State.mapTouchAll (s : State) (d : Nat) (keys : List Nat) : State :=
  (keys.foldl (fun l k => if l.contains (mapPage k) then l else l ++ [mapPage k]) []).foldl (fun s p => s.mapTouch d p) s

/-- The mapping page at the head of an append stream is pinned in the cache, so that appends never miss. -/
def State.mapPin (s : State) (d stream pg : Nat) : State :=
  let a := s.arc d
  let new := !a.cache.contains pg
  let s := s.setArc d { a with heads := smPut a.heads stream pg, cache := pg :: a.cache.filter (· != pg) }
  if new then s.mapEvict d 2 else s

/-- The map names a sector's place from now on; its mapping page is dirty, except for the directory's own entries. -/
def Arc.place (a : Arc) (k : Nat) (x : Place) : Arc :=
  let a := { a with map := smPut a.map k x }
  if keyKind k = 4 ∨ a.dirty.contains (mapPage k) = true then a else { a with dirty := a.dirty ++ [mapPage k] }

/-- A sector is mapped no more. -/
def Arc.unplace (a : Arc) (k : Nat) : Arc :=
  match smGet a.map k with
  | none => a
  | some _ => { a with map := smDel a.map k, dirty := if a.dirty.contains (mapPage k) then a.dirty else a.dirty ++ [mapPage k] }

/-- The mapping of a write's sectors moves to the page just verified: for a copy, of those that still name its source. -/
def State.remap (s : State) (d : Nat) (p : Prog) : State :=
  let s := match p.src, p.keys.head? with
    | none, some k => if keyKind k = 4 then s else if keyKind k = 2 then s.mapTouchAll d p.keys else s.mapPin d (keyKind k) (mapPage k)
    | some _, some k => if keyKind k = 4 then s else s.mapTouchAll d p.keys
    | _, none => s
  let a := s.arc d
  let still (k : Nat) : Bool := match p.src, smGet a.map k with
    | none, _ => true
    | some b, some x => x.blk == b
    | some _, none => false
  s.setArc d ((List.range p.keys.length).foldl (fun a i =>
    let k := p.keys.getD i 0
    if still k then a.place k ⟨p.blk, 4 * p.page + i⟩ else a) a)

/-- Count programmed sectors (R247, R248). -/
def State.countProg (s : State) (d sectors : Nat) : State :=
  let a := s.arc d
  s.setArc d { a with hourProg := a.hourProg + sectors * 4096,
                      health := { a.health with programmed := a.health.programmed + sectors * 4096 } }

/-! ### Retirement and relocation -/

/-- Retire a block (R244): reason 1 program, 2 erase, 3 read. Both copies of the bad-block table name it. -/
def State.retire (s : State) (d b reason : Nat) : State :=
  let a := s.arc d
  let a := a.setBlk b { a.blk b with st := .bad, acc := false }
  let a := { a with
    bad := a.bad ++ [b], bad2 := a.bad2 ++ [b], failed := a.failed.filter (fun e => e.1 != b),
    relocating := a.relocating.filter (fun e => e.1 != b), health := { a.health with retired := a.health.retired + 1 } }
  let s := (s.setArc d a).inc d ARC_RETIRED_CNT
  let s := s.raise d 112 (arg 0 (a.lunOf b) + arg 1 reason + arg 4 (b % a.bpl))
  (s.putEc d).spareCheck d

/-- Blocks whose relocation is complete and that are to be retired. -/
def State.retireDone (s : State) (d : Nat) : State :=
  let l := (s.arc d).relocating.filter (fun e => decide (1 ≤ e.2 ∧ e.2 ≤ 3))
  l.foldl (fun s e => if (s.arc d).valid e.1 = 0 ∧ (s.arc d).busy e.1 = false then s.retire d e.1 e.2 else s) s

/-- Keys in groups of four, the sectors of one page. -/
def chunk4 : List Nat → List (List Nat)
  | a :: b :: c :: d :: l => [a, b, c, d] :: chunk4 l
  | [] => []
  | l => [l]

/-- Relocate the valid data of a block to new blocks of its LUN (R238, R240): reason 0 collection, 1 to 3 to retire
it, 4 to return it to the free pool. -/
def State.relocate (s : State) (d b reason : Nat) : State :=
  let a := s.arc d
  let a := if (a.blk b).st = .opened then a.close b else a
  let old := a.relocating.any (fun e => e.1 == b)
  let a := { a with
    relocating := (if old then a.relocating.map (fun e => if e.1 = b ∧ 1 ≤ reason ∧ reason ≤ 3 then (b, reason) else e)
      else a.relocating ++ [(b, reason)])
    progs := a.progs.filter (fun p => !(p.blk == b && p.keys.isEmpty)) }
  let s := s.setArc d a
  if old then s
  else
    ((chunk4 (a.validKeys b)).foldl (fun s l => s.arcStart d (a.lunOf b) { keys := l, stream := 3, src := some b }) s).retireDone d

/-! ### Pages of the append streams (R232, R235) -/

/-- Entries of the log that no page holds yet. -/
def Arc.opened (a : Arc) : List ArcEntry := a.entries.filter (fun e => decide (a.pageFrom ≤ e.seq))

/-- The entries that fit one page after its 32-byte header. -/
def pageFill : List ArcEntry → Nat → List ArcEntry
  | [], _ => []
  | e :: es, left => if arcLen e.body ≤ left then e :: pageFill es (left - arcLen e.body) else []

/-- The open page is full: the next entry does not fit, or none would. -/
def Arc.pageFull (a : Arc) : Bool :=
  decide ((pageFill a.opened 16352).length < a.opened.length)
    || (a.opened.foldl (fun n e => n + arcLen e.body) 0) == 16352

/-- Program one page of the log: its entries, the sequence range and its write. -/
def State.programPage (s : State) (d : Nat) : State :=
  let a := s.arc d
  let l := pageFill a.opened 16352
  match l.head?, l.getLast? with
  | some f, some e =>
    let n := a.pages
    let s := s.setArc d { a with pages := n + 1, pageSeqs := smPut a.pageSeqs n (f.seq, e.seq + 1), pageFrom := e.seq + 1 }
    s.arcWrite d { keys := pageKeys (keyPage n), stream := 0, seqEnd := e.seq + 1 }
  | _, _ => s

/-- Program every page that entries wait for. -/
def State.programAll (s : State) (d : Nat) : Nat → State
  | 0 => s
  | f + 1 => if (s.arc d).opened.isEmpty then s else (s.programPage d).programAll d f

/-- Amendments that one page holds after its 32-byte header. -/
def amendsPerPage : Nat := 681

/-- Program one page of the amendment stream. -/
def State.amendPage (s : State) (d : Nat) : State :=
  let a := s.arc d
  let n := min amendsPerPage (a.amends.length - a.amendFrom)
  if n = 0 then s
  else
    (s.setArc d { a with
      amendFrom := a.amendFrom + n, amendPages := a.amendPages + 1,
      amendRanges := smPut a.amendRanges a.amendPages (a.amendFrom, a.amendFrom + n) }).arcWrite d
      { keys := pageKeys (keyAmend a.amendPages), stream := 0, seqEnd := a.amendFrom + n }

/-- Program every page that amendments wait for. -/
def State.amendAll (s : State) (d : Nat) : Nat → State
  | 0 => s
  | f + 1 => if (s.arc d).amends.length ≤ (s.arc d).amendFrom then s else (s.amendPage d).amendAll d f

/-- Start the pages of columns that wait, as far as the unprogrammed data stays within 2 MiB (R232). -/
def State.columnPump (s : State) (d : Nat) : Nat → State
  | 0 => s
  | f + 1 =>
    let a := s.arc d
    match a.colQueue with
    | [] => s
    | (no, i) :: l =>
      if s.arcFull d then s
      else ((s.setArc d { a with colQueue := l }).arcWrite d { keys := columnKeys no i, stream := 0 }).columnPump d f

/-- Write an interval column: 4 MiB and its directory entry (R235), in pages. -/
def State.writeColumnUnit (s : State) (d no : Nat) : State :=
  let a := s.arc d
  (s.setArc d { a with colQueue := a.colQueue ++ (List.range columnPages).map (fun i => (no, i)) }).columnPump d 128

/-- Every sector of a column is on NAND, or would be once these writes end. -/
def Arc.columnStands (a : Arc) (no : Nat) (l : List Prog) : Bool :=
  (List.range 1025).all (fun i => (smGet a.map (keyColumn no i)).isSome || l.any (fun p => p.keys.contains (keyColumn no i)))

end Sys2Proof.Machine
end

