-- ==== Sys2Proof/Machine/Locker.lean ====
section
/-! DEFINITION. The Locker of every die: lifecycle, key slots, marks, derivation, attestation statements and the
commands that act on them (05_locker_security R111 to R122, R131, R132). -/

namespace Sys2Proof.Machine

def State.lock (s : State) (d : Nat) : Lock := (s.com1 d).lock
def State.setLock (s : State) (d : Nat) (k : Lock) : State := s.setCom d { s.com1 d with lock := k }

/-- Slot 0 shows the root secret as a derivation source (R116, R117): valid while the Locker is ready with sound fuses and a root
secret that no step to Retired has destroyed (R114). Its algorithm is shown as HMAC-SHA-256, the one derivation uses (DEDUCED,
assumption log 65). -/
def State.slot0 (s : State) (d : Nat) : Option Slot :=
  let k := s.lock d
  if s.flag d LOCK_STAT_ready && !s.flag d LOCK_STAT_fuse_error && k.lc != 3 && k.fuses.root != fillBytes 32 0xFF then
    some { alg := 2, usage := 2 ^ 5, origin := 3, key := k.fuses.root }
  else none

/-- A valid slot of a die (R116). -/
def State.slot (s : State) (d n : Nat) : Option Slot := if n = 0 then s.slot0 d else smGet (s.lock d).slots n
def State.setSlot (s : State) (d n : Nat) (x : Slot) : State :=
  s.setLock d { s.lock d with slots := smPut (s.lock d).slots n x }
def State.clearSlot (s : State) (d n : Nat) : State :=
  s.setLock d { s.lock d with slots := smDel (s.lock d).slots n }

def State.mark (s : State) (d m : Nat) : Bytes := smGetD (s.lock d).marks (fillBytes 32 0) m

/-- Usage bits of LOCK_SLOT_ATTR. -/
def useEncrypt : Nat := 0
def useDecrypt : Nat := 1
def useMac : Nat := 2
def useWrap : Nat := 3
def useUnwrap : Nat := 4
def useDerive : Nat := 5
def useSign : Nat := 6

/-- A refused Locker operation (R118): counted, and L-014 or F-014 raised with slot and status. -/
def State.lockRefuse (s : State) (d n status : Nat) : State :=
  (s.inc d LOCK_REFUSE_CNT).raise d 14 (arg 0 n + arg 2 status)

/-- The lifecycle state permits key operations: none in Retired, none with faulty fuses (R112, R113). -/
def State.lockPermits (s : State) (d : Nat) : Bool := !(s.lock d).lc == 3 && !s.flag d LOCK_STAT_fuse_error

/-- The checks of R118 on an operation with slot `n` under a usage: the refusing status, or the slot. With faulty fuses every
operation is refused with 0x0204, whatever else is amiss (R112). -/
def State.keyCheck (s : State) (d n usage : Nat) : Nat ⊕ Slot :=
  if s.flag d LOCK_STAT_fuse_error then .inl 0x0204
  else match s.slot d n with
  | none => .inl 0x0201
  | some x =>
    if !bit x.usage usage then .inl 0x0202
    else if x.uses = 0 then .inl 0x0203
    else if !s.lockPermits d then .inl 0x0204
    else .inr x

/-- A performed operation: counted, and a finite use count goes down (R118). -/
def State.keyUsed (s : State) (d n : Nat) (x : Slot) : State :=
  let s := s.inc d LOCK_OP_CNT
  if x.uses = 0xFFFFFFFF then s else s.setSlot d n { x with uses := x.uses - 1 }

/-- An operation with slot `n`: refused and counted, with no answer, or counted as performed and run on the slot. -/
def State.withKey (s : State) (d n usage : Nat) (k : State → Slot → State) : State :=
  match s.keyCheck d n usage with
  | .inl e => s.lockRefuse d n e
  | .inr x => k (s.keyUsed d n x) x

/-- The slot for a frame secured by encryption and MAC, one operation (R118). -/
def State.sealCheck (s : State) (d n : Nat) : Nat ⊕ Slot :=
  match s.keyCheck d n useEncrypt with
  | .inl e => .inl e
  | .inr _ => s.keyCheck d n useMac

/-- LOCK_SLOT_ATTR of a slot. -/
def Slot.attr (x : Slot) : Nat :=
  1 + 2 * x.alg + 16 * x.usage + 4096 * x.origin + 2 ^ 14 * b2n x.exportable + 2 ^ 15 * b2n x.resetExpiry
    + 2 ^ 16 * b2n x.lcBound + 2 ^ 24 * x.markMask

/-- Key bytes of an algorithm: 16 for AES-128, 32 otherwise. -/
def keyLen (alg : Nat) : Nat := if alg = 0 then 16 else 32

/-! ### Zeroisation (R115) -/

/-- Every slot except slot 0 is cleared (the key cache with them: `Sec.cache` is emptied by the caller's die). -/
def State.zeroiseSlots (s : State) (d : Nat) : State :=
  s.setLock d { s.lock d with slots := (s.lock d).slots.filter (fun p => p.1 == 0) }

/-! ### Derivation (R122) -/

/-- The fixed input: label, context, die_id, the selected marks in index order, the lifecycle byte if bound. -/
def State.kdfInput (s : State) (d : Nat) (label context : Bytes) (mask : Nat) (lcBound : Bool) : Bytes :=
  slice label 0 16 ++ context ++ (s.lock d).fuses.dieId
    ++ ((List.range 8).filter (fun m => bit mask m)).flatMap (fun m => s.mark d m)
    ++ (if lcBound then leBytes 1 (s.lock d).fuses.lifecycle else [])

/-- One 32-byte block of the SP 800-108 counter-mode KDF. -/
def kdf (key input : Bytes) : Bytes := hmac key (beBytes 4 1 ++ input)

/-- The parent slot of a derivation. In Factory state nothing is derived from slot 0 (R113). -/
def State.parentKey (s : State) (d n : Nat) : Nat ⊕ Slot :=
  if n = 0 ∧ (s.lock d).lc = 0 then .inl 0x0204 else s.keyCheck d n useDerive

/-- The derived fixed slots of R117, as firmware derives them at bring-up: slot 2 lc_bound without marks, slot 3
with M0 and M3, slot 4 with M0. -/
def State.deriveFixed (s : State) (d : Nat) : State :=
  if !s.lockPermits d || (s.lock d).lc == 0 then s
  else
    let root := (s.lock d).fuses.root
    let label (t : Nat) : Bytes := leBytes 16 t
    let mk (n mask : Nat) (b : Bool) (alg usage : Nat) : Slot :=
      { alg := alg, usage := usage, origin := 0, lcBound := b, markMask := mask,
        key := kdf root (s.kdfInput d (label n) [] mask b) }
    let s2 := s.setSlot d 2 (mk 2 0 true 3 (2 ^ useSign))
    let s3 := s2.setSlot d 3 (mk 3 9 false 1 (2 ^ useWrap + 2 ^ useUnwrap))
    s3.setSlot d 4 (mk 4 1 false 4 (2 ^ useUnwrap))

/-! ### Storage blobs (R123, R117) -/

/-- Store a slot in boot flash wrapped under slot 3: attributes, uses and key under AES-256-GCM. -/
def State.storeBlob (s : State) (d n : Nat) : State :=
  match s.slot d n with
  | none => s
  | some x =>
    s.withKey d 3 useWrap fun s k =>
      let r := s.randomBytes 12
      let b := r.1 ++ gcmSeal k.key r.1 (leBytes 2 n) (leBytes 4 x.attr ++ leBytes 4 x.uses ++ x.key)
      let s := r.2
      { s with pkg := { s.pkg with blobs := smPut s.pkg.blobs (512 * d + n) b } }

/-- A slot from attributes (LOCK_SLOT_ATTR layout), uses and key bytes. -/
def slotOfBytes (b : Bytes) (origin : Nat) : Slot :=
  let a := leField b 0 4
  { alg := bits a 3 1, usage := bits a 11 4, origin := origin, exportable := bit a 14, resetExpiry := bit a 15,
    lcBound := bit a 16, markMask := bits a 31 24, uses := leField b 4 4, key := b.drop 8 }

/-- Reload a slot from its storage blob (at boot). -/
def State.loadBlob (s : State) (d n : Nat) : State :=
  match smGet s.pkg.blobs (512 * d + n) with
  | none => s
  | some b =>
    s.withKey d 3 useUnwrap fun s k =>
      match gcmOpen k.key (b.take 12) (leBytes 2 n) ((b.drop 12).take (b.length - 28)) (b.drop (b.length - 16)) with
      | some p => s.setSlot d n (slotOfBytes p 2)
      | none => s

/-! ### Zeroise, integrity fault, marks -/

/-- LOCK_ZEROISE and INTEGRITY_FAULT share the zeroisation of R115; the key cache of an L-die is emptied. -/
def State.zeroise (s : State) (d : Nat) : State :=
  let s := (s.zeroiseSlots d).putB d LOCK_STAT_integrity_alarm true
  let s := if s.isL d then s.setL d { s.l d with sec := { (s.l d).sec with cache := [] } } else s
  s.raise d 13

def execLockZeroise (d : Nat) (s : State) : Res := onDie s d (s.zeroise d)
/-- INTEGRITY_FAULT (R115): a storage fault or a glitch detector. -/
def execIntegrityFault (d : Nat) (s : State) : Res := onDie s d (s.zeroise d)

/-- An extend of a mark refused with a status (R120): the event, with mark and status. -/
def State.extendRefuse (s : State) (d m status : Nat) : State :=
  (s.put d LOCK_EXT_CTRL_error status).raise d 15 (arg 0 m + arg 2 status)

/-- Extend mark `m` with a digest (R120): refused while the mark is locked, or the fuses are faulty (R112). -/
def State.extend (s : State) (d m : Nat) (dig : Bytes) : State :=
  if s.flag d LOCK_STAT_fuse_error then s.lockRefuse d m 0x0204
  else if bit (s.get d LOCK_MARK_LOCK_lock) m then s.extendRefuse d m 0x0205
  else
    s.setLock d { s.lock d with marks := smSet (s.lock d).marks (fillBytes 32 0) m (sha256 (s.mark d m ++ slice dig 0 32)) }

/-- The digest in LOCK_EXT_DATA0 to 7. -/
def State.extData (s : State) (d : Nat) : Bytes :=
  (List.range 8).flatMap (fun w => leBytes 4 (s.get d LOCK_EXT_DATAw_data w))

/-- A write of LOCK_EXT_CTRL from the host port that names a mark (R121): M0 to M3 are refused, and the write with them. -/
def State.extMark (s : State) (d m : Nat) : State :=
  if m < 4 then s.extendRefuse d m 0x0205 else s.put d LOCK_EXT_CTRL_mark m

/-- MARK_EXTEND (R120, R121): LOCK_EXT_CTRL.go written from the host port with a mark number. -/
def execMarkExtend (d m : Nat) (s : State) : Res :=
  onDie s d <|
    let m := m % 8
    if m < 4 then s.extMark d m
    else if s.flag d LOCK_STAT_fuse_error then ((s.extMark d m).put d LOCK_EXT_CTRL_error 0x0204).lockRefuse d m 0x0204
    else ((s.extMark d m).put d LOCK_EXT_CTRL_error 0).extend d m (s.extData d)

/-- MARK_LOCK (R120): write 1 to set. -/
def execMarkLock (d mask : Nat) (s : State) : Res :=
  onDie s d (s.put d LOCK_MARK_LOCK_lock (s.get d LOCK_MARK_LOCK_lock ||| mask % 256))

/-! ### Commands (R212) -/

/-- Run a command handler on the oldest startable command of an opcode at a die. -/
def State.withCmd (s : State) (d opcode : Nat) (k : State → Cmd → State) : State :=
  match s.nextCmd d opcode with
  | none => s
  | some c => k s c

/-- Refuse a Locker command with a status of R142. -/
def State.refuseCmd (s : State) (d n status : Nat) (c : Cmd) : State := (s.lockRefuse d n status).complete c.id status

/-- Run a Locker command that names a slot in `n`: with faulty fuses it is refused before anything else is looked at (R112). -/
def State.withLocker (s : State) (d opcode : Nat) (n : Cmd → Nat) (k : State → Cmd → State) : State :=
  s.withCmd d opcode fun s c =>
    if s.flag d LOCK_STAT_fuse_error then s.refuseCmd d (n c) 0x0204 c else k s c

/-- Import and derivation targets: the imported fixed slots of R117 and the general slots. -/
def State.importTarget (s : State) (d n : Nat) : Bool :=
  (s.isL d && n == 1) || (s.isF d && decide (16 ≤ n ∧ n ≤ 33)) || decide (64 ≤ n ∧ n < 512)

/-- Algorithm and usage that R117 fixes for an imported fixed slot. -/
def fixedSlot (n : Nat) : Option (Nat × Nat) :=
  if n = 1 then some (1, 2 ^ useWrap + 2 ^ useUnwrap)
  else if 16 ≤ n ∧ n ≤ 31 then some (0, 2 ^ useEncrypt + 2 ^ useMac)
  else if n = 32 ∨ n = 33 then some (0, 2 ^ useEncrypt + 2 ^ useDecrypt + 2 ^ useMac)
  else none

/-- A Bordar package (R119): ephemeral public key (64 bytes), nonce (12), ciphertext, tag (16). -/
def State.openPackage (s : State) (d : Nat) (x : Slot) (p : Bytes) : Option Bytes :=
  if p.length < 64 + 12 + 16 then none
  else match ecdh x.key (p.take 64) with
    | none => none
    | some z =>
      gcmOpen (hkdf (s.lock d).fuses.dieId z []) (slice p 64 12) [] ((p.drop 76).take (p.length - 92)) (p.drop (p.length - 16))

/-- IMPORT_KEY, opcode 0x20 (R119): `pkg` is the package read from host memory. -/
def execImportKey (d : Nat) (pkg : Bytes) (s : State) : Res :=
  onDie s d <| s.withLocker d 0x20 (fun c => c.op 26 2) fun s c =>
    let n := c.op 26 2
    if !s.importTarget d n || (s.isL d && decide (16 ≤ n ∧ n ≤ 33)) then s.complete c.id 0x0103
    else match s.keyCheck d 4 useUnwrap with
      | .inl e => s.refuseCmd d 4 e c
      | .inr x =>
        match s.openPackage d x (slice pkg 0 (c.op 24 2)) with
        | none => s.complete c.id 0x020A
        | some p =>
          let y := slotOfBytes p 2
          let okFixed := match fixedSlot n with
            | none => true
            | some (a, u) => y.alg = a && y.usage = u
          if !okFixed || y.key.length ≠ keyLen y.alg then s.complete c.id 0x020A
          else if y.exportable && (s.lock d).lc == 2 then s.refuseCmd d n 0x0204 c
          else
            let s := (s.keyUsed d 4 x).setSlot d n { y with lcBound := false, markMask := 0 }
            let s := if n < 64 then s.storeBlob d n else s
            s.complete c.id 0

/-- EXPORT_KEY, opcode 0x22 (R119, R212): nonce, ciphertext and tag go to the destination. -/
def execExportKey (d : Nat) (s : State) : Res :=
  onDie s d <| s.withLocker d 0x22 (fun c => c.op 16 2) fun s c =>
    let n := c.op 16 2
    let w := c.op 18 2
    match s.slot d n with
    | none => s.refuseCmd d n 0x0201 c
    | some x =>
      if !x.exportable then s.refuseCmd d n 0x0202 c
      else match s.keyCheck d w useWrap with
        | .inl e => s.refuseCmd d w e c
        | .inr k =>
          if k.alg ≠ 1 then s.refuseCmd d w 0x0202 c
          else
            let r := s.randomBytes 12
            let b := r.1 ++ gcmSeal k.key r.1 [] (leBytes 4 x.attr ++ leBytes 4 x.uses ++ x.key)
            let s := (r.2.keyUsed d w k).toHost c.port (c.op 24 8) b
            s.complete c.id 0 (leBytes 2 b.length)

/-- DERIVE_KEY, opcode 0x23 (R122): `src` holds the label and the context. The algorithm and usage of the derived
key are not among the operands: free values. -/
def execDeriveKey (d : Nat) (src : Bytes) (s : State) : Res :=
  onDie s d <| s.withLocker d 0x23 (fun c => c.op 16 2) fun s c =>
    let p := c.op 16 2
    let t := c.op 18 2
    let mask := c.op 20 1
    let lcb := bit (c.op 21 1) 0
    let n := c.op 22 1
    if t < 64 ∨ 512 ≤ t ∨ 64 < n then s.complete c.id 0x0103
    else match s.parentKey d p with
      | .inl e => s.refuseCmd d p e c
      | .inr k =>
        let out := kdf k.key (s.kdfInput d (slice src 0 16) (slice src 16 n) mask lcb)
        let a := s.freeBelow 5
        let u := a.2.freeBelow 256
        let s := (u.2.keyUsed d p k).setSlot d t
          { alg := a.1, usage := u.1, origin := 0, lcBound := lcb, markMask := mask, key := out.take (keyLen a.1) }
        s.complete c.id 0

/-- GENERATE_KEY, opcode 0x24 (R119, R212). -/
def execGenerateKey (d : Nat) (s : State) : Res :=
  onDie s d <| s.withLocker d 0x24 (fun c => c.op 16 2) fun s c =>
    let n := c.op 16 2
    let alg := c.op 18 1
    let fl := c.op 20 1
    if n < 64 ∨ 512 ≤ n ∨ 4 < alg then s.complete c.id 0x0103
    else if !s.lockPermits d || (bit fl 0 && (s.lock d).lc == 2) then s.refuseCmd d n 0x0204 c
    else
      let r := s.randomBytes (keyLen alg)
      let s := (r.2.inc d LOCK_OP_CNT).setSlot d n
        { alg := alg, usage := c.op 19 1, origin := 1, exportable := bit fl 0, resetExpiry := bit fl 1,
          uses := c.op 24 4, key := r.1 }
      s.complete c.id 0

/-- CLEAR_SLOT, opcode 0x25: general slots only (R212), and not in Retired state, which permits no key operation (R113). -/
def execClearSlot (d : Nat) (s : State) : Res :=
  onDie s d <| s.withLocker d 0x25 (fun c => c.op 16 2) fun s c =>
    let n := c.op 16 2
    if n < 64 ∨ 512 ≤ n then s.complete c.id 0x0103
    else if !s.lockPermits d then s.refuseCmd d n 0x0204 c
    else (s.clearSlot d n).complete c.id 0

/-- The fuses after a step (R114): bits only go from 0 to 1 (R111). A step to Retired has destroyed the root secret already. -/
def Fuses.advance (f : Fuses) (t : Nat) (hash : Bytes) : Fuses :=
  if t = 1 then { f with ownerHash := List.zipWith (· ||| ·) f.ownerHash (slice hash 0 32), lifecycle := f.lifecycle ||| 0x03 }
  else { f with lifecycle := f.lifecycle ||| (if t = 2 then 0x0F else 0xFF) }

/-- LIFECYCLE_ADVANCE, opcode 0x29 (R114): `hash` is the owner_hash read from host memory, `fuseOk` whether the fields take the
program. A step to Retired sets every root bit and zeroises all slots before it programs the lifecycle field. -/
def execLifecycleAdvance (d : Nat) (hash : Bytes) (fuseOk : Bool) (s : State) : Res :=
  onDie s d <| s.withLocker d 0x29 (fun _ => 0) fun s c =>
    let t := c.op 16 1
    let cur := Lock.lifecycleOf (s.lock d).fuses
    let ok := (t = 1 ∧ cur = 0) ∨ (t = 2 ∧ cur = 1) ∨ (t = 3 ∧ cur ≠ 3)
    if t = 0 ∨ 3 < t then s.complete c.id 0x0103
    else if ¬ ok then s.refuseCmd d 0 0x0204 c
    else
      let k := s.lock d
      let s := if t = 3 then s.setLock d { k with fuses := { k.fuses with root := fillBytes 32 0xFF }, slots := [] } else s
      if !fuseOk then s.complete c.id 0x020C
      else
        let k := s.lock d
        ((s.setLock d { k with fuses := k.fuses.advance t hash }).putB d LOCK_STAT_lc_pending true).complete c.id 0

/-! ### Attestation (R131, R132) -/

/-- What an attest command attests: the slot number, attributes, uses, marks mask, identity, generation and
fingerprint fields of the statement, and the public key that follows it. -/
structure Attested where
  slot : Nat := 0xFFFFFFFF
  attr : Nat := 0
  uses : Nat := 0
  mask : Nat := 0
  identity : Bytes := List.replicate 8 0
  generation : Nat := 0
  fingerprint : Bytes := List.replicate 32 0
  pub : Bytes := []

/-- The fingerprint of a key (R131): SHA-256 of the uncompressed public key (0x04 ‖ x ‖ y), or of "SG4FP" ‖ key. -/
def fingerprint (alg : Nat) (key : Bytes) : Bytes :=
  if alg = 3 ∨ alg = 4 then sha256 (4#8 :: p256Public key)
  else sha256 ([0x53#8, 0x47#8, 0x34#8, 0x46#8, 0x50#8] ++ key)

def attestSlot (n : Nat) (x : Slot) : Attested :=
  { slot := n, attr := x.attr, uses := x.uses, mask := x.markMask, fingerprint := fingerprint x.alg x.key,
    pub := if x.alg = 3 ∨ x.alg = 4 then p256Public x.key else [] }

/-- The 436-byte statement (R131), signed by slot 2. -/
def State.statement (s : State) (d kind : Nat) (nonce : Bytes) (a : Attested) (key k : Bytes) : Bytes :=
  let f := (s.lock d).fuses
  let b := leBytes 2 1 ++ leBytes 2 kind ++ slice f.dieId 0 8 ++ leBytes 1 f.lifecycle ++ leBytes 1 f.svn ++ leBytes 2 d
    ++ slice nonce 0 32 ++ leBytes 8 (s.devTime d) ++ (List.range 8).flatMap (fun m => s.mark d m)
    ++ leBytes 4 a.slot ++ leBytes 4 a.attr ++ leBytes 4 a.uses ++ leBytes 4 a.mask ++ slice a.identity 0 8
    ++ leBytes 4 a.generation ++ slice a.fingerprint 0 32
  b ++ ecdsaSign key b k

/-- Sign and deliver a statement: 436 bytes, then the public key of a P-256 slot at offset 436 (R131). -/
def State.attestWith (s : State) (d : Nat) (c : Cmd) (nonce : Bytes) (a : Attested) : State :=
  match s.keyCheck d 2 useSign with
  | .inl e => s.refuseCmd d 2 e c
  | .inr x =>
    let r := s.randomBytes 32
    let b := s.statement d (c.op 16 1) nonce a x.key r.1 ++ a.pub
    ((r.2.keyUsed d 2 x).toHost c.port (c.op 32 8) b).complete c.id 0 (leBytes 2 b.length)

end Sys2Proof.Machine
end

