-- ==== Sys2Proof/Machine/Links.lean ====
section
/-! DEFINITION. Sending over the Eufer fabric (12_eufer_fabric): fabric addresses, next hops, ports, and the flows of
classes 5 and 6 (R12, R279 to R283, R288). -/

namespace Sys2Proof.Machine

def State.euf (s : State) (d : Nat) : Euf := (s.l d).euf
def State.setEuf (s : State) (d : Nat) (e : Euf) : State := s.setL d { s.l d with euf := e }
def State.fab (s : State) : Fab := s.pkg.fab
def State.setFab (s : State) (f : Fab) : State := { s with pkg := { s.pkg with fab := f } }

/-- The package number a die holds (R286). -/
def State.ownPkg (s : State) (d : Nat) : Nat := s.get d EUF_STAT_package

/-- The fabric address by which other dies name die `d` (R12): in paired mode the first die of its pair (R288). -/
def State.addrOf (s : State) (d : Nat) : Nat := 8 * s.ownPkg d + (if s.paired then d - d % 2 else d)

/-- The die a message to an address of this package is delivered to (R288). -/
def State.deliverDie (s : State) (addr : Nat) : Nat :=
  let d := addr % 8
  if s.paired && s.role d != 1 && s.isL (partnerOf d) && s.role (partnerOf d) == 1 then partnerOf d else d

/-- The external port of a die carries new messages: Up x4 or Up x2. -/
def State.portUp (s : State) (d : Nat) : Bool := s.get d EUF_STAT_port_state == 2 || s.get d EUF_STAT_port_state == 3

/-- The dies whose ports lead to a package on shortest paths (R288): the next hops of a route that are up, or the
loop-free alternate (R289). -/
def State.nextHops (s : State) (d p : Nat) : List Nat :=
  let ok (v : Nat) : Option Nat := if v.testBit 3 && s.portUp (v % 8) then some (v % 8) else none
  let l := [s.get d EUF_ROUTEp_nh0 p, s.get d EUF_ROUTEp_nh1 p, s.get d EUF_ROUTEp_nh2 p, s.get d EUF_ROUTEp_nh3 p].filterMap ok
  if l.isEmpty then [s.get d EUF_ROUTEp_alt p].filterMap ok else l

/-- The next hop of a message, by a hash of its source, destination and class. -/
def State.hopFor (s : State) (d src dst cls : Nat) : Option Nat :=
  let l := s.nextHops d (dst / 8)
  l[Config.hopHash src dst cls % l.length]?

/-- Flits of a message: header and payload in pieces of 64 bytes (R277). -/
def FabMsg.flits (m : FabMsg) : Nat :=
  match m.body with
  | .led b => (16 + b.size + 63) / 64
  | .ctl _ => 1
  | .ackOnly => 1

/-- Put a message on the external port of a die. -/
def State.portSend (s : State) (d : Nat) (m : FabMsg) : State :=
  if !s.portUp d then s
  else
    let e := s.euf d
    let last := e.txNext + m.flits - 1
    (s.inc d EUF_TX_MSG_CNT).setEuf d { e with
      txNext := last + 1, out := e.out ++ [(last, m)], progress := if e.out.isEmpty then s.now else e.progress }

/-- Flood a control message on every port of the package that is up. -/
def State.flood (s : State) (c : FabCtl) : State :=
  (List.range s.nL).foldl (fun s d => s.portSend d { dst := 0, src := s.addrOf d, cls := 0, body := .ctl c }) s

def flowKey (cls addr : Nat) : Nat := 2048 * cls + addr
/-- The die at which the flows of a die's address are held: in paired mode the first die of its pair, so that a switchover
changes nothing outside the package (R288). -/
def State.flowHome (s : State) (d : Nat) : Nat := if s.paired then d - d % 2 else d
def State.flowSrc (s : State) (d cls dst : Nat) : FlowSrc := smGetD (s.euf (s.flowHome d)).srcs {} (flowKey cls dst)
def State.setFlowSrc (s : State) (d cls dst : Nat) (f : FlowSrc) : State :=
  let h := s.flowHome d
  s.setEuf h { s.euf h with srcs := smPut (s.euf h).srcs (flowKey cls dst) f }
def State.flowDst (s : State) (d cls src : Nat) : FlowDst := smGetD (s.euf (s.flowHome d)).dsts {} (flowKey cls src)
def State.setFlowDst (s : State) (d cls src : Nat) (f : FlowDst) : State :=
  let h := s.flowHome d
  s.setEuf h { s.euf h with dsts := smPut (s.euf h).dsts (flowKey cls src) f }
def State.flowWaiting (s : State) (d : Nat) : List (Nat × LedBody) := (s.euf (s.flowHome d)).waiting
def State.setFlowWaiting (s : State) (d : Nat) (l : List (Nat × LedBody)) : State :=
  let h := s.flowHome d
  s.setEuf h { s.euf h with waiting := l }

/-- Bytes in the retransmit buffer of a die. -/
def State.retxBytes (s : State) (d : Nat) : Nat :=
  (s.euf (s.flowHome d)).srcs.foldl (fun a e => e.2.unacked.foldl (fun a m => a + 16 + m.body.size) a) 0

/-- Transmit one message of a flow toward its destination, with the acknowledgement of the reverse flow. -/
def State.flowXmit (s : State) (d dst seq : Nat) (b : LedBody) : State :=
  let r := s.flowDst d b.cls dst
  match s.hopFor d (s.addrOf d) dst b.cls with
  | none => s
  | some h =>
    let s := s.setFlowDst d b.cls dst { r with owed := none }
    s.portSend h { dst := dst, src := s.addrOf d, cls := b.cls, seq := seq, ack := r.expect - 1, body := .led b }

/-- The fabric is formed (R285). -/
def State.formed (s : State) (d : Nat) : Bool := s.get d EUF_STAT_rc_stage == 6

/-- A new message of a flow enters the retransmit buffer and leaves if there is a route (R281, R282). -/
def State.flowPush (s : State) (d dst : Nat) (b : LedBody) : State :=
  let f := s.flowSrc d b.cls dst
  let route := s.formed d && (s.hopFor d (s.addrOf d) dst b.cls).isSome
  let s := s.setFlowSrc d b.cls dst { f with
    next := f.next + 1, unacked := f.unacked ++ [⟨f.next, b, s.now⟩],
    since := if f.unacked.isEmpty then s.now else f.since,
    noRoute := if route then none else some (f.noRoute.getD s.now) }
  if route then s.flowXmit d dst f.next b else s

/-- The retransmit buffer of a die: 1 MiB. -/
def retxSize : Nat := 1048576

/-- Send a message of class 5 or 6 from die `d`: over the on-package links to a die of its package, else in a flow;
while the retransmit buffer is full it waits. -/
def State.sendLed (s : State) (d dst : Nat) (b : LedBody) : State :=
  if dst / 8 = s.ownPkg d then { s with ledMsgs := s.ledMsgs ++ [⟨s.addrOf d, dst, b⟩] }
  else if (s.flowWaiting d).isEmpty && decide (s.retxBytes d + 16 + b.size ≤ retxSize) then s.flowPush d dst b
  else s.setFlowWaiting d (s.flowWaiting d ++ [(dst, b)])

/-- Messages that waited take the room freed in the retransmit buffer. -/
def State.drainWaiting (s : State) (d : Nat) : Nat → State
  | 0 => s
  | k + 1 =>
    match s.flowWaiting d with
    | [] => s
    | (dst, b) :: r =>
      if retxSize < s.retxBytes d + 16 + b.size then s
      else ((s.setFlowWaiting d r).flowPush d dst b).drainWaiting d k

/-- A package number belongs to a member of the fabric, or is the die's own. -/
def State.isMember (s : State) (d p : Nat) : Bool :=
  p == s.ownPkg d || s.fab.table.any (fun e => e.number == some p && e.state == 1)

/-- The fabric address of the die that owns the meter of a fabric handle (R283). -/
def ownerAddr (fh : Nat) : Nat := 8 * (fh / 2 ^ 24 % 256) + fh / 2 ^ 20 % 8

/-- Take the first message for die `d` of the wanted kind from those that have reached the package. -/
def State.takeLed (s : State) (d : Nat) (want : LedBody → Bool) : Option (LedMsg × State) :=
  match s.ledMsgs.find? (fun m => s.deliverDie m.dst == d && want m.body) with
  | none => none
  | some m => some (m, { s with ledMsgs := s.ledMsgs.erase m })

/-! ### The partition (R20, R290) -/

/-- The dies that meter handles may name (R252). -/
def State.handleDies (s : State) : List Nat := (List.range s.nL).filter (fun d => !(s.paired && decide (d % 2 = 1)))

/-- The raw partition entry of a bucket: valid bit, fabric address; the local partition of version 0 where none has
been published. -/
def State.partEntry (s : State) (d b : Nat) : Nat :=
  if s.fab.runs.isEmpty then
    let l := s.handleDies
    0x8000 + 8 * s.ownPkg d + (l[b % l.length]?).getD 0
  else (s.fab.runs.foldl (fun (a : Option Nat) r => if r.1 ≤ b then some r.2 else a) none).getD 0

/-- The die of this package that decides the frames of a bucket, as its host ports and F-dies see it (R290); none while
a pair has no Active die. -/
def State.bucketDie (s : State) (d b : Nat) : Option Nat :=
  let e := s.partEntry d b
  let t := e % 8
  if e.testBit 15 && decide (e / 8 % 256 = s.ownPkg d) && decide (t ∈ s.handleDies) then s.handleDie (t * 2 ^ 20)
  else s.servingDies.head?

end Sys2Proof.Machine
end

