-- ==== Sys2Proof/Machine/Tariff.lean ====
section
/-! DEFINITION. Tariff programs: their fields, the checks of R150, and the computation of local time, intervals and
the register in force (R151, R382). -/

namespace Sys2Proof.Machine

/-! ### Program fields (2,048 bytes) -/

def pVersion (p : Bytes) : Nat := leField p 0 1
def pNumber (p : Bytes) : Nat := leField p 1 1
def pRevision (p : Bytes) : Nat := leField p 2 2
def pIntLen (p : Bytes) : Nat := leField p 4 1
def pBillDay (p : Bytes) : Nat := leField p 5 1
/-- Local standard time minus UTC, signed minutes. -/
def pStdOffset (p : Bytes) : Int := toSigned 16 (leField p 6 2)
def pSeasons (p : Bytes) : Nat := leField p 8 1
def pDays (p : Bytes) : Nat := leField p 9 1
def pSpecial (p : Bytes) : Nat := leField p 10 1
def pDefaultReg (p : Bytes) : Nat := leField p 11 1
def pStanding (p : Bytes) : Nat := leField p 12 4
def pPrice (p : Bytes) (r : Nat) : Nat := leField p (16 + 4 * (r % 8)) 4
def pReconnectMin (p : Bytes) : Nat := leField p 48 4
def pCrc (p : Bytes) : Nat := leField p 60 4
def pSeaMonth (p : Bytes) (i : Nat) : Nat := leField p (64 + 12 * i) 1
def pSeaDay (p : Bytes) (i : Nat) : Nat := leField p (65 + 12 * i) 1
def pSeaDst (p : Bytes) (i : Nat) : Nat := leField p (66 + 12 * i) 1
/-- Day profile of weekday `w`, Monday 0. -/
def pSeaWeek (p : Bytes) (i w : Nat) : Nat := leField p (68 + 12 * i + w) 1
def pProfPoints (p : Bytes) (i : Nat) : Nat := leField p (160 + 56 * i) 1
def pFriendStart (p : Bytes) (i : Nat) : Nat := leField p (164 + 56 * i) 2
def pFriendEnd (p : Bytes) (i : Nat) : Nat := leField p (166 + 56 * i) 2
def pPointMin (p : Bytes) (i k : Nat) : Nat := leField p (168 + 56 * i + 4 * k) 2
def pPointReg (p : Bytes) (i k : Nat) : Nat := leField p (170 + 56 * i + 4 * k) 1
def pSpecYear (p : Bytes) (i : Nat) : Nat := leField p (1056 + 8 * i) 2
def pSpecMonth (p : Bytes) (i : Nat) : Nat := leField p (1058 + 8 * i) 1
def pSpecDay (p : Bytes) (i : Nat) : Nat := leField p (1059 + 8 * i) 1
def pSpecProf (p : Bytes) (i : Nat) : Nat := leField p (1060 + 8 * i) 1

/-! ### Calendar -/

/-- Year, month and day of a day number counted from 2000-01-01, in the Gregorian calendar. -/
def civil (days : Int) : Int × Nat × Nat :=
  let z := days + 730425
  let era := z / 146097
  let doe := (z - era * 146097).toNat
  let yoe := (doe - doe / 1460 + doe / 36524 - doe / 146096) / 365
  let doy := doe - (365 * yoe + yoe / 4 - yoe / 100)
  let mp := (5 * doy + 2) / 153
  let d := doy - (153 * mp + 2) / 5 + 1
  let m := if mp < 10 then mp + 3 else mp - 9
  (Int.ofNat yoe + era * 400 + (if m ≤ 2 then 1 else 0), m, d)

/-- Weekday of a day number, Monday 0: 2000-01-01 was a Saturday. -/
def weekday (days : Int) : Nat := ((days + 5) % 7).toNat

/-- Local standard time in seconds at a ledger second (R151). -/
def stdSec (p : Bytes) (tai s : Nat) : Int := Int.ofNat s - Int.ofNat tai + pStdOffset p * 60

/-- The season in force on a date: the last whose start date is not after it; the last season if none (R151). -/
def seasonAt (p : Bytes) (m d : Nat) : Nat :=
  let l := (List.range (pSeasons p)).filter (fun i => decide (pSeaMonth p i < m) || (pSeaMonth p i == m && decide (pSeaDay p i ≤ d)))
  l.getLast?.getD (pSeasons p - 1)

/-- Local time in seconds at a ledger second, and the season (R151). -/
def localSec (p : Bytes) (tai s : Nat) : Int × Nat :=
  let std := stdSec p tai s
  let c := civil (std / 86400)
  let i := seasonAt p c.2.1 c.2.2
  (std + Int.ofNat (pSeaDst p i) * 60, i)

/-- The special day of a date, if any (R382): a named year before every year, then the lowest number. -/
def specialAt (p : Bytes) (c : Int × Nat × Nat) : Option Nat :=
  let hit := (List.range (pSpecial p)).filter (fun i => pSpecMonth p i == c.2.1 && pSpecDay p i == c.2.2)
  match hit.find? (fun i => pSpecYear p i != 0 && decide (Int.ofNat (pSpecYear p i) = c.1)) with
  | some i => some i
  | none => hit.find? (fun i => pSpecYear p i == 0)

/-- The day profile in force for the local date at a ledger second (R151). -/
def profAt (p : Bytes) (tai s : Nat) : Nat :=
  let l := localSec p tai s
  let day := l.1 / 86400
  match specialAt p (civil day) with
  | some i => pSpecProf p i
  | none => pSeaWeek p l.2 (weekday day)

/-- Minute of the local day. -/
def minuteAt (p : Bytes) (tai s : Nat) : Nat := (((localSec p tai s).1 % 86400) / 60).toNat

/-- The register in force from a ledger second on (R151). -/
def regAt (p : Bytes) (tai s : Nat) : Nat :=
  let i := profAt p tai s
  let m := minuteAt p tai s
  let l := (List.range (min 12 (pProfPoints p i))).filter (fun k => decide (pPointMin p i k ≤ m))
  match l.getLast? with
  | some k => pPointReg p i k % 8
  | none => pDefaultReg p % 8

/-- A minute lies in a friendly window (R382). -/
def inFriendly (p : Bytes) (i m : Nat) : Bool :=
  let a := pFriendStart p i
  let b := pFriendEnd p i
  if a = 0xFFFF ∧ b = 0xFFFF then false
  else if a ≤ b then decide (a ≤ m ∧ m < b)
  else decide (a ≤ m) || decide (m < b)

/-- Local time at a ledger second is inside a friendly window. -/
def friendlyAt (p : Bytes) (tai s : Nat) : Bool := inFriendly p (profAt p tai s) (minuteAt p tai s)

/-- A local day begins at a ledger second: local midnight (R157, R158). -/
def dayBegins (p : Bytes) (tai s : Nat) : Bool :=
  decide ((localSec p tai s).1 / 86400 ≠ (localSec p tai (s - 1)).1 / 86400)

/-- A billing period of the program closes at a ledger second: local 00:00 of bill_day. -/
def billsAt (p : Bytes) (tai s : Nat) : Bool :=
  dayBegins p tai s && pBillDay p != 0 && (civil ((localSec p tai s).1 / 86400)).2.2 == pBillDay p

/-! ### Intervals (R151) -/

/-- Ledger second at which interval `n` starts; interval `n` ends at `intStart … (n + 1)`. -/
def intStart (p : Bytes) (tai : Nat) (n : Int) : Int :=
  n * Int.ofNat (pIntLen p) * 60 - pStdOffset p * 60 + Int.ofNat tai

/-- The interval that contains an LT in ticks: from its start, exclusive, to its end, inclusive. -/
def intOf (p : Bytes) (tai t : Nat) : Int :=
  let len := Int.ofNat (max 1 (pIntLen p) * 60 * 100000000)
  let x := Int.ofNat t - intStart p tai 0 * 100000000
  (x - 1) / len

/-- An interval of the program begins and ends at a ledger second. -/
def isBoundary (p : Bytes) (tai s : Nat) : Bool :=
  decide ((Int.ofNat s - intStart p tai 0) % Int.ofNat (max 1 (pIntLen p) * 60) = 0)

/-- The first boundary after a ledger second. -/
def nextBoundary (p : Bytes) (tai s : Nat) : Nat :=
  let len := max 1 (pIntLen p) * 60
  let r := ((Int.ofNat s - intStart p tai 0) % Int.ofNat len).toNat
  s + len - r

/-! ### The checks of R150 -/

/-- All of a list in strictly rising order. -/
def rising : List Nat → Bool
  | [] => true
  | [_] => true
  | a :: b :: t => decide (a < b) && rising (b :: t)

/-- A day profile of a program passes (R150). -/
def profOk (p : Bytes) (i : Nat) : Bool :=
  let n := pProfPoints p i
  let il := pIntLen p
  let mins := (List.range n).map (pPointMin p i)
  let fs := pFriendStart p i
  let fe := pFriendEnd p i
  decide (1 ≤ n ∧ n ≤ 12) && pPointMin p i 0 == 0 && rising mins
    && mins.all (fun m => decide (m < 1440) && m % il == 0)
    && (List.range n).all (fun k => decide (pPointReg p i k ≤ 7))
    && ((fs == 0xFFFF && fe == 0xFFFF) || (decide (fs ≤ 1439) && decide (fe ≤ 1440) && fs % il == 0 && fe % il == 0))

/-- The content of a program is valid (R150: else 0x0308). -/
def progOk (p : Bytes) : Bool :=
  let il := pIntLen p
  p.length == 2048 && pVersion p == 1
    && pCrc p == ieee32 (putBytes (p.take 2044) 60 (fillBytes 4 0))
    && decide (il ∈ [5, 10, 15, 30, 60]) && decide (pBillDay p ≤ 28)
    && decide (1 ≤ pSeasons p ∧ pSeasons p ≤ 8) && decide (1 ≤ pDays p ∧ pDays p ≤ 16) && decide (pSpecial p ≤ 64)
    && decide (pDefaultReg p ≤ 7) && decide (pStdOffset p % Int.ofNat il = 0)
    && (List.range (pDays p)).all (profOk p)
    && (List.range (pSeasons p)).all (fun i => pSeaDst p i == 0 || pSeaDst p i == 60)
    && (List.range (pSeasons p)).all (fun i => decide (1 ≤ pSeaMonth p i ∧ pSeaMonth p i ≤ 12 ∧ 1 ≤ pSeaDay p i ∧ pSeaDay p i ≤ 31))
    && rising ((List.range (pSeasons p)).map (fun i => 32 * pSeaMonth p i + pSeaDay p i))
    && (List.range (pSeasons p)).all (fun i => (List.range 7).all (fun w => decide (pSeaWeek p i w < pDays p)))
    && (List.range (pSpecial p)).all (fun i => decide (pSpecProf p i < pDays p))

end Sys2Proof.Machine
end

