-- ==== Sys2Proof/Machine/Ledger.lean ====
section
/-! DEFINITION. The ledger engine (06_ledger_tariffs): ledger time, the application of items, booking, boundaries,
prepayment and tamper records. -/

namespace Sys2Proof.Machine

def State.led (s : State) (d : Nat) : LedTab := (s.l d).led
def State.setLed (s : State) (d : Nat) (t : LedTab) : State := s.setL d { s.l d with led := t }

def State.tai (s : State) (d : Nat) : Nat := s.get d LEDG_UTC_tai_utc
/-- LT in ticks (R145). -/
def State.lt (s : State) (d : Nat) : Nat := (s.led d).lt / 10 ^ 9
/-- The present ledger second. -/
def State.ltSec (s : State) (d : Nat) : Nat := s.lt d / 10 ^ 8

/-- LEDG_STAT.lt_state: 0 Normal, 1 Slewing, 2 Hold. -/
def State.ltState (s : State) (d : Nat) : Nat := s.get d LEDG_STAT_lt_state
def State.held (s : State) (d : Nat) : Bool := s.ltState d == 2
def State.holdLt (s : State) (d : Nat) : Nat := s.get2 d LEDG_HOLD_LO_hold_lo LEDG_HOLD_HI_hold_hi
/-- The default tariff is in force (R148). -/
def State.defaultOn (s : State) (d : Nat) : Bool := s.flag d LEDG_STAT_default_tariff

/-- Ledger time and its tables travel to the substitute (R255). -/
def State.mirLed (s : State) (d : Nat) : State := s.mirAdd d (.ledger (s.ltState d) (s.holdLt d) (s.led d))

/-- Raise an event that names the meter of a record slot. -/
def State.raiseM (s : State) (d slot n : Nat) (args : Nat := 0) : State := s.raise d n args (s.slotHandle d slot)

/-! ### Ledger time (R145 to R149) -/

/-- Was the default tariff in force at an LT (R148)? It is in force at reset. -/
def State.defaultAt (s : State) (d t : Nat) : Bool :=
  match (s.led d).defHist.find? (fun e => decide (e.1 ≤ t)) with
  | some e => e.2
  | none => true

/-- DEFAULT_TARIFF_CHANGE (R148): the default tariff comes into or out of force. After a restart it is in force again whatever the
restored history says last. -/
def State.defaultCheck (s : State) (d : Nat) : State :=
  let on := s.get d LEDG_STAT_quality == 2 || s.held d
  let was := match (s.led d).defHist with
    | e :: _ => e.2
    | [] => true
  if on == s.defaultOn d && on == was then s
  else
    let s := if on == was then s else s.setLed d { s.led d with defHist := (s.lt d, on) :: (s.led d).defHist }
    let s := if on == s.defaultOn d then s else (s.putB d LEDG_STAT_default_tariff on).raise d 75 (arg 0 (b2n on))
    s.mirLed d

/-- Enter a clock discontinuity in the log (R146, R149) and in the archive (R233); 256 entries are kept. -/
def State.discLog (s : State) (d action : Nat) (step : Int) (devBefore : Nat) : State :=
  let seq := s.get d LEDG_DISC_IDX_next_seq
  let e := leBytes 4 seq ++ leBytes 1 action ++ leBytes 1 (s.get d LEDG_STAT_quality) ++ leBytes 2 0
    ++ leBytes 8 (ofSigned 64 step) ++ leBytes 8 devBefore ++ leBytes 8 (s.lt d)
  let l := (s.led d).disc ++ [e]
  let s := s.setLed d { s.led d with disc := l.drop (l.length - 256) }
  let s := (s.put d LEDG_DISC_IDX_next_seq (seq + 1)).inc d LEDG_DISC_CNT
  (s.arcAppend d 0x08 0 noHandle (s.lt d) e).mirLed d

/-- Enter Hold at the present LT. -/
def State.enterHold (s : State) (d : Nat) : State :=
  let s := s.put2 d LEDG_HOLD_LO_hold_lo LEDG_HOLD_HI_hold_hi (s.lt d)
  let s := s.put d LEDG_STAT_lt_state 2
  s.setLed d { s.led d with holdSince := s.now }

/-- LT leaves Hold: the log entry carries the hold's duration, and L-074 is raised (R147). -/
def State.endHold (s : State) (d action : Nat) : State :=
  let dur := Int.ofNat (s.now - (s.led d).holdSince)
  (s.discLog d action dur (s.devTime d)).raise d 74 (arg 0 action)

/-- LT equals device time from here on. -/
def State.ltNormal (s : State) (d : Nat) : State :=
  let s := s.put d LEDG_STAT_lt_state 0
  s.setLed d { s.led d with lt := max (s.led d).lt (s.com1 d).clk }

/-- LT slews toward device time, or is equal to it. -/
def State.ltSlew (s : State) (d : Nat) : State :=
  if (s.led d).lt = (s.com1 d).clk then s.ltNormal d else s.put d LEDG_STAT_lt_state 1

/-- HOLD_AUTO_END's effect: device time has reached LEDG_HOLD (R147). -/
def State.holdAutoEnd (s : State) (d : Nat) : State :=
  if s.held d && decide (s.holdLt d ≤ s.devTime d) then
    ((((s.endHold d 3).ltNormal d).mirLed d).defaultCheck d)
  else s

/-- LEDGER_TIME_RESPONSE (R146): device time of die `d` has stepped from `before` (ticks) to its present value. The
step is measured against LT while LT is not Normal. -/
def State.ltStep (s : State) (d before : Nat) : State :=
  let dev := s.devTime d
  let step : Int := if s.ltState d = 0 then Int.ofNat dev - Int.ofNat before else Int.ofNat dev - Int.ofNat (s.lt d)
  let two : Int := 200000000
  if s.held d then
    if -two ≤ step then
      -- device time is at LEDG_HOLD within the bound of a slew, or past it
      if step ≤ two then (((s.endHold d 3).ltSlew d).mirLed d).defaultCheck d
      else
        let s := s.endHold d 3
        let s := (s.discLog d 1 step before).raise d 72 (arg 0 (s.get d LEDG_DISC_IDX_next_seq))
        ((s.ltNormal d).mirLed d).defaultCheck d
    else (s.discLog d 2 step before).raise d 72 (arg 0 (s.get d LEDG_DISC_IDX_next_seq))
  else if -two ≤ step ∧ step ≤ two then (s.ltSlew d).mirLed d
  else if step > two then
    let s' := (s.discLog d 1 step before).raise d 72 (arg 0 (s.get d LEDG_DISC_IDX_next_seq))
    (s'.ltNormal d).mirLed d
  else
    let s' := s.enterHold d
    let s' := (s'.discLog d 2 step before).raise d 72 (arg 0 (s.get d LEDG_DISC_IDX_next_seq))
    ((s'.raise d 73).mirLed d).defaultCheck d

/-! ### Programs in force -/

/-- The latest content of a program that is in force from a ledger second on. -/
def verFrom (l : List ProgVer) (num sec : Nat) : Option Bytes :=
  let c := l.filter (fun v => v.num == num && decide (v.act ≤ sec))
  (c.foldl (fun (o : Option ProgVer) v => match o with
    | none => some v
    | some w => if w.act ≤ v.act then some v else some w) none).map (·.bytes)

/-- The content in force from a ledger second on, or else the earliest loaded. -/
def State.content (s : State) (d num sec : Nat) : Option Bytes :=
  match verFrom (s.led d).progs num sec with
  | some p => some p
  | none =>
    let c := (s.led d).progs.filter (fun v => v.num == num)
    (c.foldl (fun (o : Option ProgVer) v => match o with
      | none => some v
      | some w => if v.act < w.act then some v else some w) none).map (·.bytes)

/-- The ledger second at which an LT lies at the latest: an instant on a second belongs to it. -/
def secCeil (t : Nat) : Nat := (t + 99999999) / 100000000

/-- The program content for an instant: an instant on a boundary belongs to the interval that ends there. -/
def State.contentAt (s : State) (d num t : Nat) : Option Bytes := s.content d num (secCeil t - 1)

/-- The program number the meter had at a ledger second (R150). -/
def MRec.programAt (m : MRec) (sec : Nat) : Nat :=
  match m.past.find? (fun e => decide (sec < e.1)) with
  | some e => e.2
  | none => m.g rProgram

/-! ### Prepayment (R158 to R163) -/

/-- A state and the record being updated. -/
abbrev Upd := State × MRec

def isPrepay (m : MRec) : Bool := m.bit rFlags 1

/-- The floor of R159. -/
def ppFloor (m : MRec) : Int := if m.bit rPpFlags 1 then -Int.ofNat (m.g rEcLimit) else 0

/-- The Friendly conditions of R159, at a ledger second. -/
def State.ppFriendly (s : State) (d : Nat) (m : MRec) (sec : Nat) : Bool :=
  s.defaultOn d || s.ltState d != 0 ||
    (match s.content d (m.g rProgram) sec with
     | none => true
     | some p => friendlyAt p (s.tai d) sec)

/-- The prepayment state of R159, the first matching row. -/
def State.ppState (s : State) (d : Nat) (m : MRec) (sec : Nat) : Nat :=
  let b := m.gz rBalance
  if !isPrepay m then 0
  else if m.bit rReadFlags 5 then 7
  else if b > Int.ofNat (m.g rLow1) then 1
  else if b > 0 then 2
  else if b > ppFloor m then 3
  else if s.ppFriendly d m sec then 5
  else if m.bit rFlags 2 && m.bit rPpFlags 2 && s.flag d LEDG_CFG_auto_disconnect then 6
  else 4

/-- The low-credit events of R159 with their re-arming. -/
def State.ppLow (s : State) (d slot : Nat) (m : MRec) : Upd :=
  let b := m.gz rBalance
  let a := arg 0 (m.g rBalance)
  let l1 := Int.ofNat (m.g rLow1)
  let l2 := Int.ofNat (m.g rLow2)
  let s := if b < l1 ∧ m.low1 = false then s.raiseM d slot 66 a else s
  let s := if b < l2 ∧ m.low2 = false then s.raiseM d slot 67 a else s
  (s, { m with low1 := if b > l1 then false else m.low1 || decide (b < l1),
               low2 := if b > l2 then false else m.low2 || decide (b < l2) })

/-- PREPAYMENT_STATE_CHANGE (R159): pp_state is re-evaluated at a ledger second. RELAY_DOWNLINK (R161): entry into
Disconnect pending queues an open downlink, except for a wireless M-Bus meter. -/
def State.ppEval (s : State) (d slot : Nat) (m : MRec) (sec : Nat) : Upd :=
  let u := if isPrepay m then s.ppLow d slot m else (s, m)
  let s := u.1
  let m := u.2
  let new := s.ppState d m sec
  if new = m.g rPpState then (s, m)
  else
    let old := m.g rPpState
    let m := (m.p rPpState new).p rStateS sec
    let a := arg 0 (m.g rBalance)
    let s := if new = 3 then s.raiseM d slot 68 a
      else if new = 4 ∨ new = 5 then s.raiseM d slot 69 a
      else if new = 6 then s.raiseM d slot 70 a else s
    let m := if new = 6 then (if m.g rIdKind = 1 then m else { m with relay := some (0, 0) })
      else if old = 6 ∧ m.relay = some (0, 0) then { m with relay := none } else m
    (s, m)

/-- PREPAYMENT_DEBIT (R158). -/
def ppDebit (m : MRec) (share price : Nat) : MRec :=
  if !isPrepay m then m
  else
    let x := share * price + m.g rDebitCarry
    (m.pz rBalance (m.gz rBalance - Int.ofNat (x / 1000))).p rDebitCarry (x % 1000)

/-- A credit (R160): emergency credit is repaid when the balance rises from 0 or below to above 0. -/
def ppCredit (m : MRec) (amount : Int) : MRec :=
  let old := m.gz rBalance
  let m := m.pz rBalance (old + amount)
  if old ≤ 0 ∧ m.gz rBalance > 0 then m.pbit rPpFlags 1 false else m

/-- Emergency credit may be accepted (R160). -/
def ecAvailable (m : MRec) : Bool :=
  isPrepay m && m.bit rPpFlags 0 && !m.bit rPpFlags 1 && decide (m.gz rBalance ≤ Int.ofNat (m.g rLow1))

/-- TAMPER_OCCURRENCE (R163): an occurrence of a kind at an LT. -/
def State.tamper (s : State) (d slot : Nat) (m : MRec) (kind t : Nat) : Upd :=
  let sec := t / 10 ^ 8
  let n := m.g (rTamCount kind)
  let last := m.g (rTamLast kind)
  let dist := if sec ≤ last then last - sec else sec - last
  let s := s.inc d LEDG_TAMPER_CNT
  let s := if n ≠ 0 ∧ dist < 86400 then s else s.raiseM d slot 65 (arg 0 kind)
  let m := m.incr (rTamCount kind)
  let m := m.p (rTamFirst kind) (if n = 0 then sec else min (m.g (rTamFirst kind)) sec)
  (s, m.p (rTamLast kind) (if n = 0 then sec else max last sec))

/-- Several occurrences at one time. -/
def State.tampers (s : State) (d slot : Nat) (m : MRec) (t : Nat) : List Nat → Upd
  | [] => (s, m)
  | k :: ks => let u := s.tamper d slot m k t; u.1.tampers d slot u.2 t ks

/-! ### Balance contributions (R170, R171) -/

/-- The group interval that contains a ledger second, counted from its start exclusive (R170). -/
def gInt (gLen tai sec : Nat) : Nat := ((Int.ofNat sec - Int.ofNat tai - 1) / Int.ofNat (gLen * 60)).toNat
/-- Ledger second at which a group interval ends. -/
def gEnd (gLen tai n : Nat) : Nat := (n + 1) * gLen * 60 + tai

/-- Hand a contribution message to the network. -/
def State.sendContrib (s : State) (d dst : Nat) (c : Contrib) : State := s.sendLed d dst (.contrib c)

/-- The references of a record: head first, then the two memberships (R168). -/
def State.recRefs (s : State) (d : Nat) (m : MRec) : List (Bool × Ref) :=
  let r (head : Bool) (f : RF) : List (Bool × Ref) :=
    match smGet (s.l d).bal.refs (m.g f) with
    | some x => if m.g f = 0xFFFF then [] else [(head, x)]
    | none => []
  r true rBalHead ++ r false rBalMember0 ++ r false rBalMember1

/-- Sums of (group interval, units), one entry per interval, in rising order. -/
def gSums (gLen tai : Nat) (l : List (Nat × Nat)) : SMap Nat :=
  l.foldl (fun acc e => let n := gInt gLen tai e.1; smPut acc n ((smGet acc n).getD 0 + e.2)) []

/-- CONTRIBUTION_SEND (R171): `l` lists the ends of the intervals booked, in ledger seconds, and their units; `t`
is the new last_read_lt. -/
def State.sendContribs (s : State) (d slot : Nat) (m : MRec) (l : List (Nat × Nat)) (t : Nat) (cb dt : Bool) : State :=
  (s.recRefs d m).foldl (fun s r =>
    (gSums r.2.gLen (s.tai d) l).foldl (fun s e =>
      s.sendContrib d r.2.addr {
        head := r.1, covered := decide (gEnd r.2.gLen (s.tai d) e.1 * 10 ^ 8 ≤ t), clockBack := cb, defTariff := dt,
        phase := m.g rPhaseAsg, group := r.2.group, handle := s.slotHandle d slot, n := e.1, value := e.2 }) s) s

/-- The covered messages of a meter's first reading (R171): value 0 for the last group interval that has ended. -/
def State.sendFirst (s : State) (d slot : Nat) (m : MRec) (t : Nat) : State :=
  (s.recRefs d m).foldl (fun s r =>
    let n := gInt r.2.gLen (s.tai d) (t / 10 ^ 8 + 1)
    if n = 0 then s
    else s.sendContrib d r.2.addr {
      head := r.1, covered := true, clockBack := false, defTariff := false, phase := m.g rPhaseAsg, group := r.2.group, handle := s.slotHandle d slot, n := n - 1, value := 0 }) s

/-! ### Booking (R154) -/

/-- The shares of an advance over the intervals from the last reading to `t` (R154): interval and units. -/
def shares (p : Bytes) (tai last t delta amax : Nat) : List (Int × Nat) :=
  let n1 := intOf p tai t
  if t ≤ last then [(n1, delta)]
  else
    let n0 := intOf p tai (last + 1)
    let first := max n0 (n1 - Int.ofNat amax + 1)
    let span := t - last
    let l := (List.range ((n1 - first).toNat + 1)).map fun k =>
      let n := first + Int.ofNat k
      let lo := if k = 0 then last else max last (intStart p tai n * 100000000).toNat
      let hi := min t (intStart p tai (n + 1) * 100000000).toNat
      (n, delta * (hi - lo) / span)
    let rest := delta - (l.map (·.2)).foldl (· + ·) 0
    l.dropLast ++ (match l.getLast? with
      | some e => [(e.1, e.2 + rest)]
      | none => [])

/-- An interval number as the record and the column keep it. -/
def n32 (n : Int) : Nat := ofSigned 32 n

/-- Units of an interval added to those whose column is still to be written. -/
def addIval (l : List IVal) (n units : Nat) (cb : Bool) : List IVal :=
  match l with
  | [] => [⟨n, units, cb⟩]
  | x :: xs => if x.n = n then { x with units := x.units + units, clockBack := x.clockBack || cb } :: xs
    else x :: addIval xs n units cb

/-- What a booking gathers share by share. -/
structure Booking where
  late : Bool := false
  /-- the default tariff applied to the share of the last interval -/
  dfltLast : Bool := false
  lastUnits : Nat := 0
  /-- interval ends (ledger seconds) and units finally booked, for the balance groups -/
  ends : List (Nat × Nat) := []

/-- One share of R154: register, demand of an interval that LT or the reading has passed, debit with the state after it (R159), column
value or amendment (R235). -/
def State.bookShare (s : State) (d slot : Nat) (m : MRec) (p : Bytes) (n1 : Int) (cb : Bool) (bk : Booking)
    (sh : Int × Nat) : State × MRec × Booking :=
  let tai := s.tai d
  let n := sh.1
  let share := sh.2
  let start := (intStart p tai n).toNat
  let fin := (intStart p tai (n + 1)).toNat
  let pc := (s.content d (m.programAt start) start).getD p
  let dflt := s.defaultOn d || s.defaultAt d (start * 10 ^ 8)
  let reg := if dflt then pDefaultReg pc % 8 else regAt pc tai start
  let closed := decide (fin * 10 ^ 8 ≤ m.g rPeriodStartLt)
  let nf := if closed then intOf p tai (m.g rPeriodStartLt + 1) else n
  let ff := (intStart p tai (nf + 1)).toNat
  let s := if closed then s.inc d LEDG_LATE_CNT else s
  let m := m.p (rTou reg) (m.g (rTou reg) + share)
  let isOpen := m.g rIntOpen = n32 n
  let m := if isOpen then m.p rIntAcc (m.g rIntAcc + share) else m
  let val := if isOpen then m.g rIntAcc else share
  let m := if closed = false ∧ (fin ≤ s.ltSec d ∨ n < n1) ∧ m.g (rMd reg) < val then
      (m.p (rMd reg) (min val 0xFFFFFFFF)).p (rMdAt reg) fin else m
  let u := s.ppEval d slot (ppDebit m share (pPrice pc reg)) (s.ltSec d)
  let s := u.1
  let m := u.2
  let written := decide ((intStart p tai (nf + 1 + Int.ofNat (s.get d ARC_CFG_col_delay))).toNat ≤ s.get d LEDG_SWEEP_boundary)
  let s := if written then
      let a : Amend := { handle := s.slotHandle d slot, lt := s.lt d, n := n32 nf, share := share }
      (s.amendPut d a).mirAdd d (.amend a) else s
  let m := if written then m else { m with ivals := addIval m.ivals (n32 nf) share cb }
  (s, m, { late := bk.late || closed, dfltLast := if n = n1 then dflt else bk.dfltLast,
           lastUnits := if n = n1 then share else bk.lastUnits, ends := bk.ends ++ [(ff, share)] })

def State.bookShares (s : State) (d slot : Nat) (m : MRec) (p : Bytes) (n1 : Int) (cb : Bool) (bk : Booking) :
    List (Int × Nat) → State × MRec × Booking
  | [] => (s, m, bk)
  | x :: xs => let r := s.bookShare d slot m p n1 cb bk x; r.1.bookShares d slot r.2.1 p n1 cb r.2.2 xs

/-- BOOKING (R154): book an advance `delta` up to `t`. -/
def State.book (s : State) (d slot : Nat) (m : MRec) (p : Bytes) (delta t index : Nat) : Upd :=
  let tai := s.tai d
  let held := s.held d
  let n1 := intOf p tai t
  let amax := max 1 (s.get d LEDG_CFG_apportion_max)
  let r := s.bookShares d slot m p n1 held {} (shares p tai (m.g rLastReadLt) t delta amax)
  let s := r.1
  let m := r.2.1
  let bk := r.2.2
  let m := if m.g rIntOpen = n32 n1 then m
    else ((m.p rIntOpen (n32 n1)).p rIntAcc bk.lastUnits).p rIntFlags 0
  let m := if held then m.pbit rIntFlags 0 true else m
  let m := if bk.dfltLast then m.pbit rIntFlags 1 true else m
  let s := if held then s.inc d LEDG_CLOCKBACK_CNT else s
  let m := (m.pbit rReadFlags 4 held).pbit rReadFlags 7 bk.late
  let m := ((m.p rLastIndex index).p rLastReadLt t).incr rBooked
  let s := (s.inc d LEDG_BOOK_CNT).sendContribs d slot m bk.ends t held (s.defaultOn d)
  (s, m)

/-! ### Items (R152, R153) -/

inductive LItem where
  | reading (flags unit age index : Nat)
  /-- a reading item that is not well formed -/
  | badReading
  | tamper (kinds age : Nat)
  | power (state age : Nat)
  | emergency
  deriving DecidableEq, Repr

/-- One item from its type and bytes; other types are skipped. -/
def itemOf (typ : Nat) (b : Bytes) : Option LItem :=
  if typ = 0x01 then
    some (if b.length = 10 then .reading (leField b 0 1) (leField b 1 1) (leField b 2 2) (leField b 4 6) else .badReading)
  else if typ = 0x02 ∧ b.length = 4 then some (.tamper (leField b 0 1) (leField b 2 2))
  else if typ = 0x03 ∧ b.length = 4 then some (.power (leField b 0 1) (leField b 2 2))
  else if typ = 0x04 ∧ b.length = 0 then some .emergency
  else none

/-- The items of a payload after its control byte, in payload order; an item cut short by the payload's end is a
malformed reading if its type is 0x01, and otherwise skipped. -/
def parseItems : Nat → Bytes → List LItem
  | 0, _ => []
  | f + 1, t :: l :: r =>
    if r.length < l.toNat then (if t.toNat = 0x01 then [.badReading] else [])
    else match itemOf t.toNat (r.take l.toNat) with
      | some i => i :: parseItems f (r.drop l.toNat)
      | none => parseItems f (r.drop l.toNat)
  | _ + 1, [t] => if t.toNat = 0x01 then [.badReading] else []
  | _ + 1, [] => []

/-- Skip extension bytes of a DIF or VIF: each byte with bit 7 set is followed by another. -/
def skipExt : Nat → Bytes → Bytes
  | 0, b => b
  | f + 1, x :: r => if x.toNat ≥ 128 then skipExt f r else r
  | _ + 1, [] => []

/-- Value of binary coded decimal digits, least significant byte first. -/
def bcd : Bytes → Nat
  | [] => 0
  | b :: r => b.toNat % 16 + 10 * (b.toNat / 16) + 100 * bcd r

/-- The value of the first wireless M-Bus data record whose DIF and VIF match (R153). -/
def wmbIndex (dif vif : Nat) : Nat → Bytes → Option Nat
  | 0, _ => none
  | _ + 1, [] => none
  | f + 1, x :: r =>
    if x.toNat = 0x2F then wmbIndex dif vif f r
    else if x.toNat % 16 = 15 then none
    else
      let r1 := if x.toNat ≥ 128 then skipExt f r else r
      match r1 with
      | [] => none
      | v :: r2 =>
        let r3 := if v.toNat ≥ 128 then skipExt f r2 else r2
        let c := x.toNat % 16
        let len := if c = 13 then 1 + leField r3 0 1 else [0, 1, 2, 3, 4, 4, 6, 8, 0, 1, 2, 3, 4, 0, 6].getD c 0
        if r3.length < len then none
        else if x.toNat = dif ∧ v.toNat = vif then
          some (if c ≤ 8 then leNat (r3.take len) else bcd (r3.take len))
        else wmbIndex dif vif f (r3.drop len)

/-- The items of a packet: those of the payload, or the index record of a wireless M-Bus frame. -/
def packetItems (m : MRec) (p : Packet) : List LItem :=
  if p.kind = 4 ∨ p.kind = 5 ∨ p.kind = 6 then []
  else if p.wmb then
    (match wmbIndex (m.g rWmbMatch % 256) (m.g rWmbMatch / 256) p.plain.length p.plain with
     | some i => [.reading 0 (m.g rUnit) 0 i]
     | none => [])
  else parseItems p.plain.length (p.plain.drop 1)

/-- READING_REJECTED (R153). -/
def State.reject (s : State) (d slot : Nat) (m : MRec) (status : Nat) : State × MRec × Nat :=
  let s := s.inc d LEDG_REJECT_CNT
  let s := if limiterOpen (s.l d).lim064 s.now 100000000 then
      (s.setL d { s.l d with lim064 := some s.now }).raiseM d slot 64 (arg 0 status) else s
  (s, m.incr rRejCount, status)

/-- The flags byte of a reading that passes rules 1 to 3 (R153, R163). -/
def State.readFlags (s : State) (d slot : Nat) (m : MRec) (flags t : Nat) : Upd :=
  let ks := (List.range 4).filter (fun k => flags.testBit k && !m.bit rReadFlags k)
  let u := s.tampers d slot m t ks
  let m := (List.range 4).foldl (fun m k => MRec.pbit m rReadFlags k (flags.testBit k)) u.2
  (u.1, (m.pbit rReadFlags 5 (flags.testBit 5)).pbit rReadFlags 6 (flags.testBit 4))

/-- Rules 5 and 6 of R153, then the booking. -/
def State.readingTail (s : State) (d slot : Nat) (m : MRec) (p : Bytes) (t index : Nat) : State × MRec × Nat :=
  let last := m.g rLastIndex
  let dg := m.g rDigits
  let roll := dg ≠ 0 ∧ 9 * 10 ^ dg ≤ 10 * last ∧ 10 * index < 10 ^ dg
  if index < last ∧ ¬ roll then
    let u := s.tamper d slot m 4 t
    u.1.reject d slot u.2 0x0304
  else
    let delta := if index ≥ last then index - last else 10 ^ dg - last + index
    let span := max (10 ^ 8) (t - m.g rLastReadLt)
    if m.g rMaxRate ≠ 0 ∧ s.held d = false ∧ m.g rMaxRate * span < delta * 3600 * 10 ^ 8 then
      let u := s.tamper d slot m 5 t
      u.1.reject d slot u.2 0x0305
    else
      let u := s.book d slot m p delta t index
      let v := u.1.ppEval d slot u.2 (u.1.ltSec d)
      (v.1, v.2, 0)

/-- The validation rules of R153 in order, and the first reading of a Provisioned record. -/
def State.reading (s : State) (d slot : Nat) (m : MRec) (gone : Bool) (flags unit t index : Nat) (bad : Bool) :
    State × MRec × Nat :=
  if gone then s.reject d slot m 0x0301
  else if m.g rState = 3 then s.reject d slot m 0x0302
  else match s.contentAt d (m.g rProgram) t with
    | none => s.reject d slot m 0x0309
    | some p =>
      let first := m.g rState = 1
      if bad ∨ unit ≠ m.g rUnit then s.reject d slot m 0x0303
      else if ¬ first ∧ t < m.g rLastReadLt then s.reject d slot m 0x0306
      else
        let u := s.readFlags d slot m flags t
        let s := u.1
        let m := u.2
        if s.lt d + s.get d LEDG_CFG_future_tol * 6000000000 < t then
          let v := s.ppEval d slot m (s.ltSec d)
          v.1.reject d slot v.2 0x0307
        else if first then
          let m := ((m.p rLastIndex index).p rLastReadLt t).p rState 2
          let m := (m.p rIntOpen (n32 (intOf p (s.tai d) t))).p rIntAcc 0
          let s := s.sendFirst d slot m t
          let v := s.ppEval d slot m (s.ltSec d)
          (v.1, v.2, 0)
        else s.readingTail d slot m p t index

/-- A power-state item: at a boundary not yet processed it waits for step 4 (R156). -/
def State.powerItem (s : State) (d : Nat) (m : MRec) (state t : Nat) : MRec :=
  let sec := t / 10 ^ 8
  match s.contentAt d (m.g rProgram) t with
  | some p =>
    if t % 10 ^ 8 = 0 ∧ isBoundary p (s.tai d) sec ∧ m.done < sec then { m with pwr := some (sec, state % 2) }
    else (m.p rPwrState (state % 2)).p rPwrChangeS sec
  | none => (m.p rPwrState (state % 2)).p rPwrChangeS sec

/-- The capture time of an item (R152): LEDG_HOLD in Hold. -/
def State.captureOf (s : State) (d capture age : Nat) : Nat :=
  if s.held d then s.holdLt d else capture - age * 10 ^ 8

/-- Apply one item; the status is that of a reading. -/
def State.applyItem (s : State) (d slot : Nat) (m : MRec) (gone : Bool) (capture : Nat) :
    LItem → State × MRec × Option Nat
  | .reading flags unit age index =>
    let r := s.reading d slot m gone flags unit (s.captureOf d capture age) index false
    (r.1, r.2.1, some r.2.2)
  | .badReading =>
    let r := s.reading d slot m gone 0 0 (s.captureOf d capture 0) 0 true
    (r.1, r.2.1, some r.2.2)
  | .tamper kinds age =>
    if gone then (s, m, none)
    else
      let u := s.tampers d slot m (s.captureOf d capture age) ([0, 1, 2, 3, 7].filter (fun k => kinds.testBit k))
      (u.1, u.2, none)
  | .power state age => if gone then (s, m, none) else (s, s.powerItem d m state (s.captureOf d capture age), none)
  | .emergency =>
    if gone ∨ ecAvailable m = false then (s, m, none)
    else
      let u := s.ppEval d slot (m.pbit rPpFlags 1 true) (s.ltSec d)
      (u.1, u.2, none)

def State.applyItems (s : State) (d slot : Nat) (m : MRec) (gone : Bool) (capture : Nat) (st : Nat) :
    List LItem → State × MRec × Nat
  | [] => (s, m, st)
  | i :: is =>
    let r := s.applyItem d slot m gone capture i
    r.1.applyItems d slot r.2.1 gone capture (r.2.2.getD st) is

/-! ### Boundaries (R156, R157) -/

/-- The next boundary of a record after the last one processed: an interval boundary of its program, an
activation of that program, or its pending set-program. -/
def State.recNext (s : State) (d : Nat) (m : MRec) : Option Nat :=
  let num := m.g rProgram
  let a := match verFrom (s.led d).progs num m.done with
    | some p => [nextBoundary p (s.tai d) m.done]
    | none => []
  let b := ((s.led d).progs.filter (fun v => v.num == num && decide (m.done < v.act))).map (·.act)
  let c := match m.move with
    | some (t, _) => if m.done < t then [t] else []
    | none => []
  (a ++ b ++ c).foldl (fun (o : Option Nat) x => match o with
    | none => some x
    | some y => some (min x y)) none

/-- BILLING_CLOSE (R157): the snapshot goes to the archive, md clears, the next period opens. -/
def State.billClose (s : State) (d slot : Nat) (m : MRec) (p : Bytes) (b : Nat) : Upd :=
  let body := m.gb rPeriodNo ++ m.gb rProgram ++ leBytes 2 (pRevision p) ++ slice m.bytes 192 64 ++ slice m.bytes 256 64
    ++ m.gb rBalance ++ slice m.bytes 360 96 ++ fillBytes 8 0
  let s := s.arcAppend d 0x05 0 (s.slotHandle d slot) (b * 10 ^ 8) body
  let s := s.setLed d { s.led d with billed := if b ∈ (s.led d).billed then (s.led d).billed else (s.led d).billed ++ [b] }
  let m := { m with bytes := putBytes m.bytes 256 (fillBytes 64 0) }
  (s, (m.p rPeriodNo (m.g rPeriodNo + 1)).p rPeriodStartLt (b * 10 ^ 8))

/-- BOUNDARY_PROCESSING (R156): the five steps at boundary `b`. -/
def State.boundary (s : State) (d slot : Nat) (m : MRec) (b : Nat) : Upd :=
  let tai := s.tai d
  let p0 := (s.content d (m.g rProgram) (b - 1)).getD []
  -- 1: the interval that ends at b
  let r := m.g rTouNow
  let m := if m.g rIntOpen = n32 (intOf p0 tai (b * 10 ^ 8)) ∧ m.g (rMd r) < m.g rIntAcc then
      (m.p (rMd r) (min (m.g rIntAcc) 0xFFFFFFFF)).p (rMdAt r) b else m
  -- 2: the billing period
  let bills := billsAt p0 tai b || (pBillDay p0 == 0 && decide (b ∈ (s.led d).closes) && isBoundary p0 tai b)
  let u := if bills && decide (1 ≤ m.g rState) && decide (m.g rState ≤ 3) then s.billClose d slot m p0 b else (s, m)
  let s := u.1
  let m := u.2
  -- 3: the tariff
  let m := match m.move with
    | some (t, n) => if t = b then { m.p rProgram n with move := none, past := m.past ++ [(b, m.g rProgram)] } else m
    | none => m
  let p := (s.content d (m.g rProgram) b).getD p0
  let m := if s.defaultOn d then m else m.p rTouNow (regAt p tai b)
  -- 4: the power state
  let m := match m.pwr with
    | some (t, st) => if t = b then { (m.p rPwrState st).p rPwrChangeS b with pwr := none } else m
    | none => m
  -- 5: prepayment, with the standing charge at local midnight
  let m := if isPrepay m && dayBegins p tai b then m.pz rBalance (m.gz rBalance - Int.ofNat (pStanding p)) else m
  let v := s.ppEval d slot m b
  (v.1, { v.2 with done := b })

/-- One boundary of a record in one record update (R156), as the record then stands. -/
def State.boundaryUpdate (s : State) (d slot : Nat) (m : MRec) (b : Nat) : Upd :=
  let u := s.boundary d slot m b
  let s := (u.1.update d slot u.2).mirSend d
  (s, s.rawRec d slot)

/-- Process the pending boundaries of a record up to a ledger second, in ascending order. -/
def State.catchUp (s : State) (d slot : Nat) (m : MRec) (upTo : Nat) : Nat → Upd
  | 0 => (s, m)
  | f + 1 =>
    match s.recNext d m with
    | none => (s, { m with done := max m.done upTo })
    | some b => if upTo < b then (s, m) else let u := s.boundaryUpdate d slot m b; u.1.catchUp d slot u.2 upTo f

/-- The number of boundaries that can be pending: intervals last 5 minutes or more. -/
def State.pendingBound (s : State) (d : Nat) (m : MRec) (upTo : Nat) : Nat :=
  (upTo - m.done) / 300 + (s.led d).progs.length + 3

/-- The record with all its boundaries up to the present LT processed, each in an update of its own, for an item or command (R156). -/
def State.current (s : State) (d slot : Nat) (m : MRec) : Upd :=
  if m.g rState = 0 then (s, m) else s.catchUp d slot m (s.ltSec d) (s.pendingBound d m (s.ltSec d))

/-! ### Applying a packet (R155, R191, R232, R233) -/

/-- The archive entry of a reading (0x01, or 0x02 in summary form), or of an Accept without one (0x0A). `credit`: one of its items made
the record accept emergency credit. -/
def State.arcReading (s : State) (d : Nat) (p : Packet) (m : MRec) (items : List LItem) (st : Nat) (t : Nat)
    (credit : Bool) : State :=
  let fl := 2 * b2n (p.flags.testBit 0) + 4 * b2n (m.bit rReadFlags 4) + 8 * b2n (s.defaultOn d)
  let hasReading := items.any (fun i => match i with
    | .reading _ _ _ _ => true
    | .badReading => true
    | _ => false)
  if !hasReading then
    s.arcAppend d 0x0A (2 * b2n (p.flags.testBit 0)) p.handle t (leBytes 1 0 ++ leBytes 3 0 ++ leBytes 4 p.counter ++ slice p.mic8 0 8)
  else
    let full := leBytes 2 st ++ leBytes 2 p.plain.length ++ leBytes 4 p.seq ++ leBytes 4 p.counter ++ leBytes 4 0
      ++ slice p.mic8 0 8 ++ p.plain
    if s.flag d ARC_STAT_summary then
      let idx := items.foldl (fun a i => match i with
        | .reading _ _ _ x => x
        | _ => a) 0
      let bits := items.foldl (fun a i => match i with
        | .reading f _ _ _ => a ||| (f % 16)
        | .tamper k _ => a ||| (k % 16) ||| (if k.testBit 7 then 16 else 0)
        | .power st _ => a ||| (if st % 2 = 1 then 32 else 64)
        | .emergency => a ||| (if credit then 128 else 0)
        | .badReading => a) 0
      let s := s.arcAppend d 0x02 (fl + 1) p.handle t
        (leBytes 6 idx ++ leBytes 1 bits ++ leBytes 1 0 ++ leBytes 4 p.counter ++ leBytes 4 0 ++ slice p.mic8 0 8)
      s.setArc d { s.arc d with hourFull := (s.arc d).hourFull + arcLen full - 40 }
    else s.arcAppend d 0x01 fl p.handle t full

/-- The ledger's part in a packet: its items applied to the record of its handle in one record update. -/
def State.applyPacket (s : State) (d : Nat) (p : Packet) : State × Nat :=
  if p.kind = 4 ∨ p.kind = 5 ∨ p.kind = 6 then (s, 0)
  else
    let slot := p.handle % 2 ^ 20
    let f := s.fetch d slot
    match f.1 with
    | none => (f.2, 0x030E)
    | some m =>
      let u := f.2.current d slot m
      let gone := u.2.g rState = 0 ∨ u.2.g rState = 4 ∨ u.2.gb rIdentity ≠ slice p.identity 0 8
      let items := packetItems u.2 p
      let r := u.1.applyItems d slot u.2 (decide gone) p.capture 0 items
      let age := (items.filterMap (fun i => match i with
        | .reading _ _ a _ => some a
        | _ => none)).getLast?.getD 0
      let s := (r.1.update d slot r.2.1).arcReading d p r.2.1 items r.2.2 (f.2.captureOf d p.capture age)
        (!u.2.bit rPpFlags 1 && r.2.1.bit rPpFlags 1)
      (s, r.2.2)

end Sys2Proof.Machine
end

