-- ==== Sys2Proof/Machine/Queue.lean ====
section
/-! DEFINITION. The spill queues of an L-die (08_deadline_queues): admission, packets, application in class order,
host-held time and delivery. -/

namespace Sys2Proof.Machine

def State.que (s : State) (d c : Nat) : Queue := (s.l d).ques.getD c {}
def State.setQue (s : State) (d c : Nat) (q : Queue) : State := s.setL d { s.l d with ques := (s.l d).ques.set c q }

/-- Packet length (R194): slot word, item header and payload, a multiple of 16, at least 48. -/
def Packet.len (p : Packet) : Nat := max 48 (roundUp (40 + p.payload.length) 16)

def pktBytes (l : List Packet) : Nat := l.foldl (fun a p => a + p.len) 0
/-- Bytes of a queue. -/
def Queue.bytes (q : Queue) : Nat := pktBytes q.packets
def Queue.work (q : Queue) : Nat := q.packets.foldl (fun a p => if p.applied then a else a + p.cost) 0
def Queue.windowWork (q : Queue) : Nat := q.window.foldl (· + ·) 0

def State.queCapacity (s : State) (d c : Nat) : Nat := (s.get d QUE_n_MID_SIZE_kib c + 64) * 1024
/-- QUE_SAVE.limit_kib in bytes: values outside 256 to 4,096 act as 4,096. -/
def State.saveKib (s : State) (d : Nat) : Nat :=
  let k := s.get d QUE_SAVE_limit_kib
  if k < 256 ∨ 4096 < k then 4096 else k
def State.swBudget (s : State) (d : Nat) : Nat :=
  let k := s.get d QUE_SW_budget_us
  if k < 250 ∨ 2000 < k then 500 else k
def State.dieQueueBytes (s : State) (d : Nat) : Nat := (s.l d).ques.foldl (fun a q => a + q.bytes) 0

/-- Class deadlines in µs (R184). -/
def classDeadline (c : Nat) : Nat := [2000, 10000, 100000, 2000000].getD c 2000000

/-- hold_limit in ticks: units of 10 ms, 0 acts as 1 (R187). -/
def State.holdLimit (s : State) (d c : Nat) : Nat := max 1 (s.get d QUE_n_CFG_hold_limit c) * 1000000

/-- The present hold exceeds hold_limit (R187). -/
def State.holdOver (s : State) (d c : Nat) : Bool :=
  match (s.que d c).heldSince with
  | some t => decide (t + s.holdLimit d c < s.now)
  | none => false

/-- Ticks for which the class ring has been full so far. -/
def State.heldTicks (s : State) (d c : Nat) : Nat :=
  (s.que d c).heldTotal + (match (s.que d c).heldSince with
    | some t => s.now - t
    | none => 0)

/-- A packet that comes to another die, or back after a power loss, keeps the holds counted so far. -/
def Packet.rebase (p : Packet) (old new : Nat) : Packet := { p with held := p.held + (old - p.heldAt), heldAt := new }

/-- QUE_n_HELD_CNT with the hold in progress. -/
def State.heldMs (s : State) (d c : Nat) : Nat :=
  satAdd32 (s.get d QUE_n_HELD_CNT c) (s.heldTicks d c / 100000 - (s.que d c).heldCounted / 100000)

/-- The hold in progress is counted up to now. -/
def State.countHeld (s : State) (d c : Nat) : State :=
  (s.put d QUE_n_HELD_CNT (s.heldMs d c) c).setQue d c { s.que d c with heldCounted := s.heldTicks d c }

/-! ### Admission (R188, R189) -/

/-- The transit term of R189 in µs: 10 on the die whose own port serves the class's ring group, 30 elsewhere. -/
def State.transitUs (s : State) (d c : Nat) : Nat := if s.groupPort (s.classGroup c) = d then 10 else 30

/-- The pair of the die is protected, so that the switchover reserve applies. -/
def State.isProtected (s : State) (d : Nat) : Bool := s.get d MIRR_STAT_pair_state == 1

/-- The delay test of R189 at an effective rate of `r` updates per 700 us, with both sides multiplied by
10 × r × (100 − claimed). -/
def lateTest (r work claimed items fixed deadline : Nat) : Bool :=
  decide (100 ≤ claimed) ||
    decide (deadline * 10 * r * (100 - claimed) <
      work * 700000 + claimed * r * 100000 + items * r * (100 - claimed) + fixed * 10 * r * (100 - claimed))

/-- The procedure of R189 for an item of class `c`, cost `w` and packet length `b`: the reason to defer it, if any. -/
def State.judge (s : State) (d c w b handle : Nat) : Option Nat :=
  let q := s.que d c
  if s.get d QUE_n_STAT_state c ≠ 1 then some 0x0A01
  else if s.holdOver d c then some 0x0A04
  else if s.queCapacity d c < q.bytes + b ∨ s.saveKib d * 1024 < s.dieQueueBytes d + b then some 0x0A02
  else if c < 3 ∧ s.get d QUE_n_CFG_share c * s.rEff d < 7 * (q.windowWork + w) then some 0x0A05
  else
    let lower := [0, 1, 2, 3].filter (fun j => decide (c < j))
    let upTo := [0, 1, 2, 3].filter (fun j => decide (j ≤ c))
    let higher := [0, 1, 2, 3].filter (fun j => decide (j < c))
    let pend := lower.foldl (fun a j => a + ((s.que d j).packets.filter (fun p => p.handle == handle)).foldl
      (fun a p => if p.applied then a else a + p.cost) 0) 0
    let work := w + pend + upTo.foldl (fun a j => a + (s.que d j).work) 0
    let items := 1 + upTo.foldl (fun a j => a + (s.que d j).packets.length) 0
    let claimed := higher.foldl (fun a j => a + s.get d QUE_n_CFG_share j) 0
    let reserve := if s.isProtected d then s.swBudget d else 0
    if lateTest (s.rEff d) work claimed items (54 + s.transitUs d c + reserve) (classDeadline c) then some 0x0A03
    else none

/-- A refusal (R189): the class shows refusing, L-098 is raised after a second without one, and for a frame the
deferral is counted. -/
def State.deferItem (s : State) (d c reason : Nat) (frame : Bool) : State :=
  let q := s.que d c
  let s := s.putB d QUE_n_STAT_refusing true c
  let s := if limiterOpen q.lastRefusal s.now 100000000 then s.raise d 98 (arg 0 c + arg 2 reason) else s
  let i := reason - 0x0A01
  let q := { q with lastRefusal := some s.now,
                    deferred := if frame then q.deferred.set i (q.deferred.getD i 0 + 1) else q.deferred }
  let s := s.setQue d c q
  if frame then s.inc d QUE_n_DEFER_CNT 1 c else s

/-- PACKET_RESERVE (R194): an admitted item takes its place at the write position; its packet goes to the substitute
with the mirror message of the update (R197). -/
def State.reserve (s : State) (d : Nat) (p : Packet) : State × Packet :=
  let c := p.cls
  let q := s.que d c
  let seq := s.get d QUE_n_SEQ_next_seq c
  let p := { p with seq := seq, part := .tail, committed := false, heldAt := s.heldTicks d c, order := (s.l d).orderNext }
  let win := match q.window with
    | [] => [p.cost]
    | x :: xs => (x + p.cost) :: xs
  let s := s.setQue d c { q with packets := q.packets ++ [p], window := win }
  let s := s.setL d { s.l d with orderNext := (s.l d).orderNext + 1 }
  let s := ((s.put d QUE_n_SEQ_next_seq (seq + 1) c).inc d QUE_n_ADMIT_CNT 1 c).putB d QUE_n_STAT_refusing false c
  (s.mirAdd d (.packet { p with committed := true }), p)

/-! ### Changing a packet -/

def setPkt (l : List Packet) (seq : Nat) (f : Packet → Packet) : List Packet :=
  l.map (fun p => if p.seq = seq then f p else p)

/-- PACKET_COMMIT (R194): the oldest copy in progress on die `d` ends. -/
def execPacketCommit (d c : Nat) (s : State) : Res :=
  onL s d <|
    let q := s.que d c
    match q.packets.find? (fun p => !p.committed) with
    | none => s
    | some p => s.setQue d c { q with packets := setPkt q.packets p.seq (fun p => { p with committed := true }) }

/-! ### Movement through the parts (R193) -/

def inPart (q : Queue) (x : QPart) : List Packet := q.packets.filter (fun p => p.part == x)
/-- Free bytes of the head segment. -/
def headFree (q : Queue) : Nat := 32768 - pktBytes (inPart q .head)

/-- The sequence numbers of the longest front run of packets that satisfy a test and fit into some bytes. -/
def frontFit (ok : Packet → Bool) : Nat → List Packet → List Nat
  | _, [] => []
  | room, p :: ps => if ok p && decide (p.len ≤ room) then p.seq :: frontFit ok (room - p.len) ps else []

def moveTo (q : Queue) (seqs : List Nat) (x : QPart) : Queue :=
  { q with packets := q.packets.map (fun p => if p.seq ∈ seqs then { p with part := x } else p) }

/-- A flush is pending (R195). -/
def Queue.flushing (q : Queue) : Bool := q.marker.isSome

/-- QUEUE_SPILL (R193): bypass while the middle is empty, else spill from 16 KiB on or for a flush. -/
def execQueueSpill (d c : Nat) (s : State) : Res :=
  onL s d <|
    let q := s.que d c
    let tail := inPart q .tail
    let mid := inPart q .middle
    let by_ := if mid.isEmpty then frontFit (·.committed) (headFree q) tail else []
    if !by_.isEmpty then (s.setQue d c (moveTo q by_ .head)).fullTrack (s.classGroup c)
    else
      let run := frontFit (·.committed) (s.get d QUE_n_MID_SIZE_kib c * 1024 - pktBytes mid) tail
      let ready := pktBytes (tail.takeWhile (·.committed))
      if 16384 ≤ ready || q.flushing then s.setQue d c (moveTo q run .middle) else s

/-- QUEUE_REFILL (R193): the head refills from the middle when 16 KiB or more of it is free, or for a flush. -/
def execQueueRefill (d c : Nat) (s : State) : Res :=
  onL s d <|
    let q := s.que d c
    if 16384 ≤ headFree q || q.flushing then
      (s.setQue d c (moveTo q (frontFit (fun _ => true) (headFree q) (inPart q .middle)) .head)).fullTrack (s.classGroup c)
    else s

/-! ### Application (R155, R191) -/

/-- Commands that change a meter record (R211, R212). -/
def recordOps : List Nat := [0x02, 0x03, 0x05, 0x07, 0x08, 0x09, 0x0A, 0x10, 0x11, 0x21, 0x28]

/-- The record-changing commands in flight for a meter at a die. -/
def State.recCmds (s : State) (d h : Nat) : List Cmd :=
  s.hif.inflight.filter (fun c => c.die == d && recordOps.contains c.opcode && c.target == h)

/-- A command that changes a meter record waits for its turn at P4 (R211): after SC0 at an update boundary, and after the SC1 items of
its meter that were admitted before it was fetched. -/
def State.recWaits (s : State) (d : Nat) (c : Cmd) : Bool :=
  recordOps.contains c.opcode && s.flag d LEDG_STAT_running && s.serving d &&
    ((s.que d 0).packets.any (fun p => p.committed && !p.applied)
      || (s.que d 1).packets.any (fun p => p.handle == c.target && !p.applied && decide (p.order < c.order)))

/-- The packet to apply where the lanes reach packet `p`: an earlier unapplied item of the same meter goes first, whatever its class
(R155, R191); one whose copy is not committed yet holds `p` back, and so does a command that changes the meter's record and was
fetched before `p` was admitted, for it ranks among the SC1 items (R211). -/
def State.applyFor (s : State) (d : Nat) (p : Packet) : Option Packet :=
  if p.handle = 0xFFFFFFFF then (if p.committed then some p else none)
  else
    let mine := [0, 1, 2, 3].flatMap (fun c =>
      (s.que d c).packets.filter (fun x => x.handle == p.handle && !x.applied && decide (x.order < p.order)))
    let x := mine.foldl (fun a y => if y.order < a.order then y else a) p
    if !x.committed || (x.cls != 0 && (s.recCmds d x.handle).any (fun c => decide (c.order ≤ x.order))) then none else some x

/-- The next packet of the lanes: Q0, then Q1, Q2 and Q3; within a queue in sequence order, so that a packet not yet committed holds
back those behind it (R191, R194). -/
def State.nextApply (s : State) (d : Nat) : Option Packet :=
  [0, 1, 2, 3].findSome? (fun c => match (s.que d c).packets.find? (fun p => !p.applied) with
    | some p => if p.committed then s.applyFor d p else none
    | none => none)

/-- LEDGER_APPLY (R153, R155, R191): a lane applies the next queued item of the die. The apply state travels with
the record change (R197). -/
def execLedgerApply (d : Nat) (s : State) : Res :=
  onL s d <|
    if !(s.flag d LEDG_STAT_running && s.serving d) || s.stopped d || s.arcFull d then s
    else match s.nextApply d with
      | none => s
      | some p =>
        let r := s.applyPacket d p
        let s := r.1
        let q := s.que d p.cls
        let s := s.setQue d p.cls { q with packets := setPkt q.packets p.seq (fun x => { x with applied := true, status := r.2 }) }
        ((s.mirAdd d (.applied p.cls p.seq r.2)).mirSend d).fullTrack (s.classGroup p.cls)

/-! ### Host-held time (R186, R187) -/

/-- The class ring counts as full for the next completion of a class of die `d` (R209). -/
def State.ringFull (s : State) (d c : Nat) : Bool :=
  let g := s.classGroup c
  !s.cqRoom g (match (s.que d c).packets with
    | p :: _ => p.entries
    | [] => 1)

/-! ### The direct-alarm path of the Ethernet MACs (R303) -/

def State.eth (s : State) (d : Nat) : Eth := (s.l d).eth
def State.setEth (s : State) (d : Nat) (x : Eth) : State := s.setL d { s.l d with eth := x }

/-- Since when the SC0 ring has counted as full, as the L-dies hold it (R186). -/
def State.scFullSince (s : State) : Option Nat :=
  (List.range s.nL).foldl (fun a d => match a, (s.que d 0).heldSince with
    | some x, some y => some (min x y)
    | none, y => y
    | x, none => x) none

/-- The direct-alarm path is active on some die. -/
def State.alarmOn (s : State) : Bool := s.flag 0 ETH_STAT_alarm_active || (s.isL 1 && s.flag 1 ETH_STAT_alarm_active)

/-- The path ends on a die (R303). -/
def State.alarmStop (s : State) (d : Nat) : State :=
  if s.flag d ETH_STAT_alarm_active then
    let s := (s.putB d ETH_STAT_alarm_active false).raise d 124 (arg 0 0)
    if s.alarmOn then s else (List.range s.nL).foldl (fun s l => s.setEth l { s.eth l with alarmNext := none }) s
  else s

/-- The path ends once the SC0 ring is no longer full. -/
def State.alarmCheck (s : State) : State :=
  if s.alarmOn && s.scFullSince.isNone && s.hif.portsDown.isNone then (s.alarmStop 0).alarmStop 1 else s

/-- RING_FULLNESS_REPORT (R186): the fullness of a class's ring, as reported to die `d`, starts or ends a hold. -/
def execRingFullnessReport (d c : Nat) (s : State) : Res :=
  onL s d <|
    let q := s.que d c
    match q.heldSince with
    | none => if s.ringFull d c then
        (s.setQue d c { q with heldSince := some s.now }).putB d QUE_n_STAT_held true c else s
    | some t =>
      if s.ringFull d c then s.countHeld d c
      else
        let s := s.countHeld d c
        let q := s.que d c
        (s.setQue d c { q with heldSince := none, heldTotal := q.heldTotal + (s.now - t), limitRaised := false }).putB d
          QUE_n_STAT_held false c |>.alarmCheck

/-- HOLD_LIMIT_EXCEEDED (R187): once for the hold, and not while the queue drains (R196). -/
def execHoldLimitExceeded (d c : Nat) (s : State) : Res :=
  onL s d <|
    let q := s.que d c
    if s.holdOver d c && !q.limitRaised && s.get d QUE_n_STAT_state c != 2 then
      (s.setQue d c { q with limitRaised := true }).raise d 99 (arg 0 c)
    else s

/-- WINDOW_BUCKET_ROLL (R189): the oldest 1 ms bucket of every class drops out. -/
def execWindowBucketRoll (d : Nat) (s : State) : Res :=
  onL s d <|
    [0, 1, 2, 3].foldl (fun s c => let q := s.que d c; s.setQue d c { q with window := (0 :: q.window).take 10 }) s

/-! ### Delivery (R185, R192, R218) -/

/-- The item completion of R218. -/
def itemCpl (d : Nat) (p : Packet) (flags heldUs : Nat) (atOnce : Bool) : Cpl :=
  let n := p.payload.length
  let k := p.entries - 1
  let first := leBytes 1 0x20 ++ leBytes 1 k ++ leBytes 2 p.status ++ leBytes 4 p.handle ++ leBytes 4 p.seq
    ++ leBytes 1 (p.cls + 4 * d) ++ leBytes 1 p.kind ++ leBytes 1 flags ++ leBytes 1 0 ++ leBytes 4 (min heldUs 0xFFFFFFFF)
    ++ leBytes 2 n ++ leBytes 1 p.fdie ++ leBytes 1 p.slot ++ slice p.identity 0 8 ++ leBytes 8 p.start
    ++ leBytes 8 p.capture ++ leBytes 2 p.rssi ++ leBytes 1 p.lqi ++ leBytes 1 0 ++ leBytes 4 p.subTag ++ slice p.payload 0 7
  { first := first, exts := (List.range k).map (fun i => slice p.payload (7 + 63 * i) 63), atOnce := atOnce,
    isSub := false, item := some (d, p.cls, p.seq) }

/-- The queue has drained (R196). -/
def State.drainCheck (s : State) (d c : Nat) : State :=
  if s.get d QUE_n_STAT_state c = 2 ∧ (s.que d c).packets.isEmpty then
    (s.put d QUE_n_STAT_state 0 c).raise d 96 (arg 0 c)
  else s

/-- Every packet ahead of the flush marker is visible (R195). -/
def State.flushCheck (s : State) (d c : Nat) : State :=
  let q := s.que d c
  match q.marker with
  | none => s
  | some m =>
    if q.packets.any (fun p => p.seq == m) then s
    else ((s.setQue d c { q with marker := none }).putB d QUE_n_STAT_flush_done true c).raise d 100 (arg 0 c)

/-- A packet lies ahead of the flush marker: the marked packet comes no earlier in the queue. -/
def aheadOfMarker (q : Queue) (p : Packet) : Bool :=
  match q.marker with
  | none => false
  | some m => (q.packets.dropWhile (fun x => x.seq != p.seq)).any (fun x => x.seq == m)

/-- ITEM_DELIVERY (R192): the completion of the next item of a queue is written into its class CQ. -/
def execItemDelivery (d c : Nat) (s : State) : Res :=
  onL s d <|
    let q := s.que d c
    match q.packets with
    | [] => s
    | p :: ps =>
      let g := s.classGroup c
      if s.stopped d || !(s.serving d && p.part == .head && p.applied && q.heldSince.isNone && s.cqRoom g p.entries) then s
      else
        let held := p.held + (s.heldTicks d c - p.heldAt)
        let restored := p.flags.testBit 0
        let late := !restored && decide (p.start + held + classDeadline c * 100 < s.devTime d)
        let fl := b2n late + 2 * b2n p.redelivered + 4 * b2n restored + 8 * b2n p.unprotected
        let s := s.cqWrite g (itemCpl d p fl (held / 100) (c = 0 || aheadOfMarker q p))
        let s := if late then s.inc d QUE_n_LATE_CNT 1 c else s
        let s := if late && limiterOpen (s.l d).lim097 s.now 100000000 then
            (s.setL d { s.l d with lim097 := some s.now }).raise d 97 (arg 0 c + arg 4 p.seq) else s
        let s := if p.redelivered then s.inc d QUE_n_REDELIV_CNT 1 c else s
        let s := s.put d QUE_n_DELIV_delivered p.seq c
        ((((s.setQue d c { q with packets := ps }).flushCheck d c).drainCheck d c).fullTrack g).evtMerge

/-! ### Enable, disable, flush (R190, R195, R196) -/

/-- A refused enable or configuration write of a queue (R190, R196, R199). -/
def State.queRefuse (s : State) (d c : Nat) : State :=
  ((s.putB d QUE_n_STAT_cfg_error true c).put d QUE_n_STAT_error 0x06 c).raise d 103 (arg 0 c)

/-- The conditions of R190 on a queue enable. -/
def State.queCfgOk (s : State) (d c : Nat) : Bool :=
  let k := s.get d QUE_n_MID_SIZE_kib c
  decide (s.get d QUE_n_CFG_share 0 + s.get d QUE_n_CFG_share 1 + s.get d QUE_n_CFG_share 2 ≤ 90)
    && decide ([0, 1, 2, 3].foldl (fun a j => a + s.get d QUE_n_MID_SIZE_kib j) 256 ≤ s.saveKib d)
    && decide (k % 64 = 0 ∧ 64 ≤ k ∧ k ≤ 3840) && decide (s.get d QUE_n_MID_LO_base_lo c % 65536 = 0)

/-- QUEUE_ENABLE (R190, R196). -/
def execQueueEnable (d c : Nat) (s : State) : Res :=
  onL s d <| if !s.domOn d 3 then s else
    let st := s.get d QUE_n_STAT_state c
    if st = 1 then s
    else if st = 2 ∨ s.queCfgOk d c = false then s.queRefuse d c
    else ((s.putB d QUE_n_CTRL_enable true c).put d QUE_n_STAT_state 1 c).putB d QUE_n_STAT_cfg_error false c

/-- QUEUE_DISABLE (R196). -/
def execQueueDisable (d c : Nat) (s : State) : Res :=
  onL s d <|
    if s.get d QUE_n_STAT_state c = 1 then
      ((s.putB d QUE_n_CTRL_enable false c).put d QUE_n_STAT_state 2 c).drainCheck d c
    else s

/-- QUEUE_FLUSH (R195): the marker follows the last packet admitted; an empty queue is flushed at once. -/
def execQueueFlush (d c : Nat) (s : State) : Res :=
  onL s d <|
    let q := s.que d c
    match q.packets.getLast? with
    | none => (s.putB d QUE_n_STAT_flush_done true c).raise d 100 (arg 0 c)
    | some p => s.setQue d c { q with marker := some p.seq }

/-- DELIVER_POSITION_MIRROR (R197): the sequence numbers of the last items visible go to the substitute. -/
def execDeliverPositionMirror (d : Nat) (s : State) : Res :=
  onL s d <|
    ([0, 1, 2, 3].foldl (fun s c => s.mirAdd d (.delivered c (s.get d QUE_n_DELIV_delivered c))) s).mirSend d

end Sys2Proof.Machine
end

