-- ==== Sys2Proof/Machine/Balance.lean ====
section
/-! DEFINITION. The balance engine (07_balance_engine): contributions, evaluation, findings and their correlation,
impostor detection, remote ledger access (R284) and the balance commands (R212). -/

namespace Sys2Proof.Machine

/-- The kinds of ledger message that the rows of this chapter take (R177, R178). -/
def LedBody.isRequest : LedBody → Bool
  | .request _ _ _ _ _ _ => true
  | _ => false
def LedBody.isWriteAnswer : LedBody → Bool
  | .response op _ _ _ _ _ _ => op == 0xC1 || op == 0xC2
  | _ => false
def LedBody.isCorrelation : LedBody → Bool
  | .response op _ _ _ _ _ _ => op == 0xC3
  | _ => false


def State.bal (s : State) (d : Nat) : BalTab := (s.l d).bal
/-- Change the balance tables; the change travels to the substitute (R180). -/
def State.setBal (s : State) (d : Nat) (b : BalTab) : State := (s.setL d { s.l d with bal := b }).mirAdd d (.balance b)
def State.group (s : State) (d g : Nat) : Option Group := smGet (s.bal d).groups g
def State.setGroup (s : State) (d g : Nat) (x : Group) : State :=
  s.setBal d { s.bal d with groups := smPut (s.bal d).groups g x }

/-- The group that holds the member list: group g of a phase set (R178). -/
def baseOf (g : Nat) (x : Group) : Nat := if x.kind = 0 then g else g - (x.kind - 1)

/-- The member list of a group. -/
def State.membersOf (s : State) (d g : Nat) (x : Group) : List Member :=
  match s.group d (baseOf g x) with
  | some b => b.members
  | none => []

def State.setMembers (s : State) (d b : Nat) (l : List Member) : State :=
  match s.group d b with
  | some x => s.setGroup d b { x with members := l }
  | none => s

/-- The group interval length in seconds. -/
def Group.secs (x : Group) : Nat := x.gLen * 60

/-- The fabric handle of a meter by its handle and the fabric address of the die that names it (R283). -/
def fabHandle (src h : Nat) : Nat := 2 ^ 24 * (src / 8) + h % 2 ^ 24

/-! ### Contributions (R172) -/

def newestOf (x : Group) : Nat :=
  match x.accs.getLast? with
  | some a => max a.n x.lastEval
  | none => x.lastEval

/-- Change the accumulator slot of an interval, taking one if there is none. -/
def accUpd (n : Nat) (f : Acc → Acc) : List Acc → List Acc
  | [] => [f { n := n }]
  | a :: l => if a.n = n then f a :: l else if n < a.n then f { n := n } :: a :: l else a :: accUpd n f l

/-- Slots that pass out of the 96: how many of them were not evaluated, and the group after (R180). -/
def accTrim (x : Group) : Nat × Group :=
  let newest := newestOf x
  let out := (x.accs.take (x.accs.length - 96)) ++ ((x.accs.drop (x.accs.length - 96)).filter (fun a => decide (a.n + 96 < newest)))
  let kept := (x.accs.drop (x.accs.length - 96)).filter (fun a => !decide (a.n + 96 < newest))
  let lost := out.filter (fun (a : Acc) => decide (x.lastEval < a.n))
  (lost.length, { x with accs := kept, lastEval := lost.foldl (fun e a => max e a.n) x.lastEval })

/-- The value of an interval enters a group's slot; late values do not. -/
def State.accumulate (s : State) (d g n : Nat) (f : Acc → Acc) : State × Bool :=
  match s.group d g with
  | none => (s, false)
  | some x =>
    let newest := newestOf x
    let full := decide (96 ≤ x.accs.length) && decide (n ≤ newest - 96)
    if n ≤ x.lastEval ∨ n + 96 < newest ∨ full then (s.inc d BAL_LATE_CNT, false)
    else
      let t := accTrim { x with accs := accUpd n f x.accs }
      ((s.inc d BAL_INDET_CNT t.1).setGroup d g t.2, true)

/-- A contribution that no group takes. -/
def State.contribLost (s : State) (d : Nat) (c : Contrib) : State :=
  let s := s.inc d BAL_LOST_CNT
  if limiterOpen (s.l d).lim085 s.now 100000000 then
    (s.setL d { s.l d with lim085 := some s.now }).raise d 85 (arg 0 c.group) c.handle
  else s

/-- The mean in 1/16 index unit (R172). -/
def meanNext (m : Member) (v : Nat) : Nat :=
  if m.samples = 0 then 16 * v
  else (Int.ofNat m.mean + Int.tdiv (16 * Int.ofNat v - Int.ofNat m.mean) 16).toNat

/-- The member entry after a message, and the value that enters the member sum when it is covered. -/
def Member.apply (m : Member) (c : Contrib) : Member × Option Nat :=
  let v := if m.pendN = c.n then m.pendVal + c.value else c.value
  let m := { m with pendN := c.n, phase := c.phase }
  if c.covered then
    ({ m with lastCov := c.n, lastVal := v, pendVal := 0, mean := meanNext m v, samples := min (m.samples + 1) 7 }, some v)
  else ({ m with pendVal := v }, none)

/-- A contribution on arrival at its home die. -/
def State.contribute (s : State) (d src : Nat) (c : Contrib) : State :=
  let fh := fabHandle src c.handle
  match s.group d c.group with
  | none => s.contribLost d c
  | some x =>
    let mark (a : Acc) : Acc := { a with clockBack := a.clockBack || c.clockBack, defTariff := a.defTariff || c.defTariff }
    if c.head then
      if x.head ≠ fh then s.contribLost d c
      else
        let r := s.accumulate d c.group c.n (fun a => mark { a with head := a.head + c.value, headCovered := a.headCovered || c.covered })
        if r.2 then r.1.inc d BAL_CONTRIB_CNT else r.1
    else
      let b := baseOf c.group x
      match (s.membersOf d c.group x).find? (fun m => m.handle == fh) with
      | none => s.contribLost d c
      | some m =>
        let u := m.apply c
        let s := s.setMembers d b ((s.membersOf d c.group x).map (fun k => if k.handle = fh then u.1 else k))
        let set := x.kind ≠ 0
        let t := if set ∧ 1 ≤ c.phase ∧ c.phase ≤ 3 then b + (c.phase - 1) else b
        let f (a : Acc) : Acc :=
          match u.2 with
          | none => mark a
          | some v =>
            if set ∧ c.phase = 0 then mark { a with unassigned := a.unassigned + v, covered := a.covered + 1 }
            else mark { a with sum := a.sum + v, covered := a.covered + 1 }
        let r := s.accumulate d t c.n f
        if r.2 then r.1.inc d BAL_CONTRIB_CNT else r.1

/-- CONTRIBUTION_MESSAGE (R172): the next contribution that has reached home die `d`. -/
def execContributionMessage (d : Nat) (s : State) : Res :=
  onL s d <|
    match s.takeLed d (fun b => b.cls == 6) with
    | none => s
    | some (m, s) =>
      (match m.body with
        | .contrib c => (s.contribute d m.src c).mirSend d
        | _ => s)

/-! ### Findings (R176, R177) -/

/-- A finding record (96 bytes). -/
def findingBytes (seq kind flags group home runLen runStart nLast : Nat) (sums : Bytes) (suspects : List (Nat × Nat)) : Bytes :=
  let e (i : Nat) : Bytes :=
    match suspects[i]? with
    | some (h, r) => leBytes 4 h ++ leBytes 1 r ++ leBytes 3 0
    | none => leBytes 4 noHandle ++ leBytes 4 0
  leBytes 4 seq ++ leBytes 1 kind ++ leBytes 1 flags ++ leBytes 2 group ++ leBytes 2 home ++ leBytes 2 runLen
    ++ leBytes 4 runStart ++ leBytes 4 nLast ++ slice sums 0 12 ++ (List.range 8).flatMap e

/-- r_run and loss_sum as the record carries them. -/
def findingSums (sumL : Int) (sumH : Nat) : Bytes :=
  leBytes 4 (ofSigned 32 (if sumH = 0 then 0 else Int.tdiv (sumL * 10000) (Int.ofNat sumH))) ++ leBytes 8 (ofSigned 64 sumL)

/-- An item for the output buffer. -/
def balPacket (kind cls : Nat) (b : Bytes) : Packet :=
  { seq := 0, kind := kind, cls := cls, handle := noHandle, start := 0, cost := 1, payload := b }

/-- Entries in use of the output buffer, those that findings in correlation will take included. -/
def State.balUsed (s : State) (d : Nat) : Nat := (s.l d).balOut.length + (s.l d).findings.length

/-- An item enters the output buffer. A record that finds it full waits for the next free entry: findings are never dropped (R177). -/
def State.balPush (s : State) (d : Nat) (p : Packet) : State :=
  let x := s.l d
  s.setL d (if s.balUsed d < 1024 then { x with balOut := x.balOut ++ [p] } else { x with balLate := x.balLate ++ [p] })

/-- The oldest item leaves the output buffer; a finding record that waits takes the entry. -/
def LDie.balPop (x : LDie) : LDie :=
  match x.balLate with
  | [] => { x with balOut := x.balOut.drop 1 }
  | p :: l => { x with balOut := x.balOut.drop 1 ++ [p], balLate := l }

/-- Issue a finding record: archived, queued for delivery, counted; the event follows. -/
def State.issueFinding (s : State) (d kind flags group runLen runStart nLast : Nat) (sums : Bytes)
    (suspects : List (Nat × Nat)) (handle : Nat) : State :=
  let seq := (s.bal d).findingSeq
  let b := findingBytes seq kind flags group (s.addrOf d) runLen runStart nLast sums suspects
  let s := (s.arcAppend d 0x06 0 noHandle (s.lt d) b).balPush d (balPacket 4 2 b)
  let s := (s.setBal d { s.bal d with findingSeq := seq + 1 }).inc d BAL_FIND_CNT
  if kind = 3 then s.raise d 83 (arg 4 seq) handle
  else s.raise d (if kind = 1 then 80 else if kind = 2 then 81 else 82) (arg 0 group + arg 4 seq)

/-- A window in hours, 0 acting as 1, in ticks. -/
def hoursTicks (h : Nat) : Nat := max 1 h * 360000000000

/-- A member has an impostor finding within the last window_h hours. -/
def State.impostorNow (s : State) (d : Nat) (m : Member) : Bool :=
  match m.impostor with
  | some t => decide (s.devTime d < t + hoursTicks (s.get d BAL_IMP_window_h))
  | none => false

/-- The suspect reasons of a member whose die has answered (R176). -/
def State.reasons (s : State) (d : Nat) (f : Finding) (m : Member) : Nat :=
  if m.handle ∈ f.waiting then 0
  else
    b2n (decide (m.handle ∈ f.tampered))
      + 2 * b2n (decide (m.lastVal * 1600 < s.get d BAL_CORR_drop_pct * m.mean))
      + 4 * b2n (s.impostorNow d m) + 8 * b2n m.estimated

/-- Rank of a set of reasons: tamper, impostor, drop, missing. -/
def reasonRank (r : Nat) : Nat := if r.testBit 0 then 0 else if r.testBit 2 then 1 else if r.testBit 1 then 2 else 3

/-- Up to eight suspects in the order of R176. -/
def State.suspects (s : State) (d : Nat) (f : Finding) : List (Nat × Nat) :=
  match s.group d f.group with
  | none => []
  | some x =>
    let l := ((s.membersOf d f.group x).map (fun m => (m, s.reasons d f m))).filter (fun e => e.2 != 0)
    let l := l.mergeSort (fun a b => decide (reasonRank a.2 < reasonRank b.2)
      || (reasonRank a.2 == reasonRank b.2 && decide (b.1.mean ≤ a.1.mean)))
    (l.take 8).map (fun e => (e.1.handle, e.2))

/-- BAL_STAT.state returns to Idle when a draining engine has issued what it evaluated (R180). -/
def State.balIdle (s : State) (d : Nat) : State :=
  if s.get d BAL_STAT_state = 2 ∧ (s.l d).findings.isEmpty then s.put d BAL_STAT_state 0 else s

/-- A finding whose correlation has ended is issued. -/
def State.finishFinding (s : State) (d : Nat) (f : Finding) : State :=
  let fl := f.flags + (if f.waiting.isEmpty then 0 else 16)
  let l := s.suspects d f
  let s := s.setL d { s.l d with findings := (s.l d).findings.filter (fun x => x.tag != f.tag) }
  (s.issueFinding d f.kind fl f.group f.runLen f.runStart f.n (findingSums f.sumL f.sumH) l noHandle).balIdle d

/-- A loss or negative finding is due: the tamper records of every member are asked for. -/
def State.startFinding (s : State) (d g kind n flags : Nat) (x : Group) : State :=
  let ms := ((s.membersOf d g x).map (·.handle))
  let tag := (s.bal d).tagNext
  let f : Finding := {
    group := g, kind := kind, n := n, since := s.now, flags := flags, runLen := x.runLen,
    runStart := x.runStart, sumL := x.sumL, sumH := x.sumH, tag := tag, waiting := ms }
  let s := s.setBal d { s.bal d with tagNext := tag + 1 }
  if ms.isEmpty then s.finishFinding d f
  else
    let s := s.setL d { s.l d with findings := (s.l d).findings ++ [f] }
    ms.foldl (fun s h => s.sendLed d (ownerAddr h) (.request 0x43 0 (h % 2 ^ 24) 0 0 tag)) s

/-- Tamper kinds that make a suspect. -/
def suspectKinds : List Nat := [0, 1, 2, 4, 5, 6]

/-- A tamper record lies within the window before the end of the run's first interval, or after it. -/
def State.tamperedIn (s : State) (d : Nat) (f : Finding) (gLen : Nat) (t : Bytes) : Bool :=
  let from_ := gEnd gLen (s.tai d) f.runStart - s.get d BAL_CORR_window_h * 3600
  suspectKinds.any (fun k => decide (leField t (12 * k) 4 ≠ 0 ∧ from_ ≤ leField t (12 * k + 8) 4))

/-- CORRELATION_RESPONSE (R176): the next tamper-record response. -/
def execCorrelationResponse (d : Nat) (s : State) : Res :=
  onL s d <|
    match s.takeLed d LedBody.isCorrelation with
    | none => s
    | some (m, s) =>
      (match m.body with
        | .response _ _ st h _ tag tam =>
          (match (s.l d).findings.find? (fun f => f.tag == tag) with
            | none => s
            | some f =>
              let fh := fabHandle m.src h
              let gl := match s.group d f.group with
                | some x => x.gLen
                | none => 15
              let f := { f with
                waiting := f.waiting.filter (fun x => x != fh),
                tampered := if st == 0 && s.tamperedIn d f gl tam then f.tampered ++ [fh] else f.tampered }
              if f.waiting.isEmpty then (s.finishFinding d f).mirSend d
              else s.setL d { s.l d with findings := (s.l d).findings.map (fun x => if x.tag = tag then f else x) })
        | _ => s)

/-- CORRELATION_TIMEOUT (R176): 1 s after the queries. -/
def execCorrelationTimeout (d : Nat) (s : State) : Res :=
  onL s d <|
    match (s.l d).findings.find? (fun f => s.due (f.since + 100000000)) with
    | none => s
    | some f => (s.finishFinding d f).mirSend d

/-! ### Evaluation (R173 to R175) -/

/-- What the estimation of R173 adds up. -/
structure Est where
  est : Nat := 0
  u : Nat := 0
  unest : Bool := false
  deriving DecidableEq, Repr

/-- The estimate of a member that has not covered interval `n`. -/
def Member.guess (m : Member) (n : Nat) : Nat :=
  if m.pendN = n then max (m.mean / 16) m.pendVal else m.mean / 16

/-- Estimate the missing members of a group of kind `kind`, and mark them. -/
def estimate (kind n : Nat) (e : Est) : List Member → Est × List Member
  | [] => (e, [])
  | m :: l =>
    let own := kind = 0 ∨ m.phase = kind
    let un := kind ≠ 0 ∧ m.phase = 0
    let miss := m.lastCov = 0xFFFFFFFF ∨ m.lastCov < n
    if own ∨ un then
      if ¬ miss then let r := estimate kind n e l; (r.1, { m with estimated := false } :: r.2)
      else if m.samples < 4 then let r := estimate kind n { e with unest := true } l; (r.1, { m with estimated := false } :: r.2)
      else
        let e' := if own then { e with est := e.est + m.guess n } else { e with u := e.u + m.guess n }
        let r := estimate kind n e' l
        (r.1, { m with estimated := true } :: r.2)
    else let r := estimate kind n e l; (r.1, m :: r.2)

/-- The class of an interval. -/
inductive IntClass where
  | indeterminate
  /-- high, with its causes: absolute, relative -/
  | high (abs rel : Bool)
  | negative
  | quiet
  deriving DecidableEq, Repr

/-- The result of evaluating an interval. -/
structure EvalRes where
  cls : IntClass
  h : Nat
  m : Nat
  est : Nat
  l : Int
  r : Int
  deriving DecidableEq, Repr

/-- R173 and R174 on a group, its slot, the unassigned share and the estimates. -/
def classify (x : Group) (a : Acc) (unassigned : Nat) (e : Est) : EvalRes :=
  let eu := e.est + unassigned + e.u
  let m := a.sum + eu
  if a.headCovered = false ∨ a.head = 0 ∨ e.unest ∨ x.estMax * m < eu * 100 then
    { cls := .indeterminate, h := a.head, m := m, est := eu, l := 0, r := 0 }
  else
    let l := Int.ofNat a.head - Int.ofNat m
    let r := Int.tdiv (l * 10000) (Int.ofNat a.head)
    let ab := decide (Int.ofNat x.lossThr < r)
    let re := decide (0 < x.stepK ∧ x.meanR * 4 + Int.ofNat (x.stepK * x.devR) < r * 4)
    let c : IntClass :=
      if Int.ofNat x.absMin < l ∧ (ab ∨ re) then .high ab re
      else if Int.ofNat x.absMin < -l ∧ r < -Int.ofNat x.negThr then .negative
      else .quiet
    { cls := c, h := a.head, m := m, est := eu, l := l, r := r }

def satInc (n : Nat) : Nat := min (n + 1) 255

/-- Flags of the run that an interval sets: bit 0 incomplete, bit 3 clock-back. -/
def runFlagsOf (a : Acc) (v : EvalRes) : Nat := b2n (decide (0 < v.est)) + 8 * b2n a.clockBack

/-- The counters, statistics and run sums of a group after an interval. -/
def Group.count (x : Group) (n : Nat) (a : Acc) (v : EvalRes) : Group :=
  let fresh (x : Group) : Group := { x with runStart := n, sumL := 0, sumH := 0, runLen := 0, runFlags := 0 }
  let add (x : Group) : Group :=
    { x with sumL := x.sumL + v.l, sumH := x.sumH + v.h, runLen := x.runLen + 1, runFlags := x.runFlags ||| runFlagsOf a v }
  match v.cls with
  | .indeterminate => { x with indetRun := satInc x.indetRun }
  | .high _ _ =>
    let y := if x.runHi = 0 then fresh x else x
    add { y with runHi := satInc x.runHi, runNeg := 0, runQuiet := 0, indetRun := 0, stale := false }
  | .negative =>
    let y := if x.runNeg = 0 then fresh x else x
    add { y with runNeg := satInc x.runNeg, runHi := 0, runQuiet := 0, indetRun := 0, stale := false }
  | .quiet =>
    let y := { x with runQuiet := satInc x.runQuiet, runHi := 0, runNeg := 0, indetRun := 0, stale := false }
    if v.est = 0 then
      let dd := v.r - x.meanR
      { y with
        meanR := x.meanR + Int.tdiv dd 32,
        devR := (Int.ofNat x.devR + Int.tdiv (Int.ofNat dd.natAbs - Int.ofNat x.devR) 32).toNat }
    else y

/-- The interval result of R177. -/
def resultBytes (g n : Nat) (a : Acc) (v : EvalRes) : Bytes :=
  let det := decide (v.cls ≠ .indeterminate)
  let hi := match v.cls with
    | .high _ _ => true
    | _ => false
  let fl := b2n det + 2 * b2n (det && decide (0 < v.est)) + 4 * b2n (!a.headCovered) + 8 * b2n (a.head == 0)
    + 16 * b2n hi + 32 * b2n (v.cls == .negative) + 64 * b2n a.clockBack + 128 * b2n a.defTariff
  leBytes 4 n ++ leBytes 2 g ++ leBytes 2 fl ++ leBytes 8 v.h ++ leBytes 8 v.m ++ leBytes 4 (min v.est 0xFFFFFFFF)
    ++ leBytes 4 (ofSigned 32 v.r)

/-- A counted interval issues a finding record, or starts the correlation of one (R175). -/
def Group.findingDue (x : Group) (v : EvalRes) : Bool :=
  v.cls != .indeterminate && ((x.open_ == 0 && (x.runHi == x.persist || x.runNeg == x.persist)) || (x.open_ != 0 && x.runQuiet == x.persist))

/-- Archive an interval result, and deliver it with report_all set; `keep` entries of the buffer stay for a finding of the same
interval. -/
def State.reportResult (s : State) (d g : Nat) (b : Bytes) (keep : Nat) : State :=
  let s := s.arcAppend d 0x07 0 noHandle (s.lt d) b
  if s.flag d BAL_CFG_report_all then
    if s.balUsed d + keep < 1024 then s.balPush d (balPacket 5 3 b)
    else
      let s := s.inc d BAL_DROP_CNT
      if limiterOpen (s.l d).lim086 s.now 100000000 then
        (s.setL d { s.l d with lim086 := some s.now }).raise d 86 (arg 0 g)
      else s
  else s

/-- Raise, extend or clear a finding (R175). -/
def State.findingStep (s : State) (d g n : Nat) (v : EvalRes) : State :=
  match s.group d g with
  | none => s
  | some x =>
    let cause := match v.cls with
      | .high ab re => 2 * b2n ab + 4 * b2n re
      | _ => 0
    if v.cls = .indeterminate then s
    else if x.open_ = 0 ∧ x.runHi = x.persist then
      (s.setGroup d g { x with open_ := 1 }).startFinding d g 1 n (x.runFlags + cause) x
    else if x.open_ = 0 ∧ x.runNeg = x.persist then
      (s.setGroup d g { x with open_ := 2 }).startFinding d g 2 n x.runFlags x
    else if x.open_ ≠ 0 ∧ x.runQuiet = x.persist then
      (s.setGroup d g { x with open_ := 0 }).issueFinding d 4 x.runFlags g x.runLen x.runStart n
        (findingSums x.sumL x.sumH) [] noHandle
    else s

/-- L-084 once per run of indeterminate intervals. -/
def State.staleStep (s : State) (d g : Nat) : State :=
  match s.group d g with
  | none => s
  | some x =>
    if x.indetRun = s.get d BAL_CFG_stale_run ∧ x.indetRun ≠ 0 ∧ x.stale = false then
      (s.setGroup d g { x with stale := true }).raise d 84 (arg 0 g)
    else s

/-- The ledger time at which interval `n` of a group falls due, in ticks (R173). -/
def State.evalDue (s : State) (d : Nat) (x : Group) (n : Nat) : Nat :=
  (gEnd x.gLen (s.tai d) n + x.settle * x.secs) * 10 ^ 8 + max 1 (s.get d BAL_CFG_flight_ms) * 10 ^ 5

/-- What the next interval of a group comes to: its slot, the result, the members with their marks, and the group with its counters
(R173, R174). -/
def State.evalNext (s : State) (d g : Nat) (x : Group) : Acc × EvalRes × List Member × Group :=
  let n := x.lastEval + 1
  let a := (x.accs.find? (fun a => a.n == n)).getD { n := n }
  let shared : Acc := match s.group d (baseOf g x) with
    | some y => (y.accs.find? (fun a => a.n == n)).getD { n := n }
    | none => { n := n }
  let u := if x.kind = 0 then a.unassigned else shared.unassigned
  let ms := s.membersOf d g x
  let e := if a.headCovered = false ∨ a.head = 0 then ({}, ms) else estimate x.kind n {} ms
  let v := classify x a u e.1
  (a, v, e.2, x.count n a v)

/-- Evaluate the next interval of a group. -/
def State.evaluate (s : State) (d g : Nat) (x : Group) : State :=
  let n := x.lastEval + 1
  let r := s.evalNext d g x
  let v := r.2.1
  let due := r.2.2.2.findingDue v
  let s := s.setMembers d (baseOf g x) r.2.2.1
  let x := (s.group d g).getD x
  let s := (s.setGroup d g { r.2.2.2 with lastEval := n, members := x.members }).inc d BAL_EVAL_CNT
  let s := if v.cls = .indeterminate then s.inc d BAL_INDET_CNT else if 0 < v.est then s.inc d BAL_INCOMP_CNT else s
  ((s.reportResult d g (resultBytes g n r.1 v) (b2n due)).findingStep d g n v).staleStep d g

/-- GROUP_EVALUATION (R173, R177): the next interval of group `g` that has fallen due. Where it issues a finding record, it waits for a
free entry of the output buffer. -/
def execGroupEvaluation (d g : Nat) (s : State) : Res :=
  onL s d <|
    match s.group d g with
    | none => s
    | some x =>
      let r := s.evalNext d g x
      if s.get d BAL_STAT_state ≠ 1 ∨ x.stopped ∨ s.serving d = false ∨ s.arcFull d = true
          ∨ (r.2.2.2.findingDue r.2.1 = true ∧ 1024 ≤ s.balUsed d) ∨ s.lt d < s.evalDue d x (x.lastEval + 1) then s
      else (s.evaluate d g x).mirSend d

/-- BALANCE_ITEM_OFFER (R183): the oldest balance item is offered to admission. -/
def execBalanceItemOffer (d : Nat) (s : State) : Res :=
  onL s d <|
    match (s.l d).balOut with
    | [] => s
    | p :: _ =>
      match s.judge d p.cls 1 p.len noHandle with
      | some reason => s.deferItem d p.cls reason false
      | none =>
        let s := s.setL d (s.l d).balPop
        ((s.reserve d { p with start := s.devTime d }).1).mirSend d

/-- BALANCE_DISABLE (R180). -/
def execBalanceDisable (d : Nat) (s : State) : Res :=
  onL s d <|
    let s := s.putB d BAL_CTRL_enable false
    if s.get d BAL_STAT_state = 1 then (s.put d BAL_STAT_state 2).balIdle d else s

/-! ### Impostor detection (R179) -/

/-- The kinds of signal. -/
inductive Signal where
  | j | p | f
  deriving DecidableEq, Repr

/-- Set member flags bit 1 in every group of this package that lists the meter. A home die other than `d` sends the change to its own
substitute at once; that of `d` travels with the update in hand (R180). -/
def State.flagMember (s : State) (d slot : Nat) (m : MRec) : State :=
  let fh := fabHandle (s.addrOf d) (s.slotHandle d slot)
  (s.recRefs d m).foldl (fun s r =>
    if r.1 || r.2.addr / 8 != s.ownPkg d then s
    else
      let h := s.deliverDie r.2.addr
      match s.group h r.2.group with
      | none => s
      | some x =>
        let s := s.setMembers h (baseOf r.2.group x) ((s.membersOf h r.2.group x).map (fun k =>
          if k.handle = fh then { k with impostor := some (s.devTime h) } else k))
        if h = d then s else s.mirSend h) s

/-- Record a signal of the watch table and, when signals agree, issue an impostor finding. -/
def State.watchSignal (s : State) (d slot : Nat) (m : MRec) (g : Signal) : Upd :=
  if !s.flag d BAL_IMP_imp_en then (s, m)
  else
    let now := s.devTime d
    let win := hoursTicks (s.get d BAL_IMP_window_h)
    let w := smGetD (s.l d).watch {} slot
    let keep (l : List Nat) : List Nat := l.filter (fun t => decide (now ≤ t + win))
    let w := { w with
      j := keep (if g = .j then now :: w.j else w.j), p := keep (if g = .p then now :: w.p else w.p),
      f := keep (if g = .f then now :: w.f else w.f) }
    let rep := max 1 (s.get d BAL_IMP_repeat)
    let kinds := b2n (!w.j.isEmpty) + b2n (!w.p.isEmpty) + b2n (!w.f.isEmpty)
    let muted := match w.mutedUntil with
      | some t => decide (now < t)
      | none => false
    if muted || !(decide (2 ≤ kinds) || [w.j, w.p, w.f].any (fun l => decide (rep ≤ l.length))) then
      (s.setL d { s.l d with watch := smPut (s.l d).watch slot w }, m)
    else
      let why := b2n (!w.j.isEmpty) + 2 * b2n (!w.p.isEmpty) + 4 * b2n (!w.f.isEmpty)
      let w := { w with j := [], p := [], f := [], mutedUntil := some (now + win) }
      let s := s.setL d { s.l d with watch := smPut (s.l d).watch slot w }
      let u := s.tamper d slot m 6 (s.lt d)
      let h := s.slotHandle d slot
      -- the run fields of a kind 3 record: free values
      let r1 := u.1.freeBelow (2 ^ 16)
      let r2 := r1.2.freeBelow (2 ^ 64)
      let r3 := r2.2.freeBelow (2 ^ 96)
      let s := (r3.2.issueFinding d 3 0 0xFFFF r1.1 (r2.1 % 2 ^ 32) (r2.1 / 2 ^ 32) (leBytes 12 r3.1)
        [(fabHandle (s.addrOf d) h, why)] h).inc d BAL_IMPOSTOR_CNT
      (s.flagMember d slot u.2, u.2)

/-- The carrier of an accepted radio frame: signal F, or a new mean. -/
def State.watchCarrier (s : State) (d slot : Nat) (m : MRec) (off : Int) : Upd :=
  if !s.flag d BAL_IMP_imp_en then (s, m)
  else
    let w := smGetD (s.l d).watch {} slot
    if 8 ≤ w.samples ∧ Int.ofNat (s.get d BAL_IMP_foff) < Int.ofNat (off - w.mean).natAbs then s.watchSignal d slot m .f
    else
      let w := { w with mean := w.mean + Int.tdiv (off - w.mean) 8, samples := min (w.samples + 1) 8 }
      (s.setL d { s.l d with watch := smPut (s.l d).watch slot w }, m)

/-! ### Remote ledger access (R284) -/

/-- The reference-table entry of R168. -/
def refBits (addr g : Nat) : Nat := addr % 2 ^ 11 + 2 ^ 11 * g + 2 ^ 31

/-- An index of the reference table for a home die and group: an equal entry, else the first free one. -/
def State.refIndex (s : State) (d : Nat) (r : Ref) : Option Nat :=
  match (s.bal d).refs.find? (fun e => e.2.addr == r.addr && e.2.group == r.group) with
  | some e => some e.1
  | none => (List.range 65535).find? (fun i => (smGet (s.bal d).refs i).isNone)

/-- Does a record field name the reference? -/
def State.namesRef (s : State) (d : Nat) (m : MRec) (f : RF) (addr g : Nat) : Bool :=
  match smGet (s.bal d).refs (m.g f) with
  | some r => r.addr == addr && r.group == g
  | none => false

/-- Free a reference-table entry that no record names any more. -/
def State.refFree (s : State) (d i : Nat) : State :=
  if (s.l d).recs.any (fun e => e.2.g rBalHead == i || e.2.g rBalMember0 == i || e.2.g rBalMember1 == i) then s
  else s.setBal d { s.bal d with refs := smDel (s.bal d).refs i }

/-- Attach a meter: status and state; no status while the reference table has no entry left. -/
def State.attach (s : State) (d slot : Nat) (m : MRec) (head : Bool) (r : Ref) : State × Option Nat :=
  let fs := if head then [rBalHead] else [rBalMember0, rBalMember1]
  if fs.any (fun f => s.namesRef d m f r.addr r.group) then (s, some 0)
  else match fs.find? (fun f => m.g f == 0xFFFF) with
    | none => (s, some 0x0313)
    | some f =>
      match s.refIndex d r with
      | none => (s, none)
      | some i =>
        let s := s.setBal d { s.bal d with refs := smPut (s.bal d).refs i r }
        (s.update d slot (m.p f i), some 0)

def State.detach (s : State) (d slot : Nat) (m : MRec) (head : Bool) (addr g : Nat) : State × Option Nat :=
  let fs := if head then [rBalHead] else [rBalMember0, rBalMember1]
  match fs.find? (fun f => s.namesRef d m f addr g) with
  | none => (s, some 0x0314)
  | some f => ((s.update d slot (m.p f 0xFFFF)).refFree d (m.g f), some 0)

/-- REMOTE_LEDGER_REQUEST (R284): the owning die performs the next access and responds. -/
def execRemoteLedgerRequest (d : Nat) (s : State) : Res :=
  onL s d <|
    match s.takeLed d LedBody.isRequest with
    | none => s
    | some (q, s) =>
      (match q.body with
        | .request op role h ref gl tag =>
          let answer (s : State) (st : Nat) (tam : Bytes) : State :=
            s.sendLed d q.src (.response (op + 0x80) role st h ref tag tam)
          if s.handleOk h = false ∨ s.handleDie h ≠ some d then answer s 0x0102 []
          else
            let slot := h % 2 ^ 20
            let r := s.fetch d slot
            (match r.1 with
              | none => r.2
              | some m =>
                let addr := ref % 2 ^ 11
                let g := bits ref 26 11
                let s := r.2
                if op = 0x43 then answer s 0 (slice m.bytes 360 96)
                else
                  let u := if op = 0x41 then s.attach d slot m (role == 1) ⟨addr, g, gl⟩ else s.detach d slot m (role == 1) addr g
                  (match u.2 with
                    | none => u.1
                    | some st => (answer (u.1.mirSend d) st [])))
        | _ => s)

/-! ### Commands 0x30 to 0x36 (R167 to R169, R178, R212) -/

/-- Ask the owning die of a meter to attach (0x41) or detach (0x42) it. -/
def State.askLedger (s : State) (d op : Nat) (a : LedAccess) (gl tag : Nat) : State :=
  s.sendLed d (ownerAddr a.handle) (.request op (b2n a.head) (a.handle % 2 ^ 24) (refBits (s.addrOf d) a.group) gl tag)

/-- A status for a fabric handle that cannot be named: not a member's package, or no valid handle. -/
def State.fhStatus (s : State) (d fh : Nat) : Nat :=
  if !s.isMember d (fh / 2 ^ 24) then 0x0702
  else if bit fh 23 || (fh / 2 ^ 24 == s.ownPkg d && !s.handleOk (fh % 2 ^ 24)) then 0x0102
  else 0

/-- Start waiting for the responses of a balance command. -/
def State.balWait (s : State) (d : Nat) (c : Cmd) (op g h : Nat) (hs : List LedAccess) : State :=
  let tag := (s.bal d).tagNext
  let s := s.setBal d { s.bal d with tagNext := tag + 1 }
  (s.markStarted c.id).setL d { s.l d with balWaits := (s.l d).balWaits ++ [{ cmd := c.id, op := op, group := g, handle := h, tag := tag, since := s.now, waiting := hs }] }

/-- The tag the next waiting command takes. -/
def State.balTag (s : State) (d : Nat) : Nat := (s.bal d).tagNext

/-- Values within the ranges of R167. -/
def groupOk (x : Group) (g : Nat) : Bool :=
  decide (x.gLen = 15 ∨ x.gLen = 30 ∨ x.gLen = 60 ∨ x.gLen = 1440) && decide (1 ≤ x.settle ∧ x.settle ≤ 95)
    && decide (1 ≤ x.persist ∧ x.persist ≤ 32) && decide (x.estMax ≤ 100) && g != 0xFFFF

/-- DEFINE_GROUP, opcode 0x30. -/
def execDefineGroup (d : Nat) (s : State) : Res :=
  onL s d <| s.withCmd d 0x30 fun s c =>
    let g := c.op 16 2
    let set := c.op 18 1
    let heads := if set = 0 then [c.op 20 4] else [c.op 20 4, c.op 24 4, c.op 28 4]
    let x : Group := {
      settle := c.op 19 1, gLen := c.op 32 2, persist := c.op 34 1, stepK := c.op 35 1, lossThr := c.op 36 4,
      negThr := c.op 40 4, absMin := c.op 44 4, estMax := c.op 48 1, hostTag := slice c.entry 56 8, list := g }
    let gs := (List.range heads.length).map (fun i => g + i)
    let named := heads.filter (fun h => h != noHandle)
    let bad := named.map (s.fhStatus d) |>.find? (fun st => st != 0)
    if !groupOk x g || decide (1 < set) || (set == 1 && (g % 4 != 0 || decide (0xFFFF ≤ g + 2))) then s.complete c.id 0x0315
    else if gs.any (fun i => (s.group d i).isSome) then s.complete c.id 0x0311
    else match bad with
      | some st => s.complete c.id st
      | none =>
        let cur := gInt x.gLen (s.tai d) (s.ltSec d)
        let tag := s.balTag d
        let s := (heads.zipIdx).foldl (fun s e =>
          s.setGroup d (g + e.2) { x with head := e.1, kind := if set = 1 then e.2 + 1 else 0, lastEval := cur - 1 }) s
        if named.isEmpty then (s.complete c.id 0).mirSend d
        else
          let acc := ((heads.zipIdx).filter (fun e => e.1 != noHandle)).map (fun e => LedAccess.mk e.1 (g + e.2) true)
          let s := s.balWait d c 0x30 g 0 acc
          (acc.foldl (fun s a => s.askLedger d 0x41 a x.gLen tag) s).mirSend d

/-- The groups a command names by number: all three of a phase set named by its group g (R169). -/
def State.groupsOf (s : State) (d g : Nat) : List (Nat × Group) :=
  match s.group d g with
  | none => []
  | some x =>
    if x.kind = 1 then [g, g + 1, g + 2].filterMap (fun i => (s.group d i).map (fun y => (i, y))) else [(g, x)]

/-- DELETE_GROUP, opcode 0x31 (R169). -/
def execDeleteGroup (d : Nat) (s : State) : Res :=
  onL s d <| s.withCmd d 0x31 fun s c =>
    let g := c.op 16 2
    let gs := s.groupsOf d g
    if gs.isEmpty then s.complete c.id 0x0310
    else if (s.l d).findings.any (fun f => gs.any (fun e => e.1 == f.group)) then
      -- evaluation stops; the one in progress completes first, and the command goes on then
      (gs.foldl (fun s e => s.setGroup d e.1 { e.2 with stopped := true }) s).mirSend d
    else
      let s := gs.foldl (fun s e =>
        if e.2.open_ = 0 then s
        else s.issueFinding d 4 e.2.runFlags e.1 e.2.runLen e.2.runStart e.2.lastEval (findingSums e.2.sumL e.2.sumH) [] noHandle) s
      let ms := (gs.filter (fun e => e.2.kind ≤ 1)).flatMap (fun e => e.2.members.map (fun m => LedAccess.mk m.handle e.1 false))
      let hs := (gs.filter (fun e => e.2.head != noHandle)).map (fun e => LedAccess.mk e.2.head e.1 true)
      let all := hs ++ ms
      let tag := s.balTag d
      let s := s.setBal d { s.bal d with groups := gs.foldl (fun m e => smDel m e.1) (s.bal d).groups }
      if all.isEmpty then (s.complete c.id 0).mirSend d
      else
        let s := s.balWait d c 0x31 g 0 all
        (all.foldl (fun s a => s.askLedger d 0x42 a 0 tag) s).mirSend d

def State.poolUsed (s : State) (d : Nat) : Nat := (s.bal d).groups.foldl (fun a e => a + e.2.members.length) 0

/-- ADD_MEMBER, opcode 0x32 (R168): the member entry first, then the meter's record. -/
def execAddMember (d : Nat) (s : State) : Res :=
  onL s d <| s.withCmd d 0x32 fun s c =>
    let g := c.op 16 2
    let fh := c.op 20 4
    match s.group d g with
    | none => s.complete c.id 0x0310
    | some x =>
      let b := baseOf g x
      let ms := s.membersOf d g x
      let st := s.fhStatus d fh
      if st ≠ 0 then s.complete c.id st
      else if 16384 ≤ ms.length ∨ 2097152 ≤ s.poolUsed d then s.complete c.id 0x0312
      else
        let tag := s.balTag d
        let s := if ms.any (fun m => m.handle == fh) then s else s.setMembers d b (ms ++ [{ handle := fh }])
        let s := s.balWait d c 0x32 b fh [⟨fh, b, false⟩]
        (s.askLedger d 0x41 ⟨fh, b, false⟩ x.gLen tag).mirSend d

/-- REMOVE_MEMBER, opcode 0x33. -/
def execRemoveMember (d : Nat) (s : State) : Res :=
  onL s d <| s.withCmd d 0x33 fun s c =>
    let g := c.op 16 2
    let fh := c.op 20 4
    match s.group d g with
    | none => s.complete c.id 0x0310
    | some x =>
      let b := baseOf g x
      let ms := s.membersOf d g x
      let st := s.fhStatus d fh
      if st ≠ 0 then s.complete c.id st
      else if !ms.any (fun m => m.handle == fh) then s.complete c.id 0x0314
      else
        let tag := s.balTag d
        let s := s.setMembers d b (ms.filter (fun m => m.handle != fh))
        let s := s.balWait d c 0x33 b fh [⟨fh, b, false⟩]
        (s.askLedger d 0x42 ⟨fh, b, false⟩ 0 tag).mirSend d

/-- SET_HEAD, opcode 0x34. -/
def execSetHead (d : Nat) (s : State) : Res :=
  onL s d <| s.withCmd d 0x34 fun s c =>
    let g := c.op 16 2
    let fh := c.op 20 4
    match s.group d g with
    | none => s.complete c.id 0x0310
    | some x =>
      let st := if fh = noHandle then 0 else s.fhStatus d fh
      if st ≠ 0 then s.complete c.id st
      else
        let old : List LedAccess := if x.head = noHandle ∨ x.head = fh then [] else [⟨x.head, g, true⟩]
        let new : List LedAccess := if fh = noHandle then [] else [⟨fh, g, true⟩]
        let tag := s.balTag d
        let s := s.setGroup d g { x with head := fh }
        if (old ++ new).isEmpty then (s.complete c.id 0).mirSend d
        else
          let s := s.balWait d c 0x34 g fh (old ++ new)
          let s := old.foldl (fun s h => s.askLedger d 0x42 h 0 tag) s
          (new.foldl (fun s h => s.askLedger d 0x41 h x.gLen tag) s).mirSend d

/-- The group table entry of R167. -/
def groupBytes (g : Nat) (x : Group) (members : Nat) : Bytes :=
  leBytes 2 g ++ leBytes 1 1 ++ leBytes 1 x.kind ++ leBytes 4 x.head ++ leBytes 2 x.gLen ++ leBytes 1 x.settle
    ++ leBytes 1 x.persist ++ leBytes 4 x.lossThr ++ leBytes 4 x.negThr ++ leBytes 4 x.absMin ++ leBytes 1 x.stepK
    ++ leBytes 1 x.estMax ++ leBytes 2 members ++ leBytes 4 (ofSigned 32 x.meanR) ++ leBytes 4 x.devR ++ leBytes 1 x.runHi
    ++ leBytes 1 x.runNeg ++ leBytes 1 x.runQuiet ++ leBytes 1 x.open_ ++ leBytes 4 x.lastEval ++ leBytes 4 x.runStart
    ++ leBytes 1 x.indetRun ++ leBytes 3 0 ++ leBytes 4 x.list ++ slice x.hostTag 0 8

/-- READ_GROUP, opcode 0x35. A free group reads with state 0. -/
def execReadGroup (d : Nat) (s : State) : Res :=
  onL s d <| s.withCmd d 0x35 fun s c =>
    let g := c.op 16 2
    match s.group d g with
    | none => s.complete c.id 0x0310
    | some x => (s.toHost c.port (c.op 24 8) (groupBytes g x (s.membersOf d g x).length)).complete c.id 0

/-- RESET_STATISTICS, opcode 0x36. -/
def execResetStatistics (d : Nat) (s : State) : Res :=
  onL s d <| s.withCmd d 0x36 fun s c =>
    let g := c.op 16 2
    match s.group d g with
    | none => s.complete c.id 0x0310
    | some x => ((s.setGroup d g { x with meanR := toSigned 32 (c.op 20 4), devR := c.op 24 4 }).complete c.id 0).mirSend d

/-! ### Responses and their timeouts (R168, R169) -/

def State.dropBalWait (s : State) (d tag : Nat) : State :=
  s.setL d { s.l d with balWaits := (s.l d).balWaits.filter (fun w => w.tag != tag) }

/-- Undo what a balance command entered when its records could not be written. -/
def State.balUndo (s : State) (d : Nat) (w : BalWait) : State :=
  if w.op = 0x32 then
    match s.group d w.group with
    | some x => s.setMembers d w.group (x.members.filter (fun m => m.handle != w.handle))
    | none => s
  else if w.op = 0x30 then
    let gs := s.groupsOf d w.group
    s.setBal d { s.bal d with
      groups := gs.foldl (fun m e => smDel m e.1) (s.bal d).groups,
      detaches := (s.bal d).detaches ++ (gs.filter (fun e => e.2.head != noHandle)).map (fun e => (LedAccess.mk e.2.head e.1 true, s.now)) }
  else if w.op = 0x34 then
    match s.group d w.group with
    | some x => s.setGroup d w.group { x with head := noHandle }
    | none => s
  else s

/-- Complete a balance command with a status. -/
def State.balDone (s : State) (d : Nat) (w : BalWait) (st : Nat) : State :=
  let s := (if st = 0 then s else s.balUndo d w).dropBalWait d w.tag
  let n := match s.group d w.group with
    | some x => x.members.length
    | none => 0
  (s.complete w.cmd st (if w.op = 0x32 ∨ w.op = 0x33 then leBytes 2 n else [])).mirSend d

/-- REMOTE_LEDGER_RESPONSE (R168, R284): the next attach or detach response. -/
def execRemoteLedgerResponse (d : Nat) (s : State) : Res :=
  onL s d <|
    match s.takeLed d LedBody.isWriteAnswer with
    | none => s
    | some (m, s) =>
      (match m.body with
        | .response op role st h ref tag _ =>
          let fa : LedAccess := ⟨fabHandle m.src h, bits ref 26 11, role == 1⟩
          let s := if op = 0xC2 then
              s.setBal d { s.bal d with detaches := (s.bal d).detaches.filter (fun e => e.1 != fa) } else s
          (match (s.l d).balWaits.find? (fun w => w.tag == tag && decide (fa ∈ w.waiting)) with
            | none => s
            | some w =>
              let st := if w.op = 0x31 then 0 else st
              let w := { w with waiting := w.waiting.erase fa, status := if w.status = 0 then st else w.status }
              if w.waiting.isEmpty then s.balDone d w w.status
              else s.setL d { s.l d with balWaits := (s.l d).balWaits.map (fun y => if y.tag = tag then w else y) })
        | _ => s)

/-- MEMBER_WRITE_TIMEOUT (R168, R169): a record not written within 1 s. -/
def execMemberWriteTimeout (d : Nat) (s : State) : Res :=
  onL s d <|
    match (s.l d).balWaits.find? (fun w => s.due (w.since + 100000000)) with
    | none => s
    | some w =>
      let s := if w.op = 0x31 then
          s.setBal d { s.bal d with detaches := (s.bal d).detaches ++ w.waiting.map (fun a => (a, s.now)) } else s
      s.balDone d w 0x0316

/-- DETACH_RETRY (R169): every 10 s an unanswered detach is repeated, until the owner's package leaves. -/
def execDetachRetry (d : Nat) (s : State) : Res :=
  onL s d <|
    let l := (s.bal d).detaches.filter (fun e => s.isMember d (e.1.handle / 2 ^ 24))
    let again := l.filter (fun e => s.due (e.2 + 1000000000))
    let s := s.setBal d { s.bal d with detaches := l.map (fun e => if s.due (e.2 + 1000000000) then (e.1, s.now) else e) }
    (again.foldl (fun s e => s.askLedger d 0x42 e.1 0 0xFFFFFFFF) s).mirSend d

end Sys2Proof.Machine
end

