-- ==== Sys2Proof/Machine/PlcFrames.lean ====
section
/-! DEFINITION. The MAC payload of a power-line frame (R91, R92): mesh header, IPHC and UDP headers of RFC 4944 and
RFC 6282, and the envelope of R133. -/

namespace Sys2Proof.Machine

/-- A mesh header: originator and final destination (2 or 8 bytes), hops left, and its length. -/
structure MeshHdr where
  orig : Bytes
  final : Bytes
  hops : Nat
  len : Nat
  deriving DecidableEq, Repr

/-- The mesh header at the start of a MAC payload: dispatch bits 10, then the address-size flags and the hops left. -/
def parseMesh (b : Bytes) : Option MeshHdr :=
  let x := leField b 0 1
  if bits x 7 6 ≠ 2 then none
  else
    let deep := x % 16 = 15
    let o := if deep then 2 else 1
    let os := if x.testBit 5 then 2 else 8
    let fs := if x.testBit 4 then 2 else 8
    some { orig := slice b o os, final := slice b (o + os) fs, hops := if deep then leField b 1 1 else x % 16,
           len := o + os + fs }

/-- Length of an IPHC header with its inline fields, whether the next header is compressed, and the offset of an
inline next header (RFC 6282). -/
def iphcLen (b : Bytes) : Option (Nat × Bool × Nat) :=
  let x := leField b 0 1
  let y := leField b 1 1
  if bits x 7 5 ≠ 3 then none
  else
    let tf := [4, 3, 1, 0].getD (bits x 4 3) 0
    let nh := x.testBit 2
    let o := 2 + (if y.testBit 7 then 1 else 0) + tf
    let hl := if bits x 1 0 = 0 then 1 else 0
    let sa := if y.testBit 6 then [0, 8, 2, 0].getD (bits y 5 4) 0 else [16, 8, 2, 0].getD (bits y 5 4) 0
    let da := if y.testBit 3 then (if y.testBit 2 then [6, 0, 0, 0].getD (bits y 1 0) 0 else [16, 6, 4, 1].getD (bits y 1 0) 0)
      else (if y.testBit 2 then [0, 8, 2, 0].getD (bits y 1 0) 0 else [16, 8, 2, 0].getD (bits y 1 0) 0)
    let n := o + (if nh then 0 else 1) + hl + sa + da
    if b.length < n then none else some (n, nh, o)

/-- The UDP header after an IPHC header: its length and destination port. -/
def udpHdr (b : Bytes) (compressed : Bool) (inlineNh : Nat) : Option (Nat × Nat) :=
  if compressed then
    let x := leField b 0 1
    if bits x 7 3 ≠ 0x1E then none
    else
      let c := if x.testBit 2 then 0 else 2
      match bits x 1 0 with
      | 0 => some (5 + c, beNat (slice b 3 2))
      | 1 => some (4 + c, 0xF000 + leField b 3 1)
      | 2 => some (4 + c, beNat (slice b 2 2))
      | _ => some (2 + c, 0xF0B0 + leField b 1 1 % 16)
  else if inlineNh = 17 then some (8, beNat (slice b 2 2)) else none

/-- What classification and the security check read from a MAC payload. -/
structure PlcPayload where
  mesh : Option MeshHdr
  port : Nat
  /-- offset of the UDP payload -/
  off : Nat
  deriving DecidableEq, Repr

/-- Parse a MAC payload to its UDP payload. -/
def parsePlc (b : Bytes) : Option PlcPayload :=
  let m := parseMesh b
  let o := match m with
    | some h => h.len
    | none => 0
  let r := b.drop o
  match iphcLen r with
  | none => none
  | some (n, nh, at_) =>
    match udpHdr (r.drop n) nh (leField r at_ 1) with
    | none => none
    | some (u, p) => if r.length < n + u then none else some { mesh := m, port := p, off := o + n + u }

/-- An IPHC header whose addresses are elided, and a compressed UDP header with both ports inline and the checksum
elided (R99). -/
def plcHeaders (port : Nat) (payload : Bytes) : Bytes :=
  beBytes 2 0x7E33 ++ [0xF4#8] ++ beBytes 2 port ++ beBytes 2 port ++ payload

end Sys2Proof.Machine
end

