-- ==== Sys2Proof/Machine/Suites.lean ====
section
/-! DEFINITION. The frame security suites (R133 to R137): what a frame is under its suite, whether it verifies under
a key, and the frames secured toward a meter (R66, R134). -/

namespace Sys2Proof.Machine

/-- A frame as the security check reads it. `bad` marks a structurally bad frame (R138). -/
structure Parsed where
  bad : Bool := true
  suite : Nat := 0
  level : Nat := 7
  counter : Nat := 0
  /-- associated data, nonce or initialisation vector, ciphertext and MIC -/
  aad : Bytes := []
  nonce : Bytes := []
  ct : Bytes := []
  mic : Bytes := []
  /-- bytes after the ciphertext that are not encrypted (wireless M-Bus) -/
  rest : Bytes := []
  /-- position of the ciphertext in the frame without block CRCs -/
  off : Nat := 0
  /-- C-field of a wireless M-Bus frame -/
  cField : Nat := 0
  /-- profile B: key derivation identity and the bytes under the MAC -/
  kdfId : Bytes := []
  macMsg : Bytes := []
  deriving DecidableEq, Repr

def badFrame : Parsed := {}

/-- A SUN frame: PSDU with FCS (R133). -/
def parseSun (b : Bytes) (identity : Bytes) (sched : Bool) : Parsed :=
  match fcsCheck b, parseMhr b with
  | some f, some h =>
    let n := b.length - f
    let ml := micLen h.level
    if h.security = false ∨ h.level < 5 ∨ h.keyIdMode ≠ 0 ∨ h.counter = 0xFFFFFFFF ∨ n < h.len + ml + 1 then badFrame
    else
      { bad := false, suite := 1, level := h.level, counter := h.counter, aad := b.take h.len,
        nonce := if sched then schedNonce identity h.counter h.level false 0 else stdNonce identity h.counter h.level,
        ct := slice b h.len (n - h.len - ml), mic := slice b (n - ml) ml, off := h.len }
  | _, _ => badFrame

/-- A power-line metering frame: the envelope in the UDP payload of the MAC payload (R133). -/
def parsePlcFrame (b : Bytes) (identity : Bytes) : Parsed :=
  match parsePlc b with
  | none => badFrame
  | some p =>
    let e := b.drop p.off
    let sec := leField e 0 1
    let level := sec % 8
    let ml := micLen level
    let ctr := leField e 1 4
    if e.length < 10 ∨ 8 ≤ sec ∨ level < 5 ∨ ctr = 0xFFFFFFFF ∨ e.length < 6 + ml then badFrame
    else
      { bad := false, suite := 4, level := level, counter := ctr, aad := e.take 5,
        nonce := schedNonce identity ctr level false 0, ct := slice e 5 (e.length - 5 - ml),
        mic := slice e (e.length - ml) ml, off := p.off + 5 }

/-- Profile A of EN 13757-7: encryption mode 5 under a short (0x7A) or long (0x72) transport header. -/
def parseProfileA (d : Bytes) : Parsed :=
  let ci := leField d 10 1
  let o := if ci = 0x72 then 19 else 11
  let acc := leField d o 1
  let cw := leField d (o + 2) 2
  let n := 16 * bits cw 7 4
  let idb := if ci = 0x72 then slice d 15 2 ++ slice d 11 4 ++ slice d 17 2 else slice d 2 8
  let c0 := o + 4
  if (ci ≠ 0x7A ∧ ci ≠ 0x72) ∨ bits cw 12 8 ≠ 5 ∨ n = 0 ∨ d.length < c0 + n then badFrame
  else
    { bad := false, suite := 2, counter := acc, nonce := idb ++ List.replicate 8 (BitVec.ofNat 8 acc),
      ct := slice d c0 n, mic := slice d (c0 + n - 8) 8, rest := d.drop (c0 + n), off := c0, cField := leField d 1 1 }

/-- Profile B of EN 13757-7: an authentication and fragmentation layer (CI 0x90) with message counter and 8-byte
MAC, then encryption mode 7. -/
def parseProfileB (d : Bytes) : Parsed :=
  let fcl := leField d 12 2
  let o1 := 14
  let mcl := fcl.testBit 13
  let mclV := if mcl then slice d o1 1 else []
  let o2 := if mcl then o1 + 1 else o1
  let o3 := if fcl.testBit 9 then o2 + 2 else o2
  let ctr := leField d o3 4
  let o4 := o3 + 4
  let mac := slice d o4 8
  let o5 := o4 + 8
  let ml := if fcl.testBit 12 then slice d o5 2 else []
  let o6 := o5 + ml.length
  let ci := leField d o6 1
  let o7 := if ci = 0x72 then o6 + 9 else o6 + 1
  let cw := leField d (o7 + 2) 2
  let n := 16 * bits cw 7 4
  let c0 := o7 + 5
  let idb := if ci = 0x72 then slice d (o6 + 1) 4 else slice d 4 4
  if leField d 10 1 ≠ 0x90 ∨ fcl.testBit 14 ∨ fcl.testBit 11 = false ∨ fcl.testBit 10 = false
      ∨ (ci ≠ 0x7A ∧ ci ≠ 0x72) ∨ bits cw 12 8 ≠ 7 ∨ n = 0 ∨ d.length < c0 + n ∨ ctr = 0xFFFFFFFF then badFrame
  else
    { bad := false, suite := 3, counter := ctr, nonce := fillBytes 16 0, ct := slice d c0 n, mic := mac,
      rest := d.drop (c0 + n), off := c0, cField := leField d 1 1, kdfId := idb,
      macMsg := mclV ++ leBytes 4 ctr ++ ml ++ d.drop o6 }

/-- A wireless M-Bus frame with its block CRCs. -/
def parseWmb (formatB : Bool) (b : Bytes) : Parsed :=
  match wmbStrip formatB b with
  | none => badFrame
  | some d =>
    let want := if formatB then b.length else d.length
    if d.length < 12 ∨ leField d 0 1 + 1 ≠ want then badFrame
    else
      let a := parseProfileA d
      if a.bad then parseProfileB d else a

/-- A derived key of profile B: CMAC of a constant, the counter, the meter's number and padding. -/
def profileKey (key : Bytes) (dc : Nat) (ctr : Nat) (idb : Bytes) : Bytes :=
  cmac key (leBytes 1 dc ++ leBytes 4 ctr ++ idb ++ fillBytes 7 7)

/-- Decrypt a frame under a key: the plaintext if the frame verifies (R133, R138). -/
def Parsed.open_ (f : Parsed) (key : Bytes) : Option Bytes :=
  if f.suite = 2 then
    let p := cbcDec key f.nonce f.ct
    if p.take 2 = [0x2F#8, 0x2F#8] then some p else none
  else if f.suite = 3 then
    if (cmac (profileKey key 1 f.counter f.kdfId) f.macMsg).take 8 = f.mic then
      some (cbcDec (profileKey key 0 f.counter f.kdfId) f.nonce f.ct)
    else none
  else
    let r := ccmOpen key f.nonce f.aad f.ct f.mic
    if r.2 then some r.1 else none

/-- mic8 (R137). -/
def Parsed.mic8 (f : Parsed) : Bytes := slice f.mic 0 8

/-- The counter of a frame against a mark (R136): under profile A the nearest value to the mark, below 0 where the mark is small. -/
def Parsed.count (f : Parsed) (unbound : Bool) (mark : Nat) : Int :=
  if f.suite ≠ 2 ∨ unbound then Int.ofNat f.counter
  else
    let base := Int.ofNat mark - 127
    base + (Int.ofNat f.counter - base) % 256

/-- Where a byte of a wireless M-Bus frame without block CRCs stands in the frame as received. -/
def wmbPos (formatB : Bool) (i : Nat) : Nat :=
  if formatB then (if i < 126 then i else i + 2)
  else if i < 10 then i else 12 + (i - 10) / 16 * 18 + (i - 10) % 16

/-- The frame as received with its ciphertext replaced by the plaintext (R194). -/
def Parsed.payload (f : Parsed) (formatB : Bool) (b pt : Bytes) : Bytes :=
  if f.suite = 2 ∨ f.suite = 3 then
    (pt.zipIdx).foldl (fun acc x => putBytes acc (wmbPos formatB (f.off + x.2)) [x.1]) b
  else putBytes b f.off pt

/-- The data the ledger reads: the control byte and items, or the data records. -/
def Parsed.plain (f : Parsed) (pt : Bytes) : Bytes :=
  if f.suite = 2 ∨ f.suite = 3 then pt.drop 2 ++ f.rest else pt

/-! ### Toward the meter -/

/-- The MHR of an acknowledgement (R66): frame control, sequence number, both EUI-64, auxiliary security header. -/
def ackMhr (frame eui ttEui : Bytes) : Bytes :=
  let m := parseMhr frame
  let seq := match m with
    | some m => m.seq.getD 0
    | none => 0
  let ctr := match m with
    | some m => m.counter
    | none => 0
  let fc := 0x2 + 0x8 + 0x40 + 0x2000 + 0xC00 + 0xC000
  leBytes 2 fc ++ leBytes 1 seq ++ eui ++ ttEui ++ leBytes 1 5 ++ leBytes 4 ctr

/-- ack_params: the 8-byte body and its MIC over the acknowledgement frame (R66, R134). -/
def ackParams (key frame eui ttEui body : Bytes) (counter : Nat) (retry : Bool) : Bytes :=
  let k := if retry then 2 else 1
  let sealed_ := ccmSeal key (schedNonce eui counter 5 true k) (ackMhr frame eui ttEui) (slice body 0 8) 4
  slice body 0 8 ++ slice sealed_ 8 4

/-- Secure a downlink MHR without auxiliary security header and its plaintext (R134, R214): level 5, counter dl_ctr,
kind 3. -/
def secureDownlink (key eui mhr pt : Bytes) (dlCtr : Nat) : Bytes :=
  let fc := leField mhr 0 2 ||| 8
  let m := leBytes 2 fc ++ mhr.drop 2 ++ leBytes 1 5 ++ leBytes 4 dlCtr
  m ++ ccmSeal key (schedNonce eui dlCtr 5 true 3) m pt 4

/-- The envelope of R133 toward a meter. -/
def envelope (key eui pt : Bytes) (dlCtr : Nat) : Bytes :=
  let h := leBytes 1 5 ++ leBytes 4 dlCtr
  h ++ ccmSeal key (schedNonce eui dlCtr 5 true 3) h pt 4

/-- The MHR of a device downlink to a SUN meter: a data frame from the timetable to the meter, both addresses
extended. -/
def deviceMhr (eui ttEui : Bytes) (seq : Nat) : Bytes :=
  leBytes 2 (0x1 + 0x40 + 0x2000 + 0xC00 + 0xC000) ++ leBytes 1 seq ++ eui ++ ttEui

/-- The key-change payload (R130). -/
def keyChange (generation : Nat) (key : Bytes) : Bytes :=
  leBytes 1 0x80 ++ leBytes 1 1 ++ leBytes 2 0 ++ leBytes 4 generation ++ slice key 0 16

/-- The relay payload (R161). -/
def relayPayload (action reason : Nat) : Bytes := leBytes 1 0x81 ++ leBytes 1 action ++ leBytes 1 reason ++ leBytes 1 0

end Sys2Proof.Machine
end

