-- ==== Sys2Proof/Machine/Roll.lean ====
section
/-! DEFINITION. The timetable side of an L-die (03_timetable_mac): the timetable of a frame, slot kinds, drift learning,
attendance, slot assignment and hall passes (R61 to R78). -/

namespace Sys2Proof.Machine

def State.ttTab (s : State) (d : Nat) : TtTab := (s.l d).tt
def State.setTt (s : State) (d : Nat) (t : TtTab) : State := (s.setL d { s.l d with tt := t }).mirAdd d (.timetable t)

/-- The number of an F-die (F0, F1) from its die index. -/
def State.fNum (s : State) (die : Nat) : Nat := die - s.nL

/-- Take one publication of timetable parameters: a timetable enabled anew leaves the parameters it ran under before among the
past ones. -/
def State.takeParams (s : State) (d : Nat) (p : TtParams) : State :=
  let t := s.ttTab d
  let k := 8 * s.fNum p.die + p.num
  let past := match smGet t.params k with
    | some q => if p.running && !q.running then (q :: t.past).take 64 else t.past
    | none => t.past
  (s.setTt d { t with params := smPut t.params k p, past := past }).mirSend d

/-- TIMETABLE_PARAMETERS_PUBLISH (R63): the next published parameters for die `d`. -/
def execTimetableParametersPublish (d : Nat) (s : State) : Res :=
  onL s d <|
    match s.ttPub.find? (fun p => p.1 == d) with
    | none => s
    | some (_, p) => ({ s with ttPub := s.ttPub.erase (d, p) }).takeParams d p

/-- The publications of F-die `f` that are still on the link reach die `d` before a later message of that F-die (DEDUCED,
assumption log 64). -/
def State.drainParams (s : State) (d f : Nat) : State :=
  let mine (m : Nat × TtParams) : Bool := m.1 == d && m.2.die == f
  (s.ttPub.filter mine).foldl (fun s m => s.takeParams d m.2) { s with ttPub := s.ttPub.filter (fun m => !mine m) }

/-- The parameters apply to a frame: the timetable was bound to its channel slot and ran at its sync. -/
def TtParams.covers (p : TtParams) (h : Header) : Bool :=
  p.die == h.die && p.chan == h.slot && decide (p.since ≤ h.syncTime)
    && (p.running || p.till.any (fun t => decide (h.syncTime < t)))

/-- The timetable of a frame (R63): the one that its F-die had bound to its channel slot, running at its sync. A following
timetable stands for the one it follows: the answer is the key of that one and the parameters. -/
def State.frameTt (s : State) (d : Nat) (h : Header) : Option (Nat × TtParams) :=
  let t := s.ttTab d
  match (t.params.map (·.2) ++ t.past).find? (fun p => p.covers h) with
  | none => none
  | some p =>
    let f := s.fNum h.die
    some (8 * (if p.follow then 1 - f else f) + p.num, p)

/-- Slot length in ticks: the unit is 100 µs. -/
def TtParams.slotTicks (p : TtParams) : Nat := p.slotLen * 10000

/-- The superframe and slot in which an instant falls (R61, R62). -/
def TtParams.slotAt (p : TtParams) (t : Nat) : Option (Nat × Nat) :=
  if t < p.start ∨ p.slotTicks = 0 ∨ p.slots = 0 then none
  else let i := (t - p.start) / p.slotTicks; some (i / p.slots, i % p.slots)

inductive SlotKind where
  | bell | broadcast | hall | open_ | data
  deriving DecidableEq, Repr

/-- A slot belongs to a series of first slot and stride. -/
def inSeries (first stride n : Nat) : Bool := stride != 0 && decide (first ≤ n) && (n - first) % stride == 0

/-- The kind of a slot (R61), the first matching row. -/
def TtParams.kindOf (p : TtParams) (n : Nat) : SlotKind :=
  if n = 0 then .bell
  else if p.bcFirst ≤ n ∧ n < p.bcFirst + p.bcCount then .broadcast
  else if inSeries p.hpFirst p.hpStride n then .hall
  else if inSeries p.openFirst p.openStride n then .open_
  else .data

/-- The predicted sync time of a data slot (R62). -/
def TtParams.predicted (p : TtParams) (k n : Nat) : Nat := p.start + (k * p.slots + n) * p.slotTicks + p.txLead * 100

/-- Key of an assignment table entry. -/
def assignKey (tt i : Nat) : Nat := tt * 2 ^ 40 + i
/-- The entry of a data slot in a superframe: (k mod period_max) × N + s (R70). -/
def TtParams.entry (p : TtParams) (k n : Nat) : Nat := (k % max 1 p.periodMax) * p.slots + n

/-! ### Drift learning (R73 to R75) -/

/-- Quotient rounded to the nearest integer, halves away from zero. -/
def roundDiv (a : Int) (b : Nat) : Int :=
  if a ≥ 0 then (2 * a + Int.ofNat b) / Int.ofNat (2 * b) else -((2 * (-a) + Int.ofNat b) / Int.ofNat (2 * b))

def sat16 (x : Int) : Int := max (-32768) (min 32767 x)

/-- Correction and rate_hint as a stored acknowledgement holds them. -/
def ackCorr (m : MRec) : Int := toSigned 16 (leField (m.gb rStoredAck) 0 2)
def ackHint (m : MRec) : Nat := leField (m.gb rStoredAck) 2 2

/-- The window half-width of R74 in ns, for a slot `eNs` after the bell. -/
def winNs (p : TtParams) (m : MRec) (eNs : Nat) : Nat :=
  if m.g rTtState = 3 ∨ m.g rTtState = 4 then p.winCap * 1000
  else if m.g rSamples = 0 then min (p.winCap * 1000) (p.guardMin * 1000 + p.joinPpm * eNs / 1000000)
  else min (p.winCap * 1000) (p.guardMin * 1000 + 3 * m.g rU)

/-- An assignment is in effect in data slot `n` of superframe `k`: the slot's window opened after the command completed (R70). -/
def AssignEnt.inEffect (e : AssignEnt) (p : TtParams) (m : MRec) (k n : Nat) : Bool :=
  decide (e.since + winNs p m (n * p.slotTicks * 10) / 10 < p.predicted k n)

/-- The frame's sync fell in the meter's own data slot, its assignment being in effect there. -/
def ownSlot (t : TtTab) (h : Nat) (m : MRec) (tt : Nat) (p : TtParams) (k n : Nat) : Bool :=
  m.g rTt == tt && m.g rSlot == n && k % (m.g rPeriod + 1) == m.g rPhase && p.kindOf n == .data
    && (match smGet t.assign (assignKey tt (p.entry k n)) with
      | some e => e.handle == h && e.inEffect p m k n
      | none => false)

/-- What learning answers: the record, correction, rate hint and the resync flag. -/
structure Learned where
  m : MRec
  corr : Int
  hint : Nat
  resync : Bool

/-- R75 for a sync `eTicks` after the predicted time, in slot `n`. -/
def learn (p : TtParams) (m : MRec) (n : Nat) (eTicks : Int) (resyncBit : Bool) : Learned :=
  let eNs := n * p.slotTicks * 10
  let e := eTicks * 10
  let b := if resyncBit then e else e - ackCorr m * 1000
  let w := Int.ofNat (winNs p m eNs)
  let far := decide (w < Int.ofNat e.natAbs)
  let had := decide (0 < m.g rSamples)
  let r := !had || resyncBit || far
  let m := if had && far then m.incr rOowCount else m
  let m :=
    if r then (m.pz rBEst b).p rU (p.uInit * 1000)
    else
      let d := b - m.gz rBEst
      let u := Int.ofNat (m.g rU)
      (m.pz rBEst (m.gz rBEst + roundDiv d 4)).p rU (u + roundDiv (Int.ofNat d.natAbs - u) 4).toNat
  let m := m.incr rSamples
  let c := sat16 (-roundDiv (m.gz rBEst) 1000)
  let h := sat16 (roundDiv (-(m.gz rBEst) * 100000000) (max 1 eNs))
  { m := m, corr := c, hint := ofSigned 16 h, resync := r && had }

/-- Presence (R77): an Accept or Duplicate clears misses; the answer says whether truancy was cleared. -/
def State.present (s : State) (d slot : Nat) (m : MRec) (sync : Nat) : State × MRec × Bool :=
  let m := (m.p rMisses 0).p rLastSeen sync
  match m.g rTtState with
  | 1 => (s, m.p rTtState 2, false)
  | 3 => (s.raiseM d slot 89, m.p rTtState 2, true)
  | 4 => (s.raiseM d slot 89, m.p rTtState 2, true)
  | _ => (s, m, false)

/-- The retry slot of R67. -/
def TtParams.retrySlot (p : TtParams) (m : MRec) (tt : Nat) : Nat :=
  if p.openStride = 0 then 0
  else if m.g rTt ≠ tt then p.openFirst
  else
    match (List.range (p.slots - m.g rSlot)).find? (fun i => p.kindOf (m.g rSlot + i) == .open_) with
    | some i => m.g rSlot + i
    | none => p.openFirst

/-! ### Hall passes (R70, R72) -/

/-- The hall-pass entry of a handle. -/
def State.hallOf (s : State) (d h : Nat) : Option (Nat × HallPass) := (s.ttTab d).halls.find? (fun e => e.2.handle == h)

/-- The pass is valid for a timetable at a sync time. -/
def HallPass.valid (x : HallPass) (tt sync : Nat) : Bool :=
  x.ttMask.testBit (tt % 8) && (if x.fdieMask = 0 then true else x.fdieMask.testBit (tt / 8))
    && (x.expiry == 0 || decide (sync < x.expiry)) && x.uses != 0

/-- The hall-pass check of a frame whose sync fell in a hall-pass slot: the answer says "no pass". -/
def State.hallCheck (s : State) (d slot : Nat) (m : MRec) (tt sync : Nat) (accept : Bool) : State × MRec × Bool :=
  match s.hallOf d (s.slotHandle d slot) with
  | some (i, x) =>
    if x.valid tt sync then
      if accept ∧ x.uses ≠ 0xFFFF then
        (s.setTt d { s.ttTab d with halls := smPut (s.ttTab d).halls i { x with uses := x.uses - 1 } }, m, false)
      else (s, m, false)
    else if limiterOpen m.noPass (s.devTime d) 360000000000 then
      (s.raiseM d slot 90, { m with noPass := some (s.devTime d) }, true)
    else (s, m, true)
  | none =>
    if limiterOpen m.noPass (s.devTime d) 360000000000 then
      (s.raiseM d slot 90, { m with noPass := some (s.devTime d) }, true)
    else (s, m, true)

/-- The meter is to be told of a change of its assignment; telling it clears the marks (R70). -/
def State.tellChange (s : State) (d slot : Nat) : State × Bool :=
  let h := s.slotHandle d slot
  let t := s.ttTab d
  if t.assign.any (fun e => e.2.handle == h && e.2.tell) then
    (s.setTt d { t with assign := t.assign.map (fun e => if e.2.handle = h then (e.1, { e.2 with tell := false }) else e) }, true)
  else (s, false)

/-! ### Attendance (R76 to R78) -/

/-- A miss: u is doubled; a doubled value that the field cannot hold is a free value. -/
def State.doubleU (s : State) (m : MRec) : State × MRec :=
  let u := 2 * m.g rU
  if u < 2 ^ 32 then (s, m.p rU u) else let r := s.freeBelow (2 ^ 32); (r.2, m.p rU r.1)

/-- DATA_SLOT_END (R76 to R78): data slot `slotNo` of superframe `k` of timetable `n` of F-die `f` has ended. The meter assigned to it
is checked, once for the slot. -/
def execDataSlotEnd (d f n k slotNo : Nat) (s : State) : Res :=
  onL s d <|
    let tt := 8 * (f % 2) + n % 8
    match smGet (s.ttTab d).params tt with
    | none => s
    | some p =>
      let no := k * p.slots + slotNo
      let from_ := p.start + no * p.slotTicks
      let i := assignKey tt (p.entry k slotNo)
      if p.running = false ∨ p.follow ∨ p.slots ≤ slotNo ∨ s.serving d = false ∨ p.kindOf slotNo ≠ .data
          ∨ s.devTime d < from_ + p.slotTicks then s
      else match smGet (s.ttTab d).assign i with
        | none => s
        | some e =>
          let slot := e.handle % 2 ^ 20
          if no < e.checked then s
          else
            let r := s.fetch d slot
            match r.1 with
            | none => r.2
            | some m =>
              if !e.inEffect p m k slotNo then r.2
              else
                let s := r.2.setTt d { r.2.ttTab d with assign := smPut (r.2.ttTab d).assign i { e with checked := no + 1 } }
                if from_ ≤ m.g rLastSeen ∧ m.g rLastSeen < from_ + p.slotTicks then s.mirSend d
                else
                  let u := s.doubleU (m.incr rMisses)
                  let s := u.1
                  let m := u.2
                  let x := m.g rMisses
                  let v := if x = 3 then (s.raiseM d slot 88, (m.p rTtState 3).incr rTruantCount) else (s, m)
                  let w := if x = 3 + min p.truantHold 252 ∧ v.2.g rTtState = 3 then (v.1.raiseM d slot 91, v.2.p rTtState 4) else v
                  (w.1.update d slot w.2).mirSend d

/-! ### Commands 0x10 to 0x13 -/

/-- Run a command on a record, in its turn: fetched under the fetch check, with its boundaries processed. -/
def State.withRec (s : State) (d opcode : Nat) (k : State → Cmd → Nat → MRec → State) : State :=
  s.withCmd d opcode fun s c =>
    if s.recWaits d c || s.arcFull d then s else
    let r := s.fetch d c.slot
    match r.1 with
    | none => r.2.complete c.id 0x030E
    | some m =>
      let u := r.2.current d c.slot m
      if u.2.g rState = 0 then u.1.complete c.id 0x0301 else k u.1 c c.slot u.2

/-- End a command that has changed a record or a table the archive restores: its entry and result are appended to the
archive log (R233), the command completes, and the change is mirrored. -/
def State.doneRec (s : State) (d : Nat) (c : Cmd) (result : Bytes := []) (src : Bytes := []) : State :=
  let s := s.arcAppend d 0x03 0 c.target (s.lt d) (slice c.entry 0 64 ++ slice result 0 40) src
  (s.complete c.id 0 result).mirSend d

/-- The entries of the table that an assignment occupies. -/
def TtParams.occupied (p : TtParams) (period phase slotNo : Nat) : List Nat :=
  ((List.range p.periodMax).filter (fun k => k % period == phase)).map (fun k => p.entry k slotNo)

/-- The assignment table without a meter's entries. -/
def dropAssign (t : TtTab) (h : Nat) : SMap AssignEnt := t.assign.filter (fun e => e.2.handle != h)

/-- ASSIGN_SLOT, opcode 0x10 (R70). The meter's own entries do not count as held against it, and an assignment after a release counts
as a change of slot whatever slot the meter had before (DESIGN CHOICE, assumption log 64). -/
def execAssignSlot (d : Nat) (s : State) : Res :=
  onL s d <| s.withRec d 0x10 fun s c slot m =>
    let tt := c.op 16 1
    let per := c.op 18 2
    let ph := c.op 20 1
    let sn := c.op 22 2
    let h := s.slotHandle d slot
    if 16 ≤ tt then s.complete c.id 0x0103
    else match smGet (s.ttTab d).params tt with
      | none => s.complete c.id 0x050B
      | some p =>
        if p.running = false ∨ p.follow then s.complete c.id 0x050B
        else if p.slots ≤ sn ∨ p.kindOf sn ≠ .data ∨ per = 0 ∨ p.periodMax < per ∨ p.periodMax % per ≠ 0 ∨ per ≤ ph then
          s.complete c.id 0x050A
        else
          let rest := dropAssign (s.ttTab d) h
          let want := (p.occupied per ph sn).map (assignKey tt)
          if want.any (fun i => (smGet rest i).isSome) then s.complete c.id 0x0509
          else
            let moved := m.g rTt ≠ tt ∨ m.g rSlot ≠ sn
            let s := s.setTt d { s.ttTab d with 
              assign := want.foldl (fun a i => smPut a i ⟨h, m.gb rIdentity, true, s.devTime d, 0⟩) rest }
            let m := if moved then (m.p rSamples 0).p rTtState 1 else m
            let m := (((m.p rTt tt).p rPeriod (per - 1)).p rPhase ph).p rSlot sn
            (s.update d slot m).doneRec d c

/-- RELEASE_SLOT, opcode 0x11. -/
def execReleaseSlot (d : Nat) (s : State) : Res :=
  onL s d <| s.withRec d 0x11 fun s c slot m =>
    if m.g rTt = 0xFF then s.complete c.id 0
    else
      let h := s.slotHandle d slot
      let s := s.setTt d { s.ttTab d with assign := dropAssign (s.ttTab d) h }
      (s.update d slot ((m.p rTt 0xFF).p rTtState 0)).doneRec d c

/-- GRANT_HALL_PASS, opcode 0x12. -/
def execGrantHallPass (d : Nat) (s : State) : Res :=
  onL s d <| s.withRec d 0x12 fun s c slot _ =>
    let h := s.slotHandle d slot
    let x : HallPass := ⟨h, c.op 16 8, c.op 24 2, c.op 26 1, c.op 27 1⟩
    let t := s.ttTab d
    let i := match s.hallOf d h with
      | some e => some e.1
      | none => (List.range 65536).find? (fun i => (smGet t.halls i).isNone)
    match i with
    | none => s.complete c.id 0x050D
    | some i => (s.setTt d { t with halls := smPut t.halls i x }).doneRec d c (leBytes 4 i)

/-- REVOKE_HALL_PASS, opcode 0x13. -/
def execRevokeHallPass (d : Nat) (s : State) : Res :=
  onL s d <| s.withRec d 0x13 fun s c slot _ =>
    let t := s.ttTab d
    match s.hallOf d (s.slotHandle d slot) with
    | none => s.complete c.id 0
    | some (i, _) => (s.setTt d { t with halls := smDel t.halls i }).doneRec d c

end Sys2Proof.Machine
end

