-- ==== Sys2Proof/Machine/Keys.lean ====
section
/-! DEFINITION. Meter keys (05_locker_security R123 to R130): wrapped keys, the key cache, the key states, rotation, and
the commands that act on them. -/

namespace Sys2Proof.Machine

def State.sec (s : State) (d : Nat) : Sec := (s.l d).sec
def State.setSec (s : State) (d : Nat) (x : Sec) : State := s.setL d { s.l d with sec := x }

/-- A wrapped key's fields (R123). -/
def wkKind (w : Bytes) : Nat := leField w 1 1
def wkOrigin (w : Bytes) : Nat := leField w 2 1

def wkEmpty : Bytes := fillBytes 64 0

/-- Wrap a key: bytes 0 to 19 are the associated data. -/
def State.wrapKey (s : State) (k1 : Bytes) (kind origin suite : Nat) (identity : Bytes) (gen : Nat) (key : Bytes) :
    Bytes × State :=
  let a := leBytes 1 1 ++ leBytes 1 kind ++ leBytes 1 origin ++ leBytes 1 suite ++ slice identity 0 8 ++ leBytes 4 gen ++ leBytes 4 0
  let r := s.randomBytes 12
  (a ++ r.1 ++ gcmSeal k1 r.1 a (slice key 0 16), r.2)

/-- Unwrap: it fails if the tag fails or the identity is not the record's (R124). -/
def unwrap (k1 identity w : Bytes) : Option Bytes :=
  if slice w 4 8 ≠ identity then none
  else gcmOpen k1 (slice w 20 12) (w.take 20) (slice w 32 16) (slice w 48 16)

/-- Both wrapped positions of a record slot: link and spare. -/
def State.wrappedOf (s : State) (d slot : Nat) : Bytes × Bytes := (smGet (s.sec d).wrapped slot).getD (wkEmpty, wkEmpty)

/-- Write both wrapped positions: mirrored, archived, and the cache entry invalidated (R123, R125, R233). -/
def State.setWrapped (s : State) (d slot : Nat) (w : Bytes × Bytes) : State :=
  let x := s.sec d
  let s := s.setSec d { x with wrapped := smPut x.wrapped slot w, cache := x.cache.filter (fun e => e.slot != slot) }
  (s.mirAdd d (.keys slot (some w))).arcAppend d 0x04 0 (s.slotHandle d slot) (s.lt d) (w.1 ++ w.2)

/-- The keys a record holds, unwrapped under the wrapping key: link, and the spare while Staged or Retiring. -/
def State.openKeys (s : State) (d slot : Nat) (m : MRec) (k1 : Bytes) : Option (Bytes × Option Bytes) :=
  let w := s.wrappedOf d slot
  match unwrap k1 (m.gb rIdentity) w.1 with
  | none => none
  | some l =>
    if m.g rKeyState = 3 ∨ m.g rKeyState = 4 then (unwrap k1 (m.gb rIdentity) w.2).map (fun p => (l, some p)) else some (l, none)

/-- Count `n` operations on slot 1. -/
def State.useSlot1 (s : State) (d : Nat) (n : Nat) : State :=
  (List.range n).foldl (fun s _ => match s.slot d 1 with
    | some x => s.keyUsed d 1 x
    | none => s) s

/-! ### The key cache (R125) -/

def cacheSets : Nat := 4096

/-- Put an entry in front; the fifth of a set is replaced. -/
def cachePut (e : CacheEntry) (l : List CacheEntry) : List CacheEntry :=
  let rest := l.filter (fun x => x.slot != e.slot)
  let same := rest.filter (fun x => x.slot % cacheSets == e.slot % cacheSets)
  match same[3]? with
  | none => e :: rest
  | some v => e :: rest.filter (fun x => x.slot != v.slot)

/-- An unwrap of a record's keys has failed (R124): the record's wrapped-key fault flag is set. -/
def State.unwrapFail (s : State) (d slot : Nat) (m : MRec) : State :=
  (((s.inc d SEC_WRAP_FAIL_CNT).raiseM d slot 35).update d slot (m.pbit rSecFlags 1 true)).mirSend d

/-- Unwrap a record's keys with slot 1 (R118, R124): the refusing status, or the keys, absent when an unwrap fails. -/
def State.unwrapKeys (s : State) (d slot : Nat) (m : MRec) : State × (Nat ⊕ Option (Bytes × Option Bytes)) :=
  match s.keyCheck d 1 useUnwrap with
  | .inl e => (s, .inl e)
  | .inr x =>
    match s.openKeys d slot m x.key with
    | none => ((s.useSlot1 d 1).unwrapFail d slot m, .inr none)
    | some k => (s.useSlot1 d (if k.2.isSome then 2 else 1), .inr (some k))

/-- What a look for a meter's keys gives: keys, none because their unwrap failed, or no answer while the Locker cannot serve. -/
inductive KeyFetch where
  | keys (link : Bytes) (spare : Option Bytes)
  | failed
  | busy
  deriving DecidableEq, Repr

def KeyFetch.toOption : KeyFetch → Option (Bytes × Option Bytes)
  | .keys l p => some (l, p)
  | .failed => none
  | .busy => none

/-- The entry of the key cache for a record slot. -/
def State.cached (s : State) (d slot : Nat) : Option CacheEntry := (s.sec d).cache.find? (fun e => e.slot == slot)

/-- Unwrap a record's keys into the cache: a miss (R22, R125). A refused unwrap is counted (R118). -/
def State.missKeys (s : State) (d slot : Nat) (m : MRec) : State × KeyFetch :=
  let r := (s.inc d SEC_CACHE_MISS_CNT).unwrapKeys d slot m
  match r.2 with
  | .inl e => (s.lockRefuse d 1 e, .busy)
  | .inr none => (r.1, .failed)
  | .inr (some (l, p)) =>
    let x := r.1.sec d
    (r.1.setSec d { x with cache := cachePut ⟨slot, l, p⟩ x.cache }, .keys l p)

/-- The prefetch of a record's keys: a hit of the cache, or a miss (R22, R125). -/
def State.fetchKeys (s : State) (d slot : Nat) (m : MRec) : State × KeyFetch :=
  match s.cached d slot with
  | some e =>
    let x := s.sec d
    ((s.setSec d { x with cache := cachePut e x.cache }).inc d SEC_CACHE_HIT_CNT, .keys e.link e.spare)
  | none => s.missKeys d slot m

/-- The keys at a decision: those of the prefetch, which the cache holds; where a zeroisation, a flush or a key change has taken
them since, they are fetched anew (R115, R125). -/
def State.heldKeys (s : State) (d slot : Nat) (m : MRec) : State × KeyFetch :=
  match s.cached d slot with
  | some e => (s, .keys e.link e.spare)
  | none => s.missKeys d slot m

/-- The Locker would wrap under slot 1 now. -/
def State.canWrap (s : State) (d : Nat) : Bool :=
  match s.keyCheck d 1 useWrap with
  | .inl _ => false
  | .inr x => decide (2 ≤ x.uses)

/-! ### Key states (R127, R128) -/

/-- A new key in the spare position: the meter becomes Staged. -/
def State.stageKey (s : State) (d slot : Nat) (m : MRec) (k1 : Bytes) (origin : Nat) (key : Bytes) (pending : Bool) : State × MRec :=
  let gen := m.g rLinkGen + 1
  let r := s.wrapKey k1 2 origin (m.g rSuite) (m.gb rIdentity) gen key
  let s := r.2.setWrapped d slot ((s.wrappedOf d slot).1, r.1)
  let m := (((m.p rKeyState 3).p rSpareGen gen).p rStageTime (s.devTime d)).pbit rSecFlags 2 pending
  (s, { m with stale := false })

/-- The spare position becomes empty and the meter Stable. -/
def State.dropSpare (s : State) (d slot : Nat) (m : MRec) : State × MRec :=
  let s := s.setWrapped d slot ((s.wrappedOf d slot).1, wkEmpty)
  (s, (((m.p rKeyState 2).p rSpareGen 0).pbit rSecFlags 2 false).pbit rSecFlags 3 false)

/-- The commit of R128: the positions are exchanged and relabelled, and the old mark is kept for the retiring key. -/
def State.commitKeys (s : State) (d slot : Nat) (m : MRec) (link spare : Bytes) : State × MRec :=
  match s.keyCheck d 1 useWrap with
  | .inl _ => (s, m)
  | .inr x =>
    let w := s.wrappedOf d slot
    let id := m.gb rIdentity
    let su := m.g rSuite
    let a := s.wrapKey x.key 1 (wkOrigin w.2) su id (m.g rSpareGen) spare
    let b := a.2.wrapKey x.key 3 (wkOrigin w.1) su id (m.g rLinkGen) link
    let s := (b.2.useSlot1 d 2).setWrapped d slot (a.1, b.1)
    -- the cache entry is updated in place (R125)
    let y := s.sec d
    let s := s.setSec d { y with cache := cachePut ⟨slot, spare, some link⟩ y.cache }
    let m := ((m.p rPrevHwm (m.g rHwm)).pb rPrevMic (m.gb rLastMic)).pb rPrevAck (m.gb rStoredAck)
    let g := m.g rLinkGen
    let m := ((m.p rLinkGen (m.g rSpareGen)).p rSpareGen g).p rKeyState 4
    let m := (m.pbit rSecFlags 2 false).pbit rSecFlags 3 true
    (s.inc d SEC_COMMIT_CNT, { m with commitAt := s.devTime d })

/-- Records of a die in slot order that satisfy a test. -/
def State.findRec (s : State) (d : Nat) (f : MRec → Bool) : Option (Nat × MRec) := (s.l d).recs.find? (fun e => f e.2)

/-- RETIRE_HOLD_EXPIRY (R127): the next meter whose retiring key has been held retire_hold hours. -/
def execRetireHoldExpiry (d : Nat) (s : State) : Res :=
  onL s d <|
    let hold := max 1 (s.get d SEC_ROT_CFG_retire_hold) * 360000000000
    match s.findRec d (fun m => m.g rKeyState == 4 && decide (m.commitAt + hold ≤ s.devTime d)) with
    | none => s
    | some (slot, m) => let u := s.dropSpare d slot m; (u.1.update d slot u.2).mirSend d

/-- STAGED_KEY_STALE (R130): the next meter still Staged stage_max days after staging. -/
def execStagedKeyStale (d : Nat) (s : State) : Res :=
  onL s d <|
    let days := s.get d SEC_ROT_CFG_stage_max
    if days = 0 then s
    else match s.findRec d (fun m => m.g rKeyState == 3 && !m.stale && decide (m.g rStageTime + days * 8640000000000 ≤ s.devTime d)) with
      | none => s
      | some (slot, m) => (s.raiseM d slot 36).setRecs d (smPut (s.l d).recs slot { m with stale := true })

/-! ### The pipeline's controls (R123, R125) -/

/-- SEC_ENABLE (R123): refused while slot 1 is invalid. -/
def execSecEnable (d : Nat) (s : State) : Res :=
  onL s d <| if !s.domOn d 3 then s else
    match s.slot d 1 with
    | none => (s.inc d LOCK_REFUSE_CNT).raise d 14 (arg 0 1 + arg 2 0x020D)
    | some _ => (s.putB d SEC_CTRL_enable true).putB d SEC_STAT_running true

/-- CACHE_FLUSH (R125). -/
def execCacheFlush (d : Nat) (s : State) : Res := onL s d (s.setSec d { s.sec d with cache := [] })

/-! ### Commands 0x21, 0x26 to 0x28, 0x2A -/

/-- IMPORT_METER_KEY, opcode 0x21 (R212): `pkg` is the package read from host memory. -/
def execImportMeterKey (d : Nat) (pkg : Bytes) (s : State) : Res :=
  onL s d <| if s.flag d LOCK_STAT_fuse_error then s.withLocker d 0x21 (fun _ => 4) (fun s _ => s) else
    s.withRec d 0x21 fun s c slot m =>
    let stage := bit (c.op 26 1) 0
    let given := bit (c.op 26 1) 1
    let fault := m.bit rSecFlags 1
    let ks := m.g rKeyState
    let refuse : Nat :=
      if stage then (if fault then 0x0206 else if ks = 3 ∨ ks = 4 then 0x0207 else if ks = 0 then 0x020B else 0)
      else if fault ∨ ks = 0 then 0 else 0x020E
    if refuse ≠ 0 then s.complete c.id refuse
    else match s.keyCheck d 4 useUnwrap with
      | .inl e => s.refuseCmd d 4 e c
      | .inr x =>
        match s.keyCheck d 1 useWrap with
        | .inl e => s.refuseCmd d 1 e c
        | .inr k1 =>
          match s.openPackage d x (slice pkg 0 (c.op 24 2)) with
          | none => s.complete c.id 0x020A
          | some p =>
            let y := slotOfBytes p 2
            if y.alg ≠ 0 ∨ y.key.length ≠ 16 then s.complete c.id 0x020A
            else
              let s := (s.keyUsed d 4 x).useSlot1 d 1
              let gen := m.g rLinkGen + 1
              if stage then
                let u := s.stageKey d slot m k1.key 2 y.key false
                ((u.1.update d slot u.2).complete c.id 0 (leBytes 4 gen)).mirSend d
              else
                let r := s.wrapKey k1.key 1 2 (m.g rSuite) (m.gb rIdentity) gen y.key
                let s := r.2.setWrapped d slot (r.1, wkEmpty)
                let m := (((m.p rLinkGen gen).p rSpareGen 0).pbit rSecFlags 1 false).p rKeyState (if given then 2 else 1)
                let m := if given then m.p rHwm (c.op 28 4) else m
                ((s.update d slot m).complete c.id 0 (leBytes 4 gen)).mirSend d

/-- ATTEST, opcode 0x26 (R131, R132): `nonce` is the 32-byte host nonce. -/
def execAttest (d : Nat) (nonce : Bytes) (s : State) : Res :=
  onDie s d <| s.withLocker d 0x26 (fun _ => 2) fun s c =>
    let kind := c.op 16 1
    let lc := (s.lock d).lc
    if 2 < kind then s.complete c.id 0x0103
    else if lc = 0 ∨ lc = 3 then s.refuseCmd d 2 0x0204 c
    else if kind = 2 then s.attestWith d c nonce {}
    else if kind = 0 then
      (match s.slot d (c.op 18 2) with
        | none => s.refuseCmd d (c.op 18 2) 0x0201 c
        | some x =>
          -- the root secret enters no fingerprint (R112)
          if c.op 18 2 = 0 then s.refuseCmd d 0 0x0202 c else s.attestWith d c nonce (attestSlot (c.op 18 2) x))
    else if !s.isL d then s.complete c.id 0x0104
    else
      let r := s.fetch d c.slot
      (match r.1 with
        | none => r.2.complete c.id 0x030E
        | some m =>
          if m.g rKeyState = 0 then r.2.complete c.id 0x020B
          else if m.bit rSecFlags 1 then r.2.complete c.id 0x0206
          else
            let u := r.2.unwrapKeys d c.slot m
            let s := u.1
            match u.2 with
            | .inl e => s.refuseCmd d 1 e c
            | .inr none => s.complete c.id 0x0206
            | .inr (some (k, _)) =>
              s.attestWith d c nonce {
                attr := 2 ^ 12 * wkOrigin (s.wrappedOf d c.slot).1, identity := m.gb rIdentity,
                generation := m.g rLinkGen, fingerprint := fingerprint 0 k })

/-- A rotation skips a handle (R129). -/
def rotSkips (m : Option MRec) : Bool :=
  match m with
  | none => true
  | some m => m.g rState == 0 || m.g rKeyState == 0 || m.g rKeyState == 3 || m.g rKeyState == 4 || m.g rSuite == 2
      || m.g rSuite == 3 || m.bit rSecFlags 1

/-- Stage a new key for one meter of a rotation. -/
def State.rotStage (s : State) (d slot : Nat) (m : MRec) (k1 : Bytes) : State :=
  let r := s.randomBytes 16
  let u := (r.2.useSlot1 d 1).stageKey d slot m k1 1 r.1 true
  (u.1.update d slot u.2).mirSend d

/-- The end of a rotation: L-037 and the registers. -/
def State.rotEnd (s : State) (d : Nat) (o : LongOp) (st : Nat) : State :=
  let s := (s.putB d SEC_ROT_PROG_running false).putB d SEC_ROT_PROG_done true
  (s.raise d 37 (arg 0 o.countA + arg 4 o.countB)).finishLong o st

/-- The next handle of the rotation in progress. -/
def State.rotStep (s : State) (d : Nat) (o : LongOp) : State :=
  let n := o.countA + o.countB
  let h := o.first + n
  let r := s.fetch d (h % 2 ^ 20)
  let m := if s.handleOk h && s.handleDie h == some d then r.1 else none
  let s := if s.handleOk h then r.2 else s
  match s.keyCheck d 1 useWrap with
  | .inl e => s.lockRefuse d 1 e
  | .inr k1 =>
    let skip := rotSkips m
    let s := match m with
      | some x => if skip then s else s.rotStage d (h % 2 ^ 20) x k1.key
      | none => s
    let o := { o with
      pos := h, countA := o.countA + b2n (!skip), countB := o.countB + b2n skip,
      percent := 100 * (n + 1) / max 1 o.stop }
    let s := ((s.put d SEC_ROT_PROG_percent o.percent).put d SEC_ROT_POS_handle h).setLong o
    if o.stop ≤ n + 1 then s.rotEnd d o 0 else s

/-- ROTATE, opcode 0x27 (R129): a command starts the rotation, or fails while one runs; otherwise the rotation in
progress processes its next handle. -/
def execRotate (d : Nat) (s : State) : Res :=
  onL s d <|
    let running := (s.longOp d 0x27).any (fun o => o.done.isNone)
    match s.nextCmd d 0x27 with
    | some c =>
      if (s.longOp d 0x27).isSome then (s.put d SEC_ROT_PROG_error 0x09).complete c.id 0x0209
      else if !s.handleOk (c.op 16 4) then s.complete c.id 0x0102
      else if c.op 20 4 = 0 ∨ 1048576 < c.op 20 4 then s.complete c.id 0x0103
      else
        let s := ((s.put d SEC_ROT_PROG_percent 0).putB d SEC_ROT_PROG_running true).putB d SEC_ROT_PROG_done false
        (s.put d SEC_ROT_PROG_error 0).startLong { cmd := c.id, die := d, opcode := 0x27, first := c.op 16 4, stop := c.op 20 4 }
    | none =>
      match s.longOp d 0x27 with
      | none => s
      | some o => if running = false then s else if o.aborted then s.rotEnd d o o.abortStatus else s.rotStep d o

/-- CANCEL_STAGE, opcode 0x28 (R127). -/
def execCancelStage (d : Nat) (s : State) : Res :=
  onL s d <| s.withRec d 0x28 fun s c slot m =>
    if m.g rKeyState ≠ 3 then s.complete c.id 0x0208
    else
      let u := s.dropSpare d slot m
      ((u.1.update d slot u.2).complete c.id 0).mirSend d

/-- An entry of the unknown-identity summary (R139). -/
def unknownBytes (u : UnknownEnt) : Bytes :=
  slice u.identity 0 8 ++ leBytes 8 u.first ++ leBytes 8 u.last ++ leBytes 4 u.count ++ leBytes 1 u.kind ++ leBytes 3 0

/-- READ_UNKNOWN_SUMMARY, opcode 0x2A: most recently seen first. -/
def execReadUnknownSummary (d : Nat) (s : State) : Res :=
  onL s d <| s.withCmd d 0x2A fun s c =>
    let l := (s.sec d).unknowns
    let s := s.toHost c.port (c.op 16 8) (l.flatMap unknownBytes)
    let s := if bit (c.op 24 1) 0 then s.setSec d { s.sec d with unknowns := [] } else s
    s.complete c.id 0 (leBytes 2 l.length)

end Sys2Proof.Machine
end

