-- ==== Sys2Proof/Machine/LedgerCmd.lean ====
section
/-! DEFINITION. Ledger events in time (slew, hold, boundary sweeps) and the ledger's host commands (06_ledger_tariffs
R145 to R166, opcodes of R212). -/

namespace Sys2Proof.Machine

/-! ### Ledger time -/

/-- SLEW_COMPLETE (R145): LT in Slewing has reached device time. -/
def execSlewComplete (d : Nat) (s : State) : Res :=
  onL s d <|
    if s.ltState d = 1 ∧ (s.led d).lt = (s.com1 d).clk then ((s.ltNormal d).mirLed d).mirSend d else s

/-- HOLD_AUTO_END (R147). -/
def execHoldAutoEnd (d : Nat) (s : State) : Res := onL s d ((s.holdAutoEnd d).mirSend d)

/-- HOLD_RELEASE (R147): LEDG_CTRL.hold_release written 1. -/
def execHoldRelease (d : Nat) (s : State) : Res :=
  onL s d <|
    if s.held d then
      ((((s.endHold d 4).put d LEDG_STAT_lt_state 1).mirLed d).defaultCheck d).mirSend d
    else s

/-! ### Sweeps (R156, R157, R235) -/

/-- The last boundary of a program content at or before a ledger second. -/
def lastBoundary (p : Bytes) (tai sec : Nat) : Nat := nextBoundary p tai sec - max 1 (pIntLen p) * 60

/-- The last boundary of the programs loaded at or before a ledger second. -/
def State.sweepTarget (s : State) (d sec : Nat) : Nat :=
  (s.led d).progs.foldl (fun a v => max a (lastBoundary v.bytes (s.tai d) sec)) 0

/-- Sweep one record: its boundaries up to `b`, each in one record update (R156). -/
def State.sweepRec (s : State) (d b slot : Nat) : State :=
  let r := s.fetch d slot
  match r.1 with
  | none => r.2
  | some m => if m.g rState = 0 then r.2 else (r.2.catchUp d slot m b (r.2.pendingBound d m b)).1

/-- Program contents whose activation has been reached are announced (L-079, R150). -/
def State.announce (s : State) (d b : Nat) : State :=
  let l := (s.led d).progs
  let s := (l.filter (fun v => !v.announced && decide (v.act ≤ b))).foldl
    (fun s v => s.raise d 79 (arg 0 v.num + arg 2 (pRevision v.bytes))) s
  s.setLed d { s.led d with
    progs := (s.led d).progs.map (fun v => if v.act ≤ b then { v with announced := true } else v) }

/-- BOUNDARY_SWEEP (R156): the sweep of the boundaries reached since the last one. -/
def execBoundarySweep (d : Nat) (s : State) : Res :=
  onL s d <|
    let b := s.sweepTarget d (s.ltSec d)
    if s.flag d LEDG_STAT_running = false ∨ s.serving d = false ∨ s.flag d LEDG_STAT_sweep_busy
        ∨ b ≤ s.get d LEDG_SWEEP_boundary ∨ s.arcFull d then s
    else
      let s := ((s.l d).recs.map (·.1)).foldl (fun s slot => s.sweepRec d b slot) s
      let s := s.announce d b
      let s := s.setLed d { s.led d with sweepTo := b }
      (((s.putB d LEDG_STAT_sweep_busy true).mirLed d)).mirSend d

/-- The interval grids in use on a die: length and standard offset of the programs loaded. -/
def State.grids (s : State) (d : Nat) : List Bytes :=
  (s.led d).progs.foldl (fun acc v =>
    if acc.any (fun q => pIntLen q == pIntLen v.bytes && decide (pStdOffset q = pStdOffset v.bytes)) then acc
    else acc ++ [v.bytes]) []

/-- The record's meter uses the grid of a program content at a ledger second. -/
def State.onGrid (s : State) (d : Nat) (m : MRec) (p : Bytes) (sec : Nat) : Bool :=
  match s.content d (m.programAt sec) sec with
  | none => false
  | some q => pIntLen q == pIntLen p && decide (pStdOffset q = pStdOffset p)

/-- Value of a column entry: units, saturating, and the clock-back flag (R235). -/
def colValue (l : List IVal) (n : Nat) : Nat :=
  let k := l.filter (fun x => x.n == n)
  min (k.foldl (fun a x => a + x.units) 0) 0x7FFFFFFF + (if k.any (fun x => x.clockBack) then 2 ^ 31 else 0)

/-- Write the column of interval `n` of a grid (R235); `rebuilt`: after an unclean shutdown (R350). -/
def State.writeColumn (s : State) (d : Nat) (p : Bytes) (n : Int) (rebuilt : Bool := false) : State :=
  let tai := s.tai d
  let start := (intStart p tai n).toNat
  let mine := (s.l d).recs.filter (fun e => s.onGrid d e.2 p start)
  let vals := mine.filterMap (fun e =>
    let v := colValue e.2.ivals (n32 n)
    if v = 0 then none else some (e.1, v))
  let no := (s.arc d).columnNo
  let c : Column :=
    { no := no, intLen := pIntLen p, stdOff := pStdOffset p, n := n, ltEnd := (intStart p tai (n + 1)).toNat,
      flags := b2n (s.defaultAt d (start * 10 ^ 8)) + 2 * b2n rebuilt, values := vals }
  let s := s.setArc d { s.arc d with columns := (s.arc d).columns ++ [c], columnNo := no + 1 }
  let s := s.writeColumnUnit d no
  s.setRecs d ((s.l d).recs.map (fun e =>
    if s.onGrid d e.2 p start then (e.1, { e.2 with ivals := e.2.ivals.filter (fun x => x.n != n32 n) }) else e))

/-- The intervals of a grid whose columns are due between two sweeps. -/
def dueColumns (p : Bytes) (tai delay from_ upTo : Nat) : List Int :=
  let lo := intOf p tai (from_ * 10 ^ 8) - Int.ofNat delay
  let hi := intOf p tai (upTo * 10 ^ 8) - Int.ofNat delay
  (List.range ((hi - lo).toNat + 1)).filterMap fun k =>
    let n := lo + Int.ofNat k
    let e := intStart p tai (n + 1 + Int.ofNat delay)
    if Int.ofNat from_ < e ∧ e ≤ Int.ofNat upTo then some n else none

/-- SWEEP_COMPLETE (R157, R235): LEDG_SWEEP advances, the billing boundaries swept are counted and announced, and the
columns due are written. -/
def execSweepComplete (d : Nat) (s : State) : Res :=
  onL s d <|
    if s.flag d LEDG_STAT_sweep_busy = false then s
    else
      let upTo := (s.led d).sweepTo
      let prev := if s.get d LEDG_SWEEP_boundary ≠ 0 then s.get d LEDG_SWEEP_boundary
        else if (s.arc d).colDue ≠ 0 then (s.arc d).colDue else upTo - 1
      let s := (s.put d LEDG_SWEEP_boundary upTo).putB d LEDG_STAT_sweep_busy false
      let s := (s.led d).billed.foldl (fun s b => (s.inc d LEDG_PERIOD_CNT).raise d 76 (arg 0 b)) s
      let s := s.setLed d { s.led d with billed := [] }
      let delay := s.get d ARC_CFG_col_delay
      let s := (s.grids d).foldl (fun s p =>
        (dueColumns p (s.tai d) delay prev upTo).foldl (fun s n => s.writeColumn d p n) s) s
      (s.mirLed d).mirSend d

/-! ### Records -/

/-- READ_RECORD, opcode 0x01: 512 bytes to host memory, with all boundaries processed. -/
def execReadRecord (d : Nat) (s : State) : Res :=
  onL s d <| s.withCmd d 0x01 fun s c =>
    let r := s.fetch d c.slot
    match r.1 with
    | none => r.2.complete c.id 0x030E
    | some m =>
      let u := r.2.current d c.slot m
      (u.1.toHost c.port (c.op 16 8) u.2.bytes).complete c.id 0 (leBytes 4 (u.2.g rSeq))

/-- Another record of the die is live under an identity: Provisioned, Active or Suspended. -/
def State.liveElsewhere (s : State) (d slot : Nat) (identity : Bytes) (kind : Nat) : Bool :=
  (s.l d).recs.any (fun e => e.1 != slot && e.2.gb rIdentity == identity && e.2.g rIdKind == kind
    && decide (1 ≤ e.2.g rState ∧ e.2.g rState ≤ 3))

/-- The record that provision-record makes of an image (R212). -/
def provisioned (h : Nat) (img : Bytes) : Bytes :=
  let b := leBytes 4 h ++ slice img 4 9 ++ leBytes 1 1 ++ slice img 14 6 ++ leBytes 4 0 ++ slice img 24 2
    ++ fillBytes 6 0xFF ++ fillBytes 1 0xFF ++ fillBytes 39 0 ++ slice img 72 1 ++ fillBytes 1 0 ++ slice img 74 1
    ++ fillBytes 77 0 ++ slice img 152 356 ++ leBytes 4 0
  sealRec b

/-- PROVISION_RECORD, opcode 0x02: `image` is the image read from host memory. -/
def execProvisionRecord (d : Nat) (image : Bytes) (s : State) : Res :=
  onL s d <| s.withCmd d 0x02 fun s c =>
    if s.recWaits d c || s.arcFull d then s else
    let r := s.fetch d c.slot
    match r.1 with
    | none => r.2.complete c.id 0x030E
    | some m =>
      let s := r.2
      let img := slice image 0 512
      if m.g rState ≠ 0 ∨ s.liveElsewhere d c.slot (slice img 4 8) (leField img 12 1) then s.complete c.id 0x0103
      else
        let m : MRec := { bytes := provisioned (s.slotHandle d c.slot) img, done := s.ltSec d }
        let s := s.setRecs d (smPut (s.l d).recs c.slot m)
        let s := s.setSec d { s.sec d with wrapped := smDel (s.sec d).wrapped c.slot }
        let s := (s.mirAdd d (.record c.slot m)).mirAdd d (.keys c.slot none)
        s.doneRec d c (leBytes 4 0) img

/-- SET_RECORD_STATE, opcode 0x03. -/
def execSetRecordState (d : Nat) (s : State) : Res :=
  onL s d <| s.withRec d 0x03 fun s c slot m =>
    let n := c.op 16 1
    if n = 0 ∨ 4 < n ∨ (m.g rState = 4 ∧ n ≠ 4 ∧ s.liveElsewhere d slot (m.gb rIdentity) (m.g rIdKind)) then
      s.complete c.id 0x0103
    else
      let s := s.update d slot (m.p rState n)
      s.doneRec d c (leBytes 4 ((s.rawRec d slot).g rSeq))

/-! ### Programs -/

/-- An activation LT (ticks) is a whole ledger second on a boundary of the program, 60 s or more after LT (R150). -/
def State.actOk (s : State) (d : Nat) (p : Bytes) (t : Nat) : Bool :=
  t % 10 ^ 8 == 0 && isBoundary p (s.tai d) (t / 10 ^ 8) && decide (s.lt d + 60 * 10 ^ 8 ≤ t)

/-- LOAD_PROGRAM, opcode 0x04 (R150): `src` is the program read from host memory. -/
def execLoadProgram (d : Nat) (src : Bytes) (s : State) : Res :=
  onL s d <| s.withCmd d 0x04 fun s c =>
    if s.arcFull d then s else
    let p := slice src 0 2048
    let t := c.op 24 8
    if !progOk p then s.complete c.id 0x0308
    else if !s.actOk d p t then s.complete c.id 0x030A
    else
      let sec := t / 10 ^ 8
      let kept := (s.led d).progs.filter (fun v => !(v.num == pNumber p && decide (s.ltSec d < v.act)))
      let s := s.setLed d { s.led d with progs := kept ++ [⟨pNumber p, sec, p, false⟩] }
      let s := (s.arcAppend d 0x09 0 noHandle (s.lt d) (leBytes 8 t ++ p)).mirLed d
      (s.complete c.id 0).mirSend d

/-- SET_PROGRAM, opcode 0x05: moves a meter to another program under the rules of R150. -/
def execSetProgram (d : Nat) (s : State) : Res :=
  onL s d <| s.withRec d 0x05 fun s c slot m =>
    let n := c.op 16 2
    let t := c.op 24 8
    match s.content d n (t / 10 ^ 8) with
    | none => s.complete c.id 0x0309
    | some p =>
      if !s.actOk d p t then s.complete c.id 0x030A
      else (s.update d slot { m with move := some (t / 10 ^ 8, n) }).doneRec d c

/-- A program content closes periods on command at a ledger second: bill_day 0, with it among its boundaries. -/
def closesAt (p : Bytes) (tai b : Nat) : Bool := pBillDay p == 0 && isBoundary p tai b

/-- A program number whose content in force at a ledger second closes there on command. -/
def State.closable (s : State) (d b : Nat) : Bool :=
  (s.led d).progs.any (fun v => match verFrom (s.led d).progs v.num (b - 1) with
    | some p => closesAt p (s.tai d) b
    | none => false)

/-- CLOSE_PERIOD, opcode 0x06 (R157). The count is of the meters whose program closes at the boundary, by the
programs as known when the command runs. -/
def execClosePeriod (d : Nat) (s : State) : Res :=
  onL s d <| s.withCmd d 0x06 fun s c =>
    if s.arcFull d then s else
    let t := c.op 16 8
    let b := t / 10 ^ 8
    let tai := s.tai d
    if t ≤ s.lt d ∨ t % 10 ^ 8 ≠ 0 ∨ s.closable d b = false then
      s.complete c.id 0x030A
    else
      let n := ((s.l d).recs.filter (fun e =>
        decide (1 ≤ e.2.g rState ∧ e.2.g rState ≤ 3) &&
          (match s.content d (e.2.programAt (b - 1)) (b - 1) with
           | some p => closesAt p tai b
           | none => false))).length
      let s := s.setLed d { s.led d with closes := if b ∈ (s.led d).closes then (s.led d).closes else (s.led d).closes ++ [b] }
      (s.mirLed d).doneRec d c (leBytes 4 n)

/-! ### Prepayment commands (R160 to R162) -/

/-- Queue a device relay downlink with L-071 for a reconnection; a wireless M-Bus meter takes none (R161). -/
def State.relayFor (s : State) (d slot : Nat) (m : MRec) (action reason : Nat) : Upd :=
  let s := if action = 0 then s else s.raiseM d slot 71 (arg 0 (m.g rBalance))
  if m.g rIdKind = 1 then (s, m) else (s, { m with relay := some (action, reason) })

/-- TOP_UP, opcode 0x07 (R162). -/
def execTopUp (d : Nat) (s : State) : Res :=
  onL s d <| s.withRec d 0x07 fun s c slot m =>
    let amount := toSigned 64 (c.op 16 8)
    let q := c.op 24 4
    if m.g rState = 4 ∨ !isPrepay m then s.complete c.id 0x0301
    else if q ≤ m.g rTopupSeq then s.complete c.id 0x030B
    else
      let m := ((ppCredit m amount).p rTopupSeq q).p rLastTopupS (s.ltSec d)
      let u := s.ppEval d slot m (s.ltSec d)
      let s := u.1
      let m := u.2
      let back := match s.content d (m.g rProgram) (s.ltSec d) with
        | some p => m.g rPpState == 7 && decide (Int.ofNat (pReconnectMin p) ≤ m.gz rBalance)
        | none => false
      let r := s.freeBelow 2
      let v := if back then r.2.relayFor d slot m (if m.bit rPpFlags 3 then 1 else 2) r.1 else (s, m)
      (v.1.update d slot v.2).doneRec d c (v.2.gb rBalance)

/-- ACCEPT_EMERGENCY_CREDIT, opcode 0x08 (R160). -/
def execAcceptEmergencyCredit (d : Nat) (s : State) : Res :=
  onL s d <| s.withRec d 0x08 fun s c slot m =>
    if m.g rState = 4 ∨ !isPrepay m then s.complete c.id 0x0301
    else if m.bit rPpFlags 1 then s.complete c.id 0 (m.gb rPpState)
    else if !ecAvailable m then s.complete c.id 0x030F
    else
      let u := s.ppEval d slot (m.pbit rPpFlags 1 true) (s.ltSec d)
      (u.1.update d slot u.2).doneRec d c (u.2.gb rPpState)

/-- DISCONNECT, opcode 0x09 (R162). -/
def execDisconnect (d : Nat) (s : State) : Res :=
  onL s d <| s.withRec d 0x09 fun s c slot m =>
    if m.g rState = 4 then s.complete c.id 0x0301
    else if !m.bit rFlags 2 ∨ s.defaultOn d then s.complete c.id 0x030F
    else
      let u := s.relayFor d slot m 0 1
      (u.1.update d slot u.2).doneRec d c

/-- RECONNECT, opcode 0x0A (R162). -/
def execReconnect (d : Nat) (s : State) : Res :=
  onL s d <| s.withRec d 0x0A fun s c slot m =>
    if m.g rState = 4 then s.complete c.id 0x0301
    else
      let u := s.relayFor d slot m 2 1
      (u.1.update d slot u.2).doneRec d c

/-! ### Re-rating (R164, R165) -/

def State.column (s : State) (d : Nat) (p : Bytes) (n : Int) : Option Column :=
  (s.arc d).columns.find? (fun c => c.n == n && c.intLen == pIntLen p && decide (c.stdOff = pStdOffset p))

/-- The units of a record slot in an interval: its column value with the amendments of the handle. -/
def State.unitsIn (s : State) (d slot : Nat) (p : Bytes) (n : Int) : Nat :=
  let h := s.slotHandle d slot
  let base := match s.column d p n with
    | some c => smGetD c.values 0 slot % 2 ^ 31
    | none => 0
  (s.arc d).amends.foldl (fun a x => if x.handle = h ∧ x.n = n32 n then a + x.share else a) base

/-- The sectors of a record slot's values in the columns of some intervals are read from NAND (R231). -/
def State.columnsRead (s : State) (d : Nat) (p : Bytes) (l : List Int) (slot : Nat) : State :=
  let cols := l.filterMap (fun n => (s.column d p n).map (·.no))
  let s := s.mapTouchAll d (cols.map (fun no => keyColumn no (slot / 1024)))
  s.setArc d { s.arc d with health := { (s.arc d).health with read := (s.arc d).health.read + 4096 * cols.length } }

/-- Time-of-use registers and maximum demands of a re-rating. -/
structure Rated where
  tou : List Nat := List.replicate 8 0
  md : List (Nat × Nat) := List.replicate 8 (0, 0)

/-- Book one interval once (R164). -/
def State.rateOne (s : State) (d slot : Nat) (num : Nat) (r : Rated) (p : Bytes) (n : Int) : Rated :=
  let tai := s.tai d
  let start := (intStart p tai n).toNat
  let fin := (intStart p tai (n + 1)).toNat
  let u := s.unitsIn d slot p n
  let pc := (s.content d num start).getD p
  let dflt := match s.column d p n with
    | some c => c.flags % 2 == 1
    | none => false
  let g := if dflt then pDefaultReg pc % 8 else regAt pc tai start
  { tou := r.tou.set g (r.tou.getD g 0 + u),
    md := if (r.md.getD g (0, 0)).1 < u then r.md.set g (min u 0xFFFFFFFF, fin) else r.md }

def Rated.bytes (r : Rated) : Bytes :=
  r.tou.flatMap (leBytes 8) ++ r.md.flatMap (fun x => leBytes 4 x.1 ++ leBytes 4 x.2)

def rrProgram (c : Cmd) : Nat := c.op 24 2
/-- The intervals a rerate names. -/
def rrIntervals (c : Cmd) : List Int :=
  (List.range (c.op 32 4)).map (fun k => toSigned 32 (c.op 28 4) + Int.ofNat k)

/-- The record of a handle that a rerate treats, with its boundaries processed; none where it is Free, Closed or fails the fetch
check. -/
def State.rrRec (s : State) (d h : Nat) : Option MRec × State :=
  let slot := h % 2 ^ 20
  let r := s.fetch d slot
  match r.1 with
  | some m => if m.g rState = 0 ∨ m.g rState = 4 then (none, r.2) else let u := r.2.current d slot m; (some u.2, u.1)
  | none => (none, r.2)

/-- The column of an interval has lost the sector of a record slot (R245). -/
def State.columnLost (s : State) (d : Nat) (p : Bytes) (slot : Nat) (n : Int) : Bool :=
  match s.column d p n with
  | some c => c.lost.contains (slot / 1024)
  | none => false

/-- The first interval of a rerate lies in a closed period of a record (R164). -/
def State.rrClosed (s : State) (d : Nat) (c : Cmd) (p : Bytes) (m : MRec) : Bool :=
  decide (intStart p (s.tai d) (toSigned 32 (c.op 28 4)) * 100000000 < Int.ofNat (m.g rPeriodStartLt))

/-- An "apply" whose intervals do not all lie in each meter's open period, and the state after the records have been fetched. -/
def State.rrPeriods (s : State) (d : Nat) (c : Cmd) (p : Bytes) : Bool × State :=
  if c.op 26 1 = 0 then (false, s)
  else (List.range (c.op 20 4)).foldl (fun (r : Bool × State) i =>
    let x := r.2.rrRec d (c.op 16 4 + i)
    (r.1 || (match x.1 with
      | some m => r.2.rrClosed d c p m
      | none => false), x.2)) (false, s)

/-- The status with which a rerate is refused at its start, 0 for none; whether it applies in a closed period is asked last. -/
def State.rrCheck (s : State) (d : Nat) (c : Cmd) : Nat :=
  let h := c.op 16 4
  let k := c.op 20 4
  if (s.longOp d 0x0B).isSome then 0x030D
  else if s.handleOk h = false then 0x0102
  else if k = 0 ∨ 1048576 < k ∨ c.op 32 4 = 0 ∨ 8928 < c.op 32 4 ∨ 1 < c.op 26 1 ∨ c.op 40 8 % 64 ≠ 0
      ∨ s.handleDie h ≠ some d ∨ 2 ^ 20 < h % 2 ^ 20 + k then 0x0103
  else match s.content d (rrProgram c) (s.ltSec d) with
    | none => 0x0309
    | some p => if (rrIntervals c).any (fun n => (s.column d p n).isNone) then 0x0407 else 0

/-- The end of a rerate: L-077 and the registers. -/
def State.rrEnd (s : State) (d : Nat) (o : LongOp) (st : Nat) : State :=
  let s := (s.putB d LEDG_RR_PROG_running false).putB d LEDG_RR_PROG_done true
  let s := if st = 0 then s else s.put d LEDG_RR_PROG_error st
  (s.raise d 77 (arg 0 o.countA + arg 4 o.countB)).finishLong o st

/-- One handle's re-rating is final: its entry of the buffer, and in "apply" its record, with an archive entry from which a restart
repeats the change (R233). -/
def State.rrWrite (s : State) (d : Nat) (c : Cmd) (i h : Nat) (x : Option MRec) (r : Rated) : State :=
  let s := s.toHost c.port (c.op 40 8 + 128 * i) r.bytes
  match x with
  | none => s
  | some m =>
    if c.op 26 1 = 1 then
      let s := s.update d (h % 2 ^ 20) { m with bytes := putBytes m.bytes 192 r.bytes }
      (s.arcAppend d 0x03 0 h (s.lt d) (slice c.entry 0 64 ++ fillBytes 40 0) r.bytes).mirSend d
    else s

/-- The next handle of the rerate in progress. LEDG_RR_POS and LEDG_RR_INT then show the handle after it, at its first interval; after
the last handle they stay at its last interval (R165). -/
def State.rrStep (s : State) (d : Nat) (o : LongOp) (c : Cmd) : State :=
  let i := o.countA + o.countB
  let h := o.first + i
  let slot := h % 2 ^ 20
  match s.content d (rrProgram c) (s.ltSec d) with
  | none => s.rrEnd d o 0x0309
  | some p =>
    let x := s.rrRec d h
    let s := x.2
    let apply := decide (c.op 26 1 = 1)
    let shut := match x.1 with
      | some m => apply && s.rrClosed d c p m
      | none => false
    let l := rrIntervals c
    if shut then s.rrEnd d o 0x030C
    else if l.any (fun n => (s.column d p n).isNone) then s.rrEnd d o 0x0407
    else if x.1.isSome && l.any (fun n => s.columnLost d p slot n) then s.rrEnd d o 0x0403
    else
      let s := s.columnsRead d p l slot
      let r : Rated := match x.1 with
        | none => {}
        | some _ => l.foldl (fun r n => s.rateOne d slot (rrProgram c) r p n) {}
      let s := s.rrWrite d c i h x.1 r
      let last := decide (o.stop ≤ i + 1)
      let pos := if last then h else h + 1
      let int := if last then n32 (l.getLast?.getD 0) else c.op 28 4
      let o := { o with
        pos := pos, pos2 := int, countA := o.countA + b2n x.1.isSome, countB := o.countB + b2n x.1.isNone,
        percent := 100 * (i + 1) / max 1 o.stop }
      let s := ((s.put d LEDG_RR_PROG_percent o.percent).put d LEDG_RR_POS_handle pos).put d LEDG_RR_INT_interval int
      let s := s.setLong o
      if last then s.rrEnd d o 0 else s

/-- A rerate that passes its checks starts. -/
def State.rrStart (s : State) (d : Nat) (c : Cmd) : State :=
  let s := ((s.put d LEDG_RR_PROG_percent 0).putB d LEDG_RR_PROG_running true).putB d LEDG_RR_PROG_done false
  let s := ((s.put d LEDG_RR_PROG_error 0).put d LEDG_RR_POS_handle (c.op 16 4)).put d LEDG_RR_INT_interval (c.op 28 4)
  s.startLong { cmd := c.id, die := d, opcode := 0x0B, first := c.op 16 4, stop := c.op 20 4, pos := c.op 16 4, pos2 := c.op 28 4 }

/-- A rerate command is refused with a status. -/
def State.rrRefuse (s : State) (d : Nat) (c : Cmd) (st : Nat) : State := (s.put d LEDG_RR_PROG_error st).complete c.id st

/-- RERATE, opcode 0x0B (R164, R165): a command starts the operation or is refused; otherwise the operation in
progress treats its next handle. -/
def execRerate (d : Nat) (s : State) : Res :=
  onL s d <|
    match s.nextCmd d 0x0B with
    | some c =>
      let st := s.rrCheck d c
      if st ≠ 0 then s.rrRefuse d c st
      else match s.content d (rrProgram c) (s.ltSec d) with
        | none => s.rrRefuse d c 0x0309
        | some p =>
          let r := s.rrPeriods d c p
          if r.1 then r.2.rrRefuse d c 0x030C else r.2.rrStart d c
    | none =>
      match s.longOp d 0x0B with
      | none => s
      | some o =>
        if o.done.isSome || s.arcFull d then s
        else if o.aborted then s.rrEnd d o o.abortStatus
        else match s.cmd o.cmd with
          | none => s
          | some c => s.rrStep d o c

/-- A long operation is told to stop. -/
def State.abortLong (s : State) (d opcode : Nat) : State :=
  match s.longOp d opcode with
  | none => s
  | some o => if o.done.isSome then s else s.setLong { o with aborted := true }

/-- RR_ABORT (R165): LEDG_CTRL.rr_abort written 1; the operation stops after the handle in progress. -/
def execRrAbort (d : Nat) (s : State) : Res := onL s d (s.abortLong d 0x0B)

/-! ### Reading tables -/

/-- READ_DISCONTINUITY_LOG, opcode 0x0C. -/
def execReadDiscontinuityLog (d : Nat) (s : State) : Res :=
  onL s d <| s.withCmd d 0x0C fun s c =>
    let n := c.op 28 2
    if n = 0 ∨ 256 < n then s.complete c.id 0x0103
    else
      let l := ((s.led d).disc.filter (fun e => decide (c.op 24 4 ≤ leField e 0 4))).take n
      (s.toHost c.port (c.op 16 8) l.flatten).complete c.id 0 (leBytes 2 l.length)

/-- READ_DEFERRAL_STATISTICS, opcode 0x0D: twenty counts. -/
def execReadDeferralStatistics (d : Nat) (s : State) : Res :=
  onL s d <| s.withCmd d 0x0D fun s c =>
    let l := [0, 1, 2, 3].flatMap (fun k => (s.que d k).deferred)
    let s := s.toHost c.port (c.op 16 8) (l.flatMap (leBytes 4))
    let s := if bit (c.op 24 1) 0 then
        [0, 1, 2, 3].foldl (fun s k => s.setQue d k { s.que d k with deferred := [0, 0, 0, 0, 0] }) s else s
    s.complete c.id 0

/-- ABORT_OPERATION, opcode 0x0F (R220). -/
def execAbortOperation (d : Nat) (s : State) : Res :=
  onDie s d <| s.withCmd d 0x0F fun s c =>
    match s.longOp d (c.op 16 1) with
    | none => s.complete c.id 0x0103
    | some o => if o.done.isSome then s.complete c.id 0x0103 else (s.abortLong d (c.op 16 1)).complete c.id 0

/-! ### Enable (R252) -/

/-- LEDGER_ENABLE (R252): LEDG_CTRL.enable written 1. The first enable fixes the pairing mode and the identity of the
package, which stand in the layout record of the archive. -/
def execLedgerEnable (d : Nat) (s : State) : Res :=
  onL s d <| if !s.domOn d 4 then s else
    let s := (s.putB d LEDG_CTRL_enable true).putB d LEDG_STAT_running true
    match (s.arc d).layout with
    | some l =>
      if l.paired.isSome then s
      else s.setLayout d { l with paired := some s.paired, package := some (leNat (s.lock 0).fuses.dieId) }
    | none => s

end Sys2Proof.Machine
end

