-- ==== Sys2Proof/Machine/Archive.lean ====
section
/-! DEFINITION. The archive controller (10_archive_storage): enable and disable, log pages, program and erase results,
collection, patrol, the governor, checkpoints, journal blocks, trimming, and the commands 0x40 to 0x46. -/

namespace Sys2Proof.Machine

/-- Checkpoint pages of a pass over all record slots (R236). -/
def ckptPages : Nat := 32768

/-- ARC_STAT.state is Running. -/
def State.arcRunning (s : State) (d : Nat) : Bool := s.get d ARC_STAT_state == 1

/-- A refused write or disable (R250). -/
def State.arcRefuse (s : State) (d status : Nat) : State :=
  ((s.putB d ARC_STAT_cfg_error true).put d ARC_STAT_error status).raise d 120 (arg 0 status)

/-! ### Enable and disable (R228, R230, R250) -/

/-- A layout from the parameter pages and the registers. -/
def State.newLayout (s : State) (d : Nat) (n : Nand) : Layout :=
  { luns := n.luns, blocksPerLun := n.blocksPerLun, blockSectors := n.blockSectors, planes := n.planes, slc := n.slc, rawGib := n.rawGib,
    pe := n.pe, hostGib := min 256 (s.get d ARC_NS_HOST_gib), made := s.devTime d }

/-- Parameter pages that meet R228. -/
def Nand.good (n : Nand) : Bool :=
  n.ok && decide (4 ≤ n.luns ∧ n.luns ≤ 32 ∧ n.blocksPerLun ≠ 0 ∧ n.blockSectors ≠ 0 ∧ 64 ≤ n.rawGib ∧ n.rawGib ≤ 2048)

/-- The controller runs with NAND whose parameter pages say `n` (R228, R230). -/
def State.arcStartUp (s : State) (d : Nat) (n : Nand) : State :=
  if !n.good then (s.put d ARC_STAT_error 0x08).raise d 120 (arg 0 0x0408)
  else
    let s := (s.putB d ARC_CTRL_enable true).put d ARC_STAT_state 1
    let s := ((s.put d ARC_GEOM_luns n.luns).put d ARC_GEOM_planes (if n.planes = 4 then 1 else 0)).putB d ARC_GEOM_slc n.slc
    let s := s.put d ARC_GEOM_raw_gib n.rawGib
    let s := match (s.arc d).layout with
      | none => s.setLayout d (s.newLayout d n)
      | some l => s.putB d ARC_STAT_layout_mismatch (l.hostGib != min 256 (s.get d ARC_NS_HOST_gib))
    (((s.putJrn d (s.arc d).jrn).putEc d).jrnCheck d).spareCheck d

/-- ARC_ENABLE (R228, R230): ARC_CTRL.enable written 1, with what the parameter pages of every target say. -/
def execArcEnable (d luns bpl sectors planes : Nat) (slc : Bool) (gib pe : Nat) (ok : Bool) (s : State) : Res :=
  onL s d <| if !s.domOn d 7 then s else
    if s.get d ARC_STAT_state ≠ 0 then s
    else
      let n : Nand := { ok := ok, luns := luns, blocksPerLun := bpl, blockSectors := sectors, planes := planes, slc := slc, rawGib := gib,
                        pe := pe }
      (s.setArc d { s.arc d with nand := some n }).arcStartUp d n

/-- The controller has nothing left to do before Idle (R250). -/
def State.arcDrain (s : State) (d : Nat) : State :=
  let a := s.arc d
  if s.get d ARC_STAT_state = 2 ∧ a.progs.isEmpty ∧ a.blocked.isEmpty ∧ a.opened.isEmpty ∧ a.amends.length ≤ a.amendFrom
      ∧ a.colQueue.isEmpty ∧ a.dirty.isEmpty then
    (s.put d ARC_STAT_state 0).raise d 120 (arg 0 0)
  else s

/-- Mapping pages changed are written back (R231). -/
def State.mapBack (s : State) (d : Nat) : State := (s.arc d).dirty.foldl (fun s p => s.mapWrite d p) s

/-- The end of the patrol pass that a command started. -/
def State.patrolStop (s : State) (d status : Nat) : State :=
  let a := s.arc d
  if !a.patrolCmd then s
  else
    let s := s.setArc d { a with patrolCmd := false }
    match s.longOp d 0x45 with
    | none => s
    | some o => s.finishLong { o with countA := a.patrolPages, countB := a.patrolRefreshed } status

/-- ARC_DISABLE (R250): ARC_CTRL.enable written 0. -/
def execArcDisable (d : Nat) (s : State) : Res :=
  onL s d <|
    if s.get d ARC_STAT_state ≠ 1 then s
    else if s.flag d LEDG_CTRL_enable then s.arcRefuse d 0x0409
    else
      let s := (s.putB d ARC_CTRL_enable false).put d ARC_STAT_state 2
      let s := (s.patrolStop d (((s.longOp d 0x45).map (·.abortStatus)).getD 0x010B)).programAll d ((s.arc d).entries.length + 1)
      ((s.amendAll d ((s.arc d).amends.length + 1)).mapBack d).arcDrain d

/-- flush_ms in ticks; values outside 50 to 4,000 act as the nearer bound. -/
def State.flushTicks (s : State) (d : Nat) : Nat := max 50 (min 4000 (s.get d ARC_CFG_flush_ms)) * Config.tMs

/-- The open page of the log is to be programmed: full, or flush_ms after its first entry. -/
def State.pageDue (s : State) (d : Nat) : Bool :=
  (s.arc d).pageFull || (match (s.arc d).opened.head? with
    | some e => s.due (e.arrived + s.flushTicks d)
    | none => false)

/-- The open page of the amendment stream is. -/
def State.amendDue (s : State) (d : Nat) : Bool :=
  let l := (s.arc d).amends.drop (s.arc d).amendFrom
  decide (amendsPerPage ≤ l.length) || (match l.head? with
    | some e => s.due (e.arrived + s.flushTicks d)
    | none => false)

/-- OPEN_PAGE_PROGRAM (R232): a full open page is programmed, or one whose first entry is flush_ms old; the column pages that wait
follow. -/
def execOpenPageProgram (d : Nat) (s : State) : Res :=
  onL s d <| if s.stopped d || s.get d ARC_STAT_state == 0 then s else
    let s := if s.pageDue d then s.programPage d else s
    let s := if s.amendDue d then s.amendPage d else s
    s.columnPump d 128

/-- MAP_WRITE_BACK (R231). -/
def execMapWriteBack (d : Nat) (s : State) : Res :=
  onL s d <| if s.stopped d || s.get d ARC_STAT_state == 0 then s else ((s.mapBack d).arcDrain d)

/-! ### Program and erase results (R240, R241, R244) -/

/-- The page is on NAND and verified: the map names its sectors, and what waited for it happens. -/
def State.verified (s : State) (d : Nat) (p : Prog) : State :=
  let s := s.remap d p
  let a := s.arc d
  let fresh := p.src.isNone
  let kind := (p.keys.head?.map keyKind).getD 9
  let a := if fresh ∧ kind = 0 then { a with onNand := max a.onNand p.seqEnd } else a
  let a := if fresh ∧ kind = 5 then { a with amendNand := max a.amendNand p.seqEnd } else a
  let a := if fresh ∧ kind = 2 then
      (List.range p.keys.length).foldl (fun (a : Arc) i =>
        let n := keyNo (p.keys.getD i 0)
        { a with host := smPut a.host n (slice p.data (4096 * i) 4096), hostLost := a.hostLost.filter (· != n) }) a else a
  let a := match p.ckpt, p.keys.head? with
    | some c, some k => { a with ckpts := smPut a.ckpts (keyPageNo k) c }
    | _, _ => a
  let a := match p.tables with
    | some t => { a with ckptTables := some t }
    | none => a
  let s := s.setArc d a
  let s := match p.cmd with
    | some id => if (a.progs ++ a.blocked).any (fun q => q.cmd == some id) then s else s.complete id 0
    | none => s
  (s.retireDone d).columnPump d 128

/-- The other die of the pair holds the entries or records of a sector (R245 step 3). -/
def State.pairHolds (s : State) (d key : Nat) : Bool :=
  let p := partnerOf d
  s.paired && s.isL p && (s.role p == 1 || s.role p == 2) &&
    (match keyKind key with
     | 0 => (match smGet (s.arc d).pageSeqs (keyPageNo key) with
        | some (f, e) => (List.range (e - f)).all (fun i => (s.arc p).entries.any (fun x => x.seq == f + i))
        | none => false)
     | 3 => true
     | _ => false)

/-- The entries of a log page that reach into sector `i` of it: `pos` is where the next entry begins. -/
def entriesIn (i : Nat) : List ArcEntry → Nat → List Nat
  | [], _ => []
  | e :: es, pos =>
    let fin := pos + arcLen e.body
    if pos < 4096 * (i + 1) ∧ 4096 * i < fin then e.seq :: entriesIn i es fin else entriesIn i es fin

/-- Amendments of page `n` of their stream are held no more: those at the byte offsets that `gone` names. -/
def Arc.dropAmends (a : Arc) (n : Nat) (gone : Nat → Bool) : Arc :=
  match smGet a.amendRanges n with
  | none => a
  | some (f, e) =>
    { a with amends := (List.range a.amends.length).map (fun j =>
        let m := a.amends.getD j ⟨0, 0, 0, 0, 0⟩
        if f ≤ j ∧ j < e ∧ gone (32 + 24 * (j - f)) = true then { m with share := 0 } else m) }

/-- Record a sector as lost (R245 step 4): what it held is held no more. A mapping page is written again from the map. A lost checkpoint
page starts a new pass at that page. -/
def State.lose (s : State) (d key : Nat) : State :=
  let a := (s.arc d).unplace key
  let n := keyPageNo key
  let i := keyNo key % 4
  let col := keyNo key / 1028
  let sec := keyNo key % 1028
  s.setArc d (match keyKind key with
    | 0 => (match smGet a.pageSeqs n with
        | some (f, e) => { a with
            lostSeqs := a.lostSeqs ++ entriesIn i (a.entries.filter (fun x => decide (f ≤ x.seq ∧ x.seq < e))) 32 }
        | none => a)
    | 1 =>
      if sec = 1024 then { a with columns := a.columns.filter (fun c => c.no != col) }
      else { a with columns := a.columns.map (fun c => if c.no = col then { c with lost := c.lost ++ [sec] } else c) }
    | 2 => { a with hostLost := if keyNo key ∈ a.hostLost then a.hostLost else a.hostLost ++ [keyNo key] }
    | 3 => { a with
        ckpts := smDel a.ckpts n, ckptNext := n, ckptLeft := ckptPages, ckptStart := s.now, ckptLog := 0 }
    | 5 => a.dropAmends n (fun o => decide (o < 4096 * (i + 1) ∧ 4096 * i < o + 24))
    | _ => { a with dirty := if a.dirty.contains n then a.dirty else a.dirty ++ [n] })

/-- A sector is lost: counted and reported. -/
def State.loseSector (s : State) (d b key : Nat) : State :=
  let s := s.inc d ARC_LOST_CNT
  let a := s.arc d
  let s := s.setArc d { a with health := { a.health with lost := a.health.lost + 1 } }
  (s.raise d 114 (arg 0 (a.lunOf b) + arg 4 (b % a.bpl))).lose d key

/-- The earlier pages of a failed page's word line (R244): their valid sectors are rebuilt from parity, or fetched from the pair, or
lost. -/
def State.lineFailed (s : State) (d b q : Nat) : State :=
  let line := (s.arc d).lineOf
  ((List.range line).map (fun i => q / line * line + i)).foldl (fun s r =>
    if q ≤ r then s
    else
      let a := s.arc d
      let keys := (a.map.filter (fun e => e.2.blk == b && e.2.pos / 4 == r)).map (·.1)
      let s := s.setArc d (a.addFailed b r)
      if a.canRebuild b r then s else keys.foldl (fun s k => if s.pairHolds d k then s else s.loseSector d b k) s) s

/-- A write starts again after a failure on its LUN: a copy from its source, another page from what parity or the pair rebuilds; its
sectors are lost if neither does. -/
def State.writeAgain (s : State) (d lun b : Nat) (rebuilt : Bool) (q : Prog) : State :=
  if q.src.isSome || rebuilt || q.keys.all (fun k => s.pairHolds d k) then s.arcStart d lun { q with programmed := false }
  else
    let s := q.keys.foldl (fun s k => s.loseSector d b k) s
    match q.cmd with
    | some id => s.complete id 0x0403
    | none => s

/-- A program failed (R244): the stream stops on that LUN; the failed page and the earlier pages of its word line are rebuilt, the other
writes into the block start again, its valid data is relocated, and it is retired. -/
def State.progFailed (s : State) (d : Nat) (p : Prog) : State :=
  let a := s.arc d
  let b := p.blk
  let others := a.progs.filter (fun q => q.blk == b && !q.keys.isEmpty)
  let s := s.inc d ARC_PROG_FAIL_CNT
  let s := s.setArc d { (a.addFailed b p.page).close b with
    progs := a.progs.filter (fun q => q.blk != b), health := { a.health with progFail := a.health.progFail + 1 } }
  let s := s.lineFailed d b p.page
  let s := if p.keys.isEmpty then s else s.writeAgain d (a.lunOf b) b (a.canRebuild b p.page) p
  let s := others.foldl (fun s q => s.writeAgain d (a.lunOf b) b true q) s
  (s.relocate d b 1).retireDone d

/-- The row of a parity page is complete: its other pages are programmed (R242). -/
def Arc.rowDone (a : Arc) (p : Prog) : Bool :=
  let peers := a.blocks.filter (fun e =>
    e.1 != p.blk && (e.2.st == .opened || e.2.st == .closed) && e.2.stream == p.stream && e.2.stripe == (a.blk p.blk).stripe)
  decide (a.luns ≤ peers.length + 1) && peers.all (fun e => e.2.st == .closed || decide (p.page < e.2.used))
    && !a.progs.any (fun q => !q.programmed && !q.keys.isEmpty && q.page == p.page && peers.any (fun e => e.1 == q.blk))

/-- The next program to end: the oldest; a parity page waits for its row, unless the controller is draining. -/
def State.nextProg (s : State) (d : Nat) : Option Prog :=
  let a := s.arc d
  a.progs.find? (fun p => !p.programmed && (!p.keys.isEmpty || s.get d ARC_STAT_state == 2 || a.rowDone p))

/-- NAND_PROGRAM_STATUS (R241, R244): the oldest program in progress ends. A copy then waits for its verification. -/
def execNandProgramStatus (d : Nat) (ok : Bool) (s : State) : Res :=
  onL s d <| if s.stopped d then s else
    match s.nextProg d with
    | none => s
    | some p =>
      let a := s.arc d
      let rest := a.progs.erase p
      if !ok then ((s.setArc d { a with progs := rest }).progFailed d p).arcDrain d
      else
        let s := s.countProg d 4
        let a := (s.arc d).setBlk p.blk { (s.arc d).blk p.blk with done := ((s.arc d).blk p.blk).done + 1 }
        if p.src.isSome then
          s.setArc d { a with progs := a.progs.map (fun q => if q = p then { p with programmed := true } else q) }
        else
          let s := (s.setArc d { a with progs := rest }).verified d p
          (s.setArc d (s.arc d).dropAccs).arcDrain d

/-- The word line after a page's has been programmed, or there is none: the block takes no more pages (R240). -/
def State.lineFollows (s : State) (d : Nat) (p : Prog) : Bool :=
  let a := s.arc d
  let k := a.blk p.blk
  k.st != .opened || s.get d ARC_STAT_state == 2 || decide ((p.page / a.lineOf + 2) * a.lineOf ≤ k.done)

/-- ARC_PATROL.refresh_bits. -/
def State.refreshBits (s : State) (d : Nat) : Nat := max 8 (min 110 (s.get d ARC_PATROL_refresh_bits))

/-- COPY_VERIFIED (R240): the oldest programmed copy whose following word line is programmed is read back; `bits` is the most corrected
bits in one of its sectors. With no more than refresh_bits its mappings move, those that still name the source; with more it is copied
again. -/
def execCopyVerified (d bits : Nat) (s : State) : Res :=
  onL s d <| if s.stopped d then s else
    match (s.arc d).progs.find? (fun p => p.programmed && s.lineFollows d p) with
    | none => s
    | some p =>
      let a := s.arc d
      let s := s.setArc d { a with progs := a.progs.erase p }
      if s.refreshBits d < bits then s.arcStart d (a.lunOf p.blk) { p with programmed := false }
      else
        let s := s.verified d p
        (s.setArc d (s.arc d).dropAccs).arcDrain d

/-- A block can be erased: closed, with nothing valid and nothing in progress. -/
def State.erasable (s : State) (d b : Nat) : Bool :=
  let a := s.arc d
  (a.blk b).st == .closed && a.valid b == 0 && !a.busy b && decide (b < a.luns * a.bpl)

/-- NAND_ERASE_STATUS (R240, R244): the erase of a block ends. -/
def execNandEraseStatus (d b : Nat) (ok : Bool) (s : State) : Res :=
  onL s d <| if s.stopped d then s else
    if !s.erasable d b then s
    else
      let a := s.arc d
      if !ok then
        let s := (s.inc d ARC_ERASE_FAIL_CNT).setArc d { a with health := { a.health with eraseFail := a.health.eraseFail + 1 } }
        s.retire d b 2
      else
        let gc := a.relocating.any (fun e => e.1 == b && e.2 == 0)
        let a := a.setBlk b { ec := (a.blk b).ec + 1, rebuilt := (a.blk b).rebuilt }
        let s := s.setArc d { a with
          relocating := a.relocating.filter (fun e => e.1 != b), failed := a.failed.filter (fun e => e.1 != b) }
        let s := if gc then s.inc d ARC_GC_CNT else s
        ((s.putEc d).arcUnblock d).spareCheck d

/-! ### Decoding failures (R245) -/

/-- SECTOR_DECODE_FAIL (R245): sector `key` fails LDPC decoding; `retryOk` says whether read retry succeeds, `rowOk` whether the other
pages of its row can be read. -/
def execSectorDecodeFail (d key : Nat) (retryOk rowOk : Bool) (s : State) : Res :=
  onL s d <|
    let a := s.arc d
    match smGet a.map key with
    | none => s
    | some x =>
      let b := x.blk
      let q := x.pos / 4
      let k := a.blk b
      let s := s.inc d ARC_RETRY_CNT
      let h := a.health
      let again := match k.rebuilt with
        | some t => decide (s.devTime d < t + 30 * 86400 * 10 ^ 8)
        | none => false
      if retryOk then s.setArc d { a with health := { h with retried := h.retried + 1 } }
      else
        let a1 := (a.setBlk b { k with rebuilt := some (s.devTime d) }).addFailed b q
        let ev (st : Nat) : Nat := arg 0 (a.lunOf b) + arg 1 st + arg 4 (b % a.bpl)
        let moved (s : State) (st : Nat) : State :=
          ((s.setArc d { a1 with health := { h with rebuilt := h.rebuilt + 1 } }).raise d 113 (ev st)).relocate d b (if again then 3 else 4)
        if (k.st = .opened ∨ k.full = true) ∧ a.canRebuild b q = true ∧ rowOk = true then moved (s.inc d ARC_REBUILD_CNT) 2
        else if s.pairHolds d key then moved s 3
        else
          let s := (s.setArc d a1).loseSector d b key
          if again then s.relocate d b 3 else s

/-! ### Collection, patrol, wear (R239, R240, R243) -/

/-- The victim of R240: the closed block with the fewest valid sectors, then the one that closed first. -/
def Arc.victim (a : Arc) : Option Nat :=
  let c := a.blocks.filter (fun e => e.2.st == .closed && !a.relocating.any (fun r => r.1 == e.1) && decide (0 < a.valid e.1))
  (c.foldl (fun (o : Option (Nat × Nat × Nat)) e =>
    let x := (e.1, a.valid e.1, e.2.closeNo)
    match o with
    | none => some x
    | some y => if x.2.1 < y.2.1 ∨ (x.2.1 = y.2.1 ∧ x.2.2 < y.2.2) then some x else some y) none).map (·.1)

/-- GARBAGE_COLLECTION (R240): the next victim's valid sectors are copied. -/
def execGarbageCollection (d : Nat) (s : State) : Res :=
  onL s d <| if s.stopped d then s else
    if !s.arcRunning d then s
    else match (s.arc d).victim with
      | none => s
      | some b => s.relocate d b 0

/-- The programmed blocks not yet read in the present pass, the oldest-programmed first. -/
def Arc.patrolNext (a : Arc) : Option (Nat × Blk) :=
  (a.blocks.filter (fun e => (e.2.st == .opened || e.2.st == .closed) && decide (0 < e.2.used) && !a.patrolled.contains e.1)).foldl
    (fun o e => match o with
      | none => some e
      | some y => if e.2.since < y.2.since then some e else some y) none

/-- PATROL_PASS_END (R243). -/
def State.patrolEnd (s : State) (d : Nat) : State :=
  let a := s.arc d
  let s := s.raise d 118 (arg 0 a.patrolBits)
  let s := s.setArc d { s.arc d with
    patrolled := [], eraseChecked := [], patrolBits := 0, patrolPages := 0, patrolRefreshed := 0,
    health := { a.health with passes := a.health.passes + 1, worstBits := a.patrolBits, passEnd := s.devTime d } }
  (s.putB d ARC_PATROL_PROG_running false).put d ARC_PATROL_PROG_percent 100

/-- The next free block of the pass to be erase-verified (R243). -/
def Arc.eraseCheck (a : Arc) : Arc :=
  match a.allBlocks.find? (fun b => (a.blk b).st == .free && !a.eraseChecked.contains b) with
  | some b => { a with eraseChecked := a.eraseChecked ++ [b] }
  | none => a

/-- ARC_PATROL.days in ticks; 0 acts as 30. -/
def State.patrolPeriod (s : State) (d : Nat) : Nat :=
  (if s.get d ARC_PATROL_days = 0 then 30 else s.get d ARC_PATROL_days) * 86400 * Config.tS

/-- The patrol reads block `b` (R243). -/
def State.patrolBlock (s : State) (d b bits : Nat) (k : Blk) : State :=
  let a := s.arc d
  let refresh := decide (s.refreshBits d < bits)
  let done := a.patrolled ++ [b]
  let total := (a.blocks.filter (fun e => (e.2.st == .opened || e.2.st == .closed) && decide (0 < e.2.used))).length
  let lun := a.lunOf b
  let s := s.setArc d { a.eraseCheck with
    patrolled := done, patrolBits := max a.patrolBits bits, patrolPages := a.patrolPages + k.used,
    patrolRefreshed := a.patrolRefreshed + b2n refresh, lunBits := smPut a.lunBits lun (bits :: (smGet a.lunBits lun).getD []),
    patrolFrom := if a.patrolled.isEmpty ∧ a.patrolCmd = false then s.now + s.patrolPeriod d else a.patrolFrom,
    health := { a.health with read := a.health.read + k.used * 16384, refreshed := a.health.refreshed + b2n refresh } }
  let s := if refresh then (s.inc d ARC_REFRESH_CNT).relocate d b 4 else s
  let pct := min 100 (100 * done.length / max 1 total)
  let s := (((s.putB d ARC_PATROL_PROG_running true).put d ARC_PATROL_PROG_percent pct).put d ARC_PATROL_POS_lun lun).put d
    ARC_PATROL_POS_block (b % a.bpl)
  let s := match s.longOp d 0x45 with
    | some o => if a.patrolCmd then s.setLong { o with
        pos := lun + 256 * (b % a.bpl), percent := pct, countA := (s.arc d).patrolPages, countB := (s.arc d).patrolRefreshed } else s
    | none => s
  if (s.arc d).patrolNext.isNone then (s.patrolStop d 0).patrolEnd d else s

/-- PATROL_READ (R243): the next block is read, and the next free block erase-verified; `bits` is the most corrected bits found in one of
its sectors. A pass that no command started begins once in each period. -/
def execPatrolRead (d bits : Nat) (s : State) : Res :=
  onL s d <| if s.stopped d then s else
    let a := s.arc d
    if !s.arcRunning d then s
    else if a.patrolCmd ∧ (s.longOp d 0x45).any (fun o => o.aborted) then
      s.patrolStop d (((s.longOp d 0x45).map (·.abortStatus)).getD 0x010B)
    else if a.patrolCmd = false ∧ a.patrolled.isEmpty ∧ s.due a.patrolFrom = false then s
    else match a.patrolNext with
      | none => if a.patrolCmd then (s.patrolStop d 0).patrolEnd d else s
      | some (b, k) => s.patrolBlock d b bits k

/-- The closed block with the lowest erase count. -/
def Arc.leastWorn (a : Arc) : Option Nat :=
  ((a.blocks.filter (fun e => e.2.st == .closed)).foldl (fun (o : Option (Nat × Nat)) e => match o with
    | none => some (e.1, e.2.ec)
    | some y => if e.2.ec < y.2 then some (e.1, e.2.ec) else some y) none).map (·.1)

/-- WEAR_LEVEL_CHECK (R239): once a day. -/
def execWearLevelCheck (d : Nat) (s : State) : Res :=
  onL s d <| if s.stopped d then s else
    let a := s.arc d
    if !s.arcRunning d ∨ !s.due a.wearNext then s
    else
      let s := s.setArc d { a with wearNext := s.now + 86400 * 10 ^ 8 }
      if a.ecMax ≤ a.ecMin + s.get d ARC_WEAR_spread then s
      else
        match a.leastWorn with
        | none => s
        | some b => s.relocate d b 4

/-! ### The governor (R247) -/

/-- Rated cycles in use: ARC_PE.pe, or the parameter page's. -/
def State.ratedPe (s : State) (d : Nat) : Nat :=
  if s.get d ARC_PE_pe ≠ 0 then s.get d ARC_PE_pe
  else match (s.arc d).layout with
    | some l => l.pe
    | none => 0

/-- Bytes of endurance left. -/
def State.arcBudget (s : State) (d : Nat) : Nat :=
  let a := s.arc d
  let pe := s.ratedPe d
  match a.layout with
  | none => 0
  | some l => (a.goodBlocks.foldl (fun n b => n + (pe - (a.blk b).ec)) 0) * blockBytes l

/-- The sums of the last hours of the window: hours, full-form bytes, appended bytes, programmed bytes (at least the
appended, since wa is at least 1). -/
def State.govSums (s : State) (d : Nat) : Nat × Nat × Nat × Nat :=
  let l := (s.arc d).hours.take (max 1 (s.get d ARC_GOV_window_h))
  let f := l.foldl (fun n e => n + e.1) 0
  let a := l.foldl (fun n e => n + e.2.1) 0
  let p := l.foldl (fun n e => n + e.2.2) 0
  (l.length, f, a, max a p)

/-- Seconds of a year as the worked example of R247 counts them. -/
def yearS : Nat := 31557600

/-- The life left at a rate of bytes, in seconds: budget / (rate × wa), with rate = bytes / (hours × 3600) and wa = programmed /
appended over the hours kept (R247); none while nothing was written. -/
def govLife (budget : Nat) (g : Nat × Nat × Nat × Nat) (bytes : Nat) : Option Nat :=
  if bytes = 0 ∨ g.2.2.2 = 0 then none else some (budget * (g.1 * 3600) * g.2.2.1 / (bytes * g.2.2.2))

/-- ARC_LIFE.days of a life in seconds: 0xFFFF where it has more, or nothing was written. -/
def lifeDays : Option Nat → Nat
  | none => 0xFFFF
  | some t => min 0xFFFF (t / 86400)

/-- The band of R248 in which an hour at a junction temperature counts. -/
def tempBand (tj : Int) : Nat :=
  if tj < 0 then 0 else if tj < 25 then 1 else if tj < 40 then 2 else if tj < 55 then 3 else if tj < 70 then 4 else if tj < 85 then 5
  else if tj ≤ 100 then 6 else 7

/-- An hour more in the band of a temperature. -/
def hourCount (l : List Nat) (tj : Int) : List Nat := l.set (tempBand tj) (l.getD (tempBand tj) 0 + 1)

/-- GOVERNOR_RUN (R247): once an hour. -/
def execGovernorRun (d : Nat) (s : State) : Res :=
  onL s d <|
    let a := s.arc d
    if !s.arcRunning d ∨ !s.due a.govNext then s
    else
      let summary := a.govSummary
      let s := s.setArc d { a with
        govNext := s.now + 3600 * 10 ^ 8, hours := ((a.hourFull, a.hourApp, a.hourProg) :: a.hours).take 256,
        hourFull := 0, hourApp := 0, hourProg := 0,
        health := { a.health with
          summaryHours := a.health.summaryHours + b2n (s.flag d ARC_STAT_summary),
          tempHours := hourCount a.health.tempHours (s.getZ d PWR_TEMP_tj) } }
      let g := s.govSums d
      let budget := s.arcBudget d
      let life := govLife budget g
      let days := lifeDays (life g.2.2.1)
      let wa := if g.2.2.1 = 0 then 100 else min 0xFFFF (100 * g.2.2.2 / g.2.2.1)
      let s := (s.put d ARC_LIFE_days days).put d ARC_LIFE_wa wa
      if !s.flag d ARC_CTRL_gov_en then s
      else
        let now := s.devTime d / 10 ^ 8
        let made := match a.layout with
          | some l => l.made / 10 ^ 8
          | none => 0
        let till := if s.get d ARC_GOV_END_end_day = 0 then made + 20 * yearS else s.get d ARC_GOV_END_end_day * 86400
        let need := Int.ofNat till - Int.ofNat now
        let enter : Bool := match life g.2.1 with
          | some t => !summary && decide (Int.ofNat t < need)
          | none => false
        let leave : Bool := summary && (match life g.2.1 with
          | some t => decide (need + Int.ofNat yearS < Int.ofNat t)
          | none => true)
        if enter ∨ leave then
          let s := s.setArc d { s.arc d with
            govSummary := enter, health := { (s.arc d).health with govChanges := (s.arc d).health.govChanges + 1 } }
          (s.summaryCheck d).raise d 116 (arg 0 (b2n enter))
        else s

/-! ### Checkpoints, journal blocks, trimming (R234, R236, R237) -/

/-- The record as a checkpoint holds it: with its values in columns that are not on NAND yet, which a start without a journal rebuilds
(R350). -/
def MRec.withColumns (m : MRec) (l : List Column) (slot : Nat) : MRec :=
  { m with ivals := l.filterMap (fun c => (smGet c.values slot).map (fun v =>
      { n := n32 c.n, units := v % 2 ^ 31, clockBack := decide (2 ^ 31 ≤ v) })) ++ m.ivals }

/-- Write the next page of the checkpoint pass, the other tables with the first one. -/
def State.ckptPage (s : State) (d : Nat) : State :=
  let late := (s.arc d).columns.filter (fun c => !(s.arc d).columnStands c.no [])
  let a := s.arc d
  let n := a.ckptNext % ckptPages
  let seq := s.arcNext d
  let mine (k : Nat) : Bool := decide (32 * n ≤ k ∧ k < 32 * n + 32)
  let records := ((s.l d).recs.filter (fun e => mine e.1)).map (fun e => (e.1, e.2.withColumns late e.1))
  let c : Ckpt := { seq := seq, records := records, keys := (s.sec d).wrapped.filter (fun e => mine e.1) }
  let tabs : CkptTab := { seq := seq, led := s.led d, ltState := s.ltState d, hold := s.holdLt d, bal := (s.l d).bal,
                          tt := s.ttTab d, active := s.role d = 1 }
  (s.setArc d { a with ckptNext := (n + 1) % ckptPages, ckptLeft := a.ckptLeft - 1 }).arcWrite d
    { keys := pageKeys (keyCkpt n), stream := 2, ckpt := some c, tables := if a.ckptLeft = ckptPages then some tabs else none }

/-- The end of the present pass has come (R236): ckpt_min minutes after its start, or ckpt_log_mib MiB of log since. -/
def State.ckptBound (s : State) (d : Nat) : Bool :=
  let a := s.arc d
  let m := if s.get d ARC_JRN_ckpt_min = 0 then 15 else min 240 (s.get d ARC_JRN_ckpt_min)
  s.due (a.ckptStart + m * 60 * Config.tS) || decide (max 256 (s.get d ARC_JRN_ckpt_log_mib) * 2 ^ 20 ≤ a.ckptLog)

/-- The pages left of a pass, at once. -/
def State.ckptRest (s : State) (d : Nat) : Nat → State
  | 0 => s
  | f + 1 => if (s.arc d).ckptLeft = 0 then s else (s.ckptPage d).ckptRest d f

/-- CHECKPOINT_PASS (R236): the next page of the pass. At the end of a pass what is left of it is written, and the next begins. -/
def execCheckpointPass (d : Nat) (s : State) : Res :=
  onL s d <| if s.stopped d then s else
    if !s.arcRunning d then s
    else if (s.arc d).ckptTables.isNone && (s.arc d).ckptLeft == 0 && (s.arc d).ckptStart == 0 || s.ckptBound d then
      let s := s.ckptRest d (s.arc d).ckptLeft
      (s.setArc d { s.arc d with ckptLeft := ckptPages, ckptStart := s.now, ckptLog := 0 }).ckptPage d
    else if (s.arc d).ckptLeft = 0 then s
    else s.ckptPage d

/-- JOURNAL_BLOCK_ERASE (R237): one pSLC block on each LUN is erased and verified; `bad` names a LUN whose erase fails, if
it names one. -/
def execJournalBlockErase (d bad : Nat) (s : State) : Res :=
  onL s d <| if s.stopped d then s else
    let a := s.arc d
    let target := max 4 (min 32 (s.get d ARC_CFG_jrn_target))
    if !s.arcRunning d ∨ target ≤ a.jrn.length then s
    else
      let l := (List.range a.luns).filterMap a.freeBlock
      if l.length < a.luns then s
      else if bad < a.luns then
        let s := (s.inc d ARC_ERASE_FAIL_CNT).setArc d { a with health := { a.health with eraseFail := a.health.eraseFail + 1 } }
        s.retire d (l.getD bad 0) 2
      else
        let a := l.foldl (fun a b => a.setBlk b { a.blk b with ec := (a.blk b).ec + 1, st := .journal }) a
        (((s.setArc d a).putJrn d (a.jrn ++ [l])).jrnCheck d).putEc d

/-- The oldest sequence number that trimming may not pass: that of the oldest checkpoint page. -/
def Arc.ckptOldest (a : Arc) : Nat :=
  match a.ckpts.map (fun e => e.2.seq) with
  | [] => 0
  | x :: xs => xs.foldl min x

/-- The oldest closed log block: the one a trim takes (R234). -/
def Arc.trimBlock (a : Arc) : Option (Nat × Blk) :=
  (a.blocks.filter (fun e => e.2.st == .closed && (a.validKeys e.1).any isLogKey)).foldl
    (fun (o : Option (Nat × Blk)) e => match o with
      | none => some e
      | some y => if e.2.closeNo < y.2.closeNo then some e else some y) none

/-- The sectors of the archive namespace in a block. -/
def Arc.logUnits (a : Arc) (b : Nat) : List Nat := (a.validKeys b).filter isLogKey

/-- The log pages among these sectors, with their sequence numbers, and the columns. -/
def Arc.unitPages (a : Arc) (units : List Nat) : List (Nat × Nat × Nat) :=
  a.pageSeqs.filter (fun e => units.any (fun k => keyKind k == 0 && keyPageNo k == e.1))
def unitColumns (units : List Nat) : List Nat := (units.filter (fun k => keyKind k == 1)).map (fun k => keyNo k / 1028)

/-- The sequence number after the last entry of these sectors' pages. -/
def Arc.seqAfter (a : Arc) (units : List Nat) : Nat := (a.unitPages units).foldl (fun n e => max n e.2.2) 0

/-- These sectors hold part of a column of a billing period that is still open (R234). -/
def State.holdsOpenColumn (s : State) (d : Nat) (units : List Nat) : Bool :=
  (s.arc d).columns.any (fun c => (unitColumns units).contains c.no &&
    (s.l d).recs.any (fun e => decide (1 ≤ e.2.g rState ∧ e.2.g rState ≤ 3 ∧ e.2.g rPeriodStartLt < c.ltEnd * 10 ^ 8)))

/-- The archive without the sectors of a trimmed block: their entries and columns are held no more. -/
def Arc.trimmed (a : Arc) (units : List Nat) : Arc :=
  let a := (units.filter (fun k => keyKind k == 5)).foldl (fun a k => a.dropAmends (keyPageNo k) (fun o =>
    decide (o < 4096 * (keyNo k % 4 + 1) ∧ 4096 * (keyNo k % 4) < o + 24))) a
  let pages := a.unitPages units
  let cols := unitColumns units
  let gone (k : Nat) : Bool := units.contains k || (keyKind k == 1 && cols.contains (keyNo k / 1028))
  { a with
    map := a.map.filter (fun u => !gone u.1),
    entries := a.entries.filter (fun e => !pages.any (fun p => decide (p.2.1 ≤ e.seq ∧ e.seq < p.2.2))),
    pageSeqs := a.pageSeqs.filter (fun e => !pages.any (fun p => p.1 == e.1)),
    columns := a.columns.filter (fun c => !cols.contains c.no) }

/-- The first sequence number still held. -/
def State.firstHeld (s : State) (d : Nat) : Nat :=
  match (s.arc d).entries with
  | [] => s.arcNext d
  | e :: es => es.foldl (fun n x => min n x.seq) e.seq

/-- The archive namespace has fewer than 2 % of its blocks free (R234). -/
def State.logLow (s : State) (d : Nat) : Bool :=
  decide (100 * (s.logCap d - (s.arc d).logBlocks) < 2 * s.logCap d)

/-- ARCHIVE_TRIM (R234): the oldest archive block is trimmed. -/
def execArchiveTrim (d : Nat) (s : State) : Res :=
  onL s d <| if s.stopped d then s else
    let a := s.arc d
    let collect := a.blocks.any (fun e => e.2.st == .closed && decide (a.valid e.1 < 4 * e.2.used))
    if !s.arcRunning d ∨ s.logLow d = false ∨ collect then s
    else
      match a.trimBlock with
      | none => s
      | some (b, _) =>
        let units := a.logUnits b
        if a.ckptOldest < a.seqAfter units ∨ s.holdsOpenColumn d units then s
        else
          let s := s.setArc d (a.trimmed units)
          let first := s.firstHeld d
          let s := (s.put2 d ARC_FIRST_LO_first_lo ARC_FIRST_HI_first_hi first).inc d ARC_TRIM_CNT
          if limiterOpen a.lim119 s.now (86400 * 10 ^ 8) then
            (s.setArc d { s.arc d with lim119 := some s.now }).raise d 119 (arg 0 first)
          else s

/-! ### Commands 0x40 to 0x46 (R249) -/

/-- Refuse an archive command. -/
def State.arcCmdRefuse (s : State) (d status : Nat) (c : Cmd) : State := (s.put d ARC_STAT_error status).complete c.id status

/-- Run an archive command, which needs a controller that is Running (R250). -/
def State.withArc (s : State) (d opcode : Nat) (k : State → Cmd → State) : State :=
  s.withCmd d opcode fun s c => if s.arcRunning d then k s c else s.arcCmdRefuse d 0x0405 c

/-- An entry with its header (R232). -/
def ArcEntry.bytes (e : ArcEntry) : Bytes :=
  leBytes 2 (arcLen e.body) ++ leBytes 1 e.kind ++ leBytes 1 e.flags ++ leBytes 4 e.handle ++ leBytes 8 e.lt
    ++ slice e.body 0 (arcLen e.body - 16)

/-- Whole entries in sequence order up to a byte count, stopping before a lost one. -/
def takeEntries (lost : List Nat) : List ArcEntry → Nat → List ArcEntry
  | [], _ => []
  | e :: es, left =>
    if lost.contains e.seq ∨ left < arcLen e.body then [] else e :: takeEntries lost es (left - arcLen e.body)

/-- The first number from `n` on that is not lost. -/
def afterLost (lost : List Nat) : Nat → Nat → Nat
  | 0, n => n
  | f + 1, n => if lost.contains n then afterLost lost f (n + 1) else n

/-- The sequence number after the last of some entries; `first` where there is none. -/
def nextSeq (l : List ArcEntry) (first : Nat) : Nat :=
  match l.getLast? with
  | some e => e.seq + 1
  | none => first

/-- READ_ARCHIVE, opcode 0x40. -/
def execReadArchive (d : Nat) (s : State) : Res :=
  onL s d <| s.withArc d 0x40 fun s c =>
    let first := c.op 16 8
    let n := c.op 24 4
    let a := s.arc d
    if n < 64 ∨ 1048576 < n then s.complete c.id 0x0103
    else if first < s.get2 d ARC_FIRST_LO_first_lo ARC_FIRST_HI_first_hi then s.arcCmdRefuse d 0x0402 c
    else
      let l := takeEntries a.lostSeqs (a.entries.filter (fun e => decide (first ≤ e.seq))) n
      let next := nextSeq l first
      let lost := a.lostSeqs.contains next
      let next' := if lost then afterLost a.lostSeqs a.lostSeqs.length next else next
      let b := l.flatMap ArcEntry.bytes
      let pages := a.pageSeqs.filter (fun p => l.any (fun e => decide (p.2.1 ≤ e.seq ∧ e.seq < p.2.2)))
      let s := s.mapTouchAll d (pages.map (fun p => keyPage p.1))
      let s := s.setArc d { s.arc d with health := { (s.arc d).health with read := (s.arc d).health.read + 16384 * pages.length } }
      let s := s.toHost c.port (c.op 32 8) b
      let r := leBytes 8 next' ++ leBytes 4 l.length ++ leBytes 4 b.length
      if lost then (s.put d ARC_STAT_error 0x0403).complete c.id 0x0403 r else s.complete c.id 0 r

/-- The archive health report of R248. -/
def State.healthReport (s : State) (d : Nat) : Bytes :=
  let a := s.arc d
  let h := a.health
  let g := s.govSums d
  let good := max 1 a.goodBlocks.length
  let pe := s.ratedPe d
  let used := if pe = 0 then 0 else min 0xFFFF (10000 * a.ecSum / (good * pe))
  let life := if g.2.2.2 = 0 then 0xFFFFFFFF else min 0xFFFFFFFF (s.arcBudget d * (g.1 * 3600) / g.2.2.2 / 86400)
  let raw := match a.layout with
    | some l => l.rawGib
    | none => 0
  let lt := match a.entries.head? with
    | some e => e.lt
    | none => 0
  let fl := b2n (s.flag d ARC_STAT_summary) + 2 * b2n (s.flag d ARC_STAT_parity_full) + 4 * b2n (s.flag d ARC_STAT_spare_warn)
    + 8 * b2n (s.flag d ARC_STAT_spare_min) + 16 * b2n (s.flag d ARC_STAT_jrn_low)
  leBytes 1 1 ++ leBytes 1 fl ++ leBytes 1 a.luns ++ leBytes 1 a.jrn.length ++ leBytes 4 pe ++ leBytes 4 raw
    ++ leBytes 4 (s.spare d) ++ leBytes 4 h.retired ++ leBytes 4 a.ecMin ++ leBytes 4 (a.ecSum / good) ++ leBytes 4 a.ecMax
    ++ leBytes 2 used ++ leBytes 2 (s.get d ARC_LIFE_wa) ++ leBytes 4 life ++ leBytes 8 h.appended ++ leBytes 8 h.programmed
    ++ leBytes 8 h.read ++ leBytes 4 h.progFail ++ leBytes 4 h.eraseFail ++ leBytes 4 h.retried ++ leBytes 4 h.rebuilt
    ++ leBytes 4 h.lost ++ leBytes 4 h.refreshed ++ leBytes 4 h.passes ++ leBytes 2 h.worstBits ++ leBytes 2 0
    ++ leBytes 8 h.passEnd ++ h.tempHours.flatMap (leBytes 4) ++ leBytes 4 h.summaryHours ++ leBytes 4 h.govChanges
    ++ leBytes 8 (s.get2 d ARC_FIRST_LO_first_lo ARC_FIRST_HI_first_hi) ++ leBytes 8 (s.arcNext d) ++ leBytes 8 lt
    ++ fillBytes 88 0

/-- READ_HEALTH, opcode 0x41. -/
def execReadHealth (d : Nat) (s : State) : Res :=
  onL s d <| s.withArc d 0x41 fun s c => (s.toHost c.port (c.op 16 8) (s.healthReport d)).complete c.id 0

/-- A range of sectors lies in the host namespace. -/
def State.hostRange (s : State) (d first n : Nat) : Bool :=
  match (s.arc d).layout with
  | some l => decide (first + n ≤ l.hostGib * 2 ^ 18)
  | none => false

/-- Free bytes: the contents of a host sector never written, which the spec does not state. -/
def State.freeBytes (s : State) (n : Nat) : Bytes × State := s.randomBytes n

/-- HOST_READ, opcode 0x42. -/
def execHostRead (d : Nat) (s : State) : Res :=
  onL s d <| s.withArc d 0x42 fun s c =>
    let f := c.op 16 8
    let n := c.op 24 2
    let dst := c.op 32 8
    if n = 0 ∨ 256 < n ∨ dst % 4096 ≠ 0 then s.complete c.id 0x0103
    else if !s.hostRange d f n then s.arcCmdRefuse d 0x0401 c
    else if (List.range n).any (fun i => (s.arc d).hostLost.contains (f + i)) then s.arcCmdRefuse d 0x0403 c
    else
      let s := s.mapTouchAll d ((List.range n).map (fun i => keyHost (f + i)))
      let s := (List.range n).foldl (fun s i =>
        let r := match smGet (s.arc d).host (f + i) with
          | some b => (slice b 0 4096, s)
          | none => s.freeBytes 4096
        r.2.toHost c.port (dst + 4096 * i) r.1) s
      let a := s.arc d
      (s.setArc d { a with health := { a.health with read := a.health.read + 4096 * n } }).complete c.id 0

/-- HOST_WRITE, opcode 0x43: `data` is what is read from host memory. It completes once its pages are verified. -/
def execHostWrite (d : Nat) (data : Bytes) (s : State) : Res :=
  onL s d <| s.withArc d 0x43 fun s c =>
    let f := c.op 16 8
    let n := c.op 24 2
    if n = 0 ∨ 256 < n ∨ c.op 32 8 % 4096 ≠ 0 then s.complete c.id 0x0103
    else if !s.hostRange d f n then s.arcCmdRefuse d 0x0401 c
    else if s.flag d ARC_STAT_spare_min then s.arcCmdRefuse d 0x0404 c
    else
      let groups := chunk4 ((List.range n).map (fun i => keyHost (f + i)))
      (List.range groups.length).foldl (fun s i =>
        s.arcWrite d { keys := groups.getD i [], stream := 1, data := slice data (16384 * i) 16384, cmd := some c.id })
        (s.markStarted c.id)

/-- HOST_TRIM, opcode 0x44. -/
def execHostTrim (d : Nat) (s : State) : Res :=
  onL s d <| s.withArc d 0x44 fun s c =>
    let f := c.op 16 8
    let n := c.op 24 4
    if !s.hostRange d f n then s.arcCmdRefuse d 0x0401 c
    else
      let a := s.arc d
      let inside (k : Nat) : Bool := decide (f ≤ k ∧ k < f + n)
      let keys := (a.map.filter (fun e => keyKind e.1 == 2 && inside (keyNo e.1))).map (·.1)
      let s := s.mapTouchAll d keys
      let a := keys.foldl (fun a k => a.unplace k) (s.arc d)
      (s.setArc d { a with
        host := a.host.filter (fun e => !inside e.1), hostLost := a.hostLost.filter (fun k => !inside k) }).complete c.id 0

/-- PATROL_PASS, opcode 0x45: a whole patrol pass begins; PATROL_READ carries it on. -/
def execPatrolPass (d : Nat) (s : State) : Res :=
  onL s d <| s.withArc d 0x45 fun s c =>
    if (s.longOp d 0x45).isSome then s.arcCmdRefuse d 0x0406 c
    else
      let s := s.setArc d { s.arc d with
        patrolled := [], eraseChecked := [], patrolBits := 0, patrolPages := 0, patrolRefreshed := 0, patrolCmd := true }
      let s := (s.put d ARC_PATROL_PROG_percent 0).putB d ARC_PATROL_PROG_running true
      s.startLong { cmd := c.id, die := d, opcode := 0x45 }

/-- A block after a format: erased, but for the bad ones and those free already. -/
def Blk.formatted (k : Blk) : Blk := if k.st = .bad ∨ k.st = .free then k else { ec := k.ec + 1 }

/-- What a format leaves of the controller's state: the blocks, erased, and the counts that go on. -/
def Arc.formatted (a : Arc) (next : Nat) : Arc :=
  { nand := a.nand, bad := a.bad, bad2 := a.bad2, blocks := a.blocks.map (fun e => (e.1, e.2.formatted)), onNand := next,
    pageFrom := next, pages := a.pages, columnNo := a.columnNo, amendPages := a.amendPages, stripeNo := a.stripeNo,
    closeNo := a.closeNo, govNext := a.govNext, govSummary := a.govSummary, wearNext := a.wearNext, lim119 := a.lim119,
    health := { retired := a.health.retired } }

/-- FORMAT, opcode 0x46: erases the namespaces and records the present registers as the new layout. Sequence numbers
go on, since they never repeat on a die (R232). Host writes in progress end first. -/
def execFormat (d : Nat) (s : State) : Res :=
  onL s d <| s.withArc d 0x46 fun s c =>
    if c.op 16 1 ≠ 0xA5 then s.complete c.id 0x0103
    else if s.flag d LEDG_CTRL_enable ∨ [0, 1, 2, 3].any (fun q => s.flag d QUE_n_CTRL_enable q) then s.arcCmdRefuse d 0x0409 c
    else if ((s.arc d).progs ++ (s.arc d).blocked).any (fun p => p.cmd.isSome) then s
    else match (s.arc d).layout with
      | none => s.arcCmdRefuse d 0x0405 c
      | some l =>
        let n := s.arcNext d
        let s := s.setArc d ((s.arc d).formatted n)
        let s := s.setLayout d { l with
          hostGib := min 256 (s.get d ARC_NS_HOST_gib), made := s.devTime d, paired := none, package := none, number := none }
        let s := (s.put2 d ARC_FIRST_LO_first_lo ARC_FIRST_HI_first_hi n).putB d ARC_STAT_layout_mismatch false
        (((s.putJrn d []).jrnCheck d).spareCheck d).complete c.id 0

end Sys2Proof.Machine
end

