-- ==== Sys2Proof/Machine/Clock.lean ====
section
/-! DEFINITION. Device time and its disciplining (15_power_clocks_ageing R329 to R333). -/

namespace Sys2Proof.Machine

def State.disc (s : State) (d : Nat) : Disc := (s.com1 d).disc
def State.setDisc (s : State) (d : Nat) (x : Disc) : State := s.setCom d { s.com1 d with disc := x }
def State.setClk (s : State) (d c : Nat) : State := s.setCom d { s.com1 d with clk := c }

/-- Device time of a die in nanoseconds. -/
def State.devNs (s : State) (d : Nat) : Int := Int.ofNat ((s.com1 d).clk / 10 ^ 8)

/-- Clock units (10^-9 tick) in one nanosecond. -/
def clkNs : Int := 10 ^ 8

/-! ### Quality (R14, R331) -/

/-- The quality of device time changes: shown by CLK and, on an L-die, by the ledger, with L-024 or F-024. -/
def State.setQuality (s : State) (d q : Nat) : State :=
  if s.get d CLK_STAT_quality = q then s
  else
    let s := s.put d CLK_STAT_quality q
    let s := s.setDisc d { s.disc d with holdFrom := if q = 1 then some s.now else none, inLock := 0, lockNow := false, hostOk := none }
    let s := s.raise d 24 (arg 0 q + arg 1 (s.get d CLK_STAT_source))
    if s.isL d then ((s.put d LEDG_STAT_quality q).defaultCheck d).mirSend d else s

/-- When a source last delivered a measurement, at whichever die. -/
def State.lastDelivery (s : State) : Nat :=
  (List.range s.nDies).foldl (fun a d => max a ((s.disc d).lastMeas.getD 0)) 0

/-- TIME_QUALITY_CHANGE's conditions (R331): lock, 3 s without a measurement, 14,400 s of holdover. -/
def State.qualityCheck (s : State) (d : Nat) : State :=
  let x := s.disc d
  let q := s.get d CLK_STAT_quality
  if q ≠ 0 ∧ x.lockNow = true then s.setQuality d 0
  else if q = 0 then (if s.due (s.lastDelivery + 3 * Config.tS) then s.setQuality d 1 else s)
  else if q = 1 then
    match x.holdFrom with
    | some t => if s.due (t + 14400 * Config.tS) then s.setQuality d 2 else s
    | none => s
  else s

def execTimeQualityChange (d : Nat) (s : State) : Res := onDie s d (s.qualityCheck d)

/-- HOLDOVER_ENTRY (R331). -/
def execHoldoverEntry (d : Nat) (s : State) : Res := onDie s d (if s.get d CLK_STAT_quality = 0 then s.qualityCheck d else s)

/-- HOLDOVER_EXPIRY (R331). -/
def execHoldoverExpiry (d : Nat) (s : State) : Res := onDie s d (if s.get d CLK_STAT_quality = 1 then s.qualityCheck d else s)

/-! ### Measurements (R329, R330) -/

/-- CLK_DISC.step_ms in ns. -/
def State.stepNs (s : State) (d : Nat) : Nat := max 1 (s.get d CLK_DISC_step_ms) * 1000000

/-- Device time steps by `e` ns (R330): counted, raised, and answered by the ledger (R146). -/
def State.stepTime (s : State) (d : Nat) (e : Int) : State :=
  let before := s.devTime d
  let s := s.setClk d (Int.ofNat (s.com1 d).clk + e * clkNs).toNat
  let s := s.setDisc d { s.disc d with toSlew := 0 }
  let s := (s.inc d CLK_STEP_CNT).raise d 25 (arg 0 (ofSigned 64 (Int.tdiv e 10)))
  if s.isL d then (s.ltStep d before).mirSend d else s

/-- The order of CLK_SRC, without unused places. -/
def State.srcOrder (s : State) (d : Nat) : List Nat :=
  [s.get d CLK_SRC_first, s.get d CLK_SRC_second, s.get d CLK_SRC_third].filter (· != 0)

/-- A source has delivered a measurement within the last 3 s, at whichever die. -/
def State.srcActive (s : State) (src : Nat) : Bool :=
  (List.range s.nDies).any (fun d => (s.disc d).seen.any (fun x => x.1 == src && decide (s.now < x.2 + 3 * Config.tS)))

/-- Source `src` is the first in the order that delivers. -/
def State.srcTakes (s : State) (d src : Nat) : Bool :=
  let o := s.srcOrder d
  o.contains src && (o.takeWhile (· != src)).all (fun x => !s.srcActive x)

/-- Die `d` is the time master of its package from here on (R329). -/
def State.setMaster (s : State) (d : Nat) : State :=
  (List.range s.nDies).foldl (fun s x => s.putB x CLK_STAT_master (x == d)) s

/-- A number cut to 32 signed bits. -/
def sat32z (z : Int) : Int := max (-2147483648) (min 2147483647 z)

/-- The lock conditions of R331 after a measurement. -/
def lockAfter (x : Disc) (src now lockNs : Nat) (e : Int) : Disc :=
  if src = 3 then
    if e.natAbs ≤ 1000000 then
      match x.hostOk with
      | none => { x with hostOk := some now }
      | some t => if t + 10 * Config.tS ≤ now then { x with hostOk := some now, lockNow := true } else x
    else { x with hostOk := none, lockNow := false }
  else if e.natAbs ≤ lockNs then { x with inLock := x.inLock + 1, lockNow := decide (8 ≤ x.inLock + 1) }
  else { x with inLock := 0, lockNow := false }

/-- A measurement of `e` ns, reference minus device time, from a source (R330, R331). -/
def State.measure (s : State) (d src : Nat) (e : Int) : State :=
  let x := s.disc d
  let s := s.setDisc d { x with seen := (src, s.now) :: x.seen.filter (fun y => y.1 != src), lastMeas := some s.now }
  if !s.srcTakes d src then s
  else
    let s := s.setMaster d
    let changed := s.get d CLK_STAT_source != src
    let s := (s.put d CLK_STAT_source src).putZ d CLK_OFS_offset (sat32z e)
    let x := s.disc d
    let x := if changed then { x with inLock := 0, hostOk := none, lockNow := false } else x
    let meas := ((e, s.now) :: x.meas).take 64
    let rate := sat32z (Config.learnRate meas)
    let x := { x with meas := meas, learned := rate }
    let s := s.setDisc d (lockAfter x src s.now (s.get d CLK_DISC_lock_ns) e)
    let s := s.putZ d CLK_RATE_rate rate
    let s := if e.natAbs ≤ s.stepNs d then s.setDisc d { s.disc d with toSlew := e * clkNs } else s.stepTime d e
    s.qualityCheck d

/-- DEVICE_TIME_STEP (R330): a measurement of `ticks` ticks (`back`: negative) that lies beyond step_ms. -/
def execDeviceTimeStep (d : Nat) (back : Bool) (ticks : Nat) (s : State) : Res :=
  onDie s d <|
    let e : Int := if back then -Int.ofNat (10 * ticks) else Int.ofNat (10 * ticks)
    if e.natAbs ≤ s.stepNs d then s else s.stepTime d e

/-- SET_GO (R330): a host-time measurement at the die that received the write. -/
def execSetGo (d : Nat) (s : State) : Res :=
  onPort s d (s.measure d 3 (Int.ofNat (10 * s.get2 d CLK_SET_LO_set_lo CLK_SET_HI_set_hi) - s.devNs d))

/-- The MAC that steers device time (R302): of the lowest-index L-die that is Active or Single, runs PTP and tracks a
master. -/
def State.ptpSteer (s : State) : Option Nat :=
  [0, 1].find? (fun d => s.serving d && s.flag d ETH_CTRL_ptp_en && s.get d ETH_STAT_state == 1 && (s.l d).eth.master.isSome)

/-- PTP_MEASUREMENT (R330): the offset that the steering MAC has measured. -/
def execPtpMeasurement (d : Nat) (s : State) : Res :=
  onPort s d <|
    match (s.disc d).ptp with
    | none => s
    | some e =>
      let s := s.setDisc d { s.disc d with ptp := none }
      if s.ptpSteer = some d then s.measure d 1 e else s

/-- The die that takes PPS_IN (R329): L0, or L1 while L0 is neither Active nor Single. -/
def State.ppsTaker (s : State) : Nat := if s.serving 0 then 0 else 1

/-- PPS_IN_EDGE (R330, R332) at L-die `d`; `rising` tells the edge's direction. -/
def execPpsInEdge (d : Nat) (rising : Bool) (s : State) : Res :=
  onPort s d <|
    if s.flag d CLK_PPS_in_en = false ∨ rising = s.flag d CLK_PPS_in_pol then s
    else
      let x := s.disc d
      let s := s.setDisc d { x with ppsLast := some s.now, ppsLost := false }
      let s := s.putB d CLK_STAT_pps_ok true
      let s := if x.ppsLost then s.raise d 27 (arg 0 1) else s
      if d ≠ s.ppsTaker then s
      else
        let f := s.devNs d % 1000000000
        let e : Int := if f ≤ 500000000 then -f else 1000000000 - f
        if e.natAbs > 100000000 then s.inc d CLK_PPS_MISS_CNT else s.measure d 2 e

/-- PPS_IN_LOSS (R332): no edge for 3 s. -/
def execPpsInLoss (d : Nat) (s : State) : Res :=
  onPort s d <|
    let x := s.disc d
    if s.flag d CLK_PPS_in_en = true ∧ x.ppsLost = false ∧ s.due (x.ppsLast.getD 0 + 3 * Config.tS) = true then
      ((s.putB d CLK_STAT_pps_ok false).setDisc d { x with ppsLost := true }).raise d 27 (arg 0 0)
    else s

/-- CLK_PPS.out_width_ms in ticks. -/
def State.ppsWidth (s : State) (d : Nat) : Nat :=
  let w := s.get d CLK_PPS_out_width_ms
  (if 1 ≤ w ∧ w ≤ 900 then w else 100) * Config.tMs

/-- PPS_OUT_EDGE (R332): the time master drives PPS_OUT high at a whole second. -/
def execPpsOutEdge (d : Nat) (s : State) : Res :=
  onPort s d <|
    let sec := s.devTime d / 10 ^ 8
    if s.flag d CLK_CTRL_pps_out_en = true ∧ s.flag d CLK_STAT_master = true ∧ (s.disc d).ppsSec < sec then
      let s := s.setDisc d { s.disc d with ppsSec := sec, ppsOff := some (s.now + s.ppsWidth d) }
      s.setCom d { s.com1 d with pwr := { (s.com1 d).pwr with ppsOut := true } }
    else s

/-- TIMING_MESSAGE (R329): die `d` aligns its counter to the time master within 20 ns, and takes its quality and rate. -/
def execTimingMessage (d : Nat) (s : State) : Res :=
  onDie s d <|
    match (List.range s.nDies).find? (fun m => s.flag m CLK_STAT_master && !s.pkg.fenced.contains m) with
    | none => s
    | some m =>
      if m = d then s
      else
        let x := s.disc m
        let s := s.setDisc d { s.disc d with learned := x.learned, toSlew := x.toSlew }
        let s := s.put d CLK_STAT_source (s.get m CLK_STAT_source)
        let diff : Int := Int.ofNat (s.com1 m).clk - Int.ofNat (s.com1 d).clk
        let (k, s) := if diff.natAbs ≤ 2000000000 then (20, s) else s.freeBelow 41
        let e : Int := (if diff.natAbs ≤ 2000000000 then 0 else diff) + (Int.ofNat k - 20) * clkNs
        let s :=
          if diff.natAbs ≤ 2000000000 then s
          else if diff.natAbs ≤ s.stepNs d * 100000000 then
            let s := s.setClk d (Int.ofNat (s.com1 d).clk + e).toNat
            if s.isL d && s.ltState d == 0 then
              ((s.setLed d { s.led d with lt := max (s.led d).lt (s.com1 d).clk }).ltSlew d).mirLed d |>.mirSend d
            else s
          else s.stepTime d (Int.tdiv e clkNs)
        s.setQuality d (s.get m CLK_STAT_quality)

/-! ### Mains comparison (R333) -/

/-- The F-die whose modem measures the mains: the lowest-index one with zc_ok set. -/
def State.zcDie (s : State) : Option Nat :=
  ((List.range s.variant.fDies).map s.fIndex).find? (fun f => s.flag f PLC_STAT_zc_ok)

/-- ZC_COMPARISON (R333): `uhz` is the mean mains frequency of the last 24 h in units of 10^-6 Hz, measured on CLK_REF. -/
def execZcComparison (d uhz : Nat) (s : State) : Res :=
  onDie s d <|
    let day := 86400 * Config.tS
    match s.zcDie with
    | none => s
    | some f =>
      if s.flag d CLK_STAT_master = false ∨ s.due ((s.disc d).zcFrom + day) = false
          ∨ s.due ((s.f f).plc.zcOkAt + day) = false then s
      else
        let nominal : Int := if uhz < 55000000 then 50000000 else 60000000
        let dev := Int.ofNat uhz - nominal
        let ppm := max (-32768) (min 32767 (Int.tdiv (dev * 1000000) nominal))
        let s := (s.putZ d CLK_ZC_DEV_ppm ppm).setDisc d { s.disc d with zcFrom := s.now }
        if Int.ofNat dev.natAbs * 1000000 > 500 * nominal then
          if s.flag d CLK_STAT_ref_fault then s
          else ((s.putB d CLK_STAT_ref_fault true).setQuality d 2).raise d 26 (arg 0 (ofSigned 16 ppm) + arg 2 1)
        else if Int.ofNat dev.natAbs * 1000000 ≤ 200 * nominal ∧ s.flag d CLK_STAT_ref_fault = true then
          (s.putB d CLK_STAT_ref_fault false).raise d 26 (arg 0 (ofSigned 16 ppm))
        else s

/-! ### The counter -/

/-- CLK_DISC.slew_max as clock units per tick. -/
def State.slewMax (s : State) (d : Nat) : Nat :=
  let k := s.get d CLK_DISC_slew_max
  (if 1 ≤ k ∧ k ≤ 100 then k else 50) * 10000

/-- Half ticks by which the counter moves in one tick: 2, and in Recess level 3 5 at each edge of CLK_REF, every 25 ns (R325). -/
def State.halfTicks (s : State) (d : Nat) : Nat :=
  if s.get d PWR_STAT_recess = 3 then (if (s.now + 1) * 2 / 5 = s.now * 2 / 5 then 0 else 5) else 2

/-- One tick of the device-time counter of a die (R330): the learned rate, and what is still to be slewed; ledger time
follows (R145). The falling edge of PPS_OUT. -/
def State.clkTick (s : State) (d : Nat) : State :=
  let c := s.com1 d
  if c.pwr.refLost then s
  else
    let x := c.disc
    let k := Int.ofNat (s.halfTicks d)
    let lim := Int.ofNat (s.slewMax d) * k / 2
    let corr := max (-lim) (min lim x.toSlew)
    let rate := x.learned * Int.ofNat (s.now + 1) / 1000 - x.learned * Int.ofNat s.now / 1000
    let adv := ((1000000000 + rate) * k / 2 + corr).toNat
    let clk := c.clk + adv
    let off := match x.ppsOff with
      | some t => decide (t ≤ s.now)
      | none => false
    let x := { x with toSlew := x.toSlew - corr, ppsOff := if off then none else x.ppsOff }
    let s := s.setCom d { c with clk := clk, disc := x, pwr := { c.pwr with ppsOut := c.pwr.ppsOut && !off } }
    if !s.isL d || s.held d then s
    else
      let lt := (s.led d).lt
      let next :=
        if s.ltState d = 0 then max lt clk
        else if lt ≤ clk then min clk (lt + adv * 1005 / 1000)
        else max clk (lt + adv * 995 / 1000)
      s.setLed d { s.led d with lt := next }

end Sys2Proof.Machine
end

