-- ==== Sys2Proof/Machine/Radio.lean ====
section
/-! DEFINITION. Radio reception on an F-die: contexts, hold buffer, hand-off messages, verdict and release
messages, collision unpicking, receive paths and calibration (02_radio_reception; 01_reading_path R20 to R29). -/

namespace Sys2Proof.Machine

/-! ### Hold buffer and contexts -/

/-- Hold-buffer entries of an F-die: the 8 MiB of R29 at 512 bytes an entry (DESIGN CHOICE, assumption log 7). -/
def holdEntries : Nat := 16384

/-- The lowest number below `n` that a sparse map does not list, looking from `k` on. -/
def firstFree {α : Type} (m : SMap α) : Nat → Nat → Option Nat
  | 0, _ => none
  | n + 1, k => if (smGet m k).isNone then some k else firstFree m n (k + 1)

/-- F-057 after a change of the entries held: raised above 90 %, re-armed below 75 % (R29, R376). -/
def State.holdWatch (s : State) (d : Nat) : State :=
  let r := s.rad d
  let n := r.hold.length
  if !r.f057 && decide (holdEntries * 90 < n * 100) then
    (s.setRad d { r with f057 := true }).raise d 57 (arg 0 n)
  else if r.f057 && decide (n * 100 < holdEntries * 75) then s.setRad d { r with f057 := false }
  else s

def State.ctx (s : State) (d c : Nat) : Option Ctx := smGet (s.rad d).ctxs c
def State.setCtx (s : State) (d c : Nat) (x : Ctx) : State :=
  s.setRad d { s.rad d with ctxs := smPut (s.rad d).ctxs c x }
def State.holdAt (s : State) (d h : Nat) : Option Hold := smGet (s.rad d).hold h
def State.setHold (s : State) (d h : Nat) (x : Hold) : State :=
  s.setRad d { s.rad d with hold := smPut (s.rad d).hold h x }
def State.freeHold (s : State) (d h : Nat) : State :=
  (s.setRad d { s.rad d with hold := smDel (s.rad d).hold h }).holdWatch d

def State.plc (s : State) (d : Nat) : Plc := (s.f d).plc
def State.setPlc (s : State) (d : Nat) (p : Plc) : State := s.setFd d { s.f d with plc := p }

/-- The modem has work that outlives PLC_CTRL.enable (R109): frames in its receive buffers or awaiting a verdict,
acknowledgements, and the transmission on the line. -/
def State.plcWork (s : State) (d : Nat) : Bool :=
  let p := s.plc d
  !p.rx.isEmpty || !p.acks.isEmpty || p.ackOn || p.cur.isSome
    || (s.rad d).hold.any (fun h => h.2.plc && h.2.verdict.isNone)

/-- A Draining modem that has done all of it goes Idle, with F-051 (R109). -/
def State.plcDrained (s : State) (d : Nat) : State :=
  if s.get d PLC_STAT_state = 2 ∧ s.plcWork d = false then (s.put d PLC_STAT_state 0).raise d 51 else s

/-- Contexts of a slot. -/
def State.slotCtxs (s : State) (d n : Nat) : List (Nat × Ctx) := (s.rad d).ctxs.filter (fun p => p.2.slot == n)

/-- Slot state after a change of its contexts: a Draining slot goes Idle with its last one and raises F-039
(R58); an enabled slot is Receiving while a frame is in reception. -/
def State.slotRefresh (s : State) (d n : Nat) : State :=
  let cs := s.slotCtxs d n
  let st := s.get d CHN_SLOT_STATn_state n
  if st = 3 then
    (if cs.isEmpty then (s.put d CHN_SLOT_STATn_state 0 n).raise d 39 (arg 0 n) else s)
  else if st = 0 then s
  else s.put d CHN_SLOT_STATn_state (if cs.any (fun p => p.2.lastBit.isNone) then 2 else 1) n

/-- What the weaker frames of an F-die know of a stronger one in context `c` whose check is still open changes. -/
def State.overSet (s : State) (d c : Nat) (g : Over → Over) : State :=
  let r := s.rad d
  s.setRad d { r with ctxs := r.ctxs.map (fun p =>
    (p.1, { p.2 with overlaps := p.2.overlaps.map (fun o => if o.ctx = c ∧ o.ok = none then g o else o) })) }

/-- A context returns to the pool (R43), and with it the unpicking operation that worked on its frame. A stronger frame that goes
before its check does not pass it (R47). -/
def State.freeCtx (s : State) (d c : Nat) : State :=
  match s.ctx d c with
  | none => s
  | some x =>
    let r := s.rad d
    let s := s.setRad d { r with ctxs := smDel r.ctxs c, unpicks := r.unpicks.filter (fun u => u.weak != c) }
    let s := s.overSet d c (fun o => { o with last := some (o.last.getD (s.devTime d)), ok := some false })
    s.slotRefresh d x.slot

/-- Send a hand-off message (R50). -/
def State.sendHand (s : State) (m : HandMsg) : State := { s with hand := s.hand ++ [m] }

/-- The frame of a context is lost: an abort replaces its trailer if the header has been sent, and the context and
hold entry are freed (R50, R51). -/
def State.abortCtx (s : State) (d c reason : Nat) : State :=
  match s.ctx d c with
  | none => s
  | some x =>
    let s := if x.headerSent then
        match x.owner with
        | some o => (s.sendHand ⟨d, o, c, x.hold, .abort reason⟩).inc d DMD_ABORT_CNT
        | none => s.inc d DMD_ABORT_CNT
      else s
    (s.freeHold d x.hold).freeCtx d c

/-- Abort every frame in reception on a path (R37, R41). -/
def State.abortPath (s : State) (d : Nat) (pathB : Bool) (reason : Nat) (cnt : Option Field) : State :=
  let cs := (s.rad d).ctxs.filter (fun p => (s.get d CHN_SLOT_CFGn_path p.2.slot == b2n pathB) && p.2.lastBit.isNone)
  cs.foldl (fun s p =>
    let s := s.abortCtx d p.1 reason
    match cnt with
    | some f => s.inc d f
    | none => s) s

/-! ### Partition table (R20) -/

/-- The owner of an identity hash in a table of runs. -/
def ownerOf : List (Nat × Nat) → Nat → Option Nat
  | [], _ => none
  | (h, o) :: t, q => if q < h then none else (ownerOf t q).or (some o)

/-- The owner an F-die finds for a hash, if the table names an L-die. -/
def State.owner (s : State) (d hash : Nat) : Option Nat :=
  match ownerOf (s.rad d).part hash with
  | some o => if s.isL o then some o else none
  | none => none

/-! ### Path state -/

/-- The RFA or RFB copy of a path field. -/
def pathField (pathB : Bool) (f : Field) : Field := if pathB then f.onB else f

/-- The path is blanked: its blank bit is set and the front end is in state 4 or 5 (R41). -/
def State.blanked (s : State) (d : Nat) (pathB : Bool) : Bool :=
  let m := s.get d RFT_CTRL_blank_mask
  let f := (s.rad d).fem
  (f = 4 || f = 5) && bit m (b2n pathB)

/-- A slot's channel centre in 100 Hz units. -/
def State.slotCentre (s : State) (d n : Nat) : Int :=
  (s.get d (pathField (s.flag d CHN_SLOT_CFGn_path n) RFA_TUNE_centre) : Int) + s.getZ d CHN_SLOT_CFGn_offset n

/-! ### Sync (R43, R47) -/

/-- Why a frame is not recovered by unpicking, or the frames of a slot in order of level (R47): strongest first,
of equals the earlier first. -/
def State.levels (s : State) (d n : Nat) : List (Nat × Ctx) :=
  let cs := (s.slotCtxs d n).filter (fun p => p.2.lastBit.isNone || p.2.state == .unpicking || p.2.withheldFrom.isSome)
  cs.mergeSort (fun a b =>
    let ra := toSigned 16 a.2.rssi; let rb := toSigned 16 b.2.rssi
    decide (rb < ra) || (decide (ra = rb) && decide (a.2.syncTime ≤ b.2.syncTime)))

/-- R48: the weaker frame fails; aborted with reason 4 if its header has been handed off, else discarded. -/
def State.unpickFail (s : State) (d c : Nat) : State := (s.abortCtx d c 4).inc d DMD_UNPICK_FAIL_CNT

/-- The frames of a slot below the first `lvl` ones, which are those of `above`; the last of these has sync RSSI `r`. Each takes
its level under it, or fails a condition of R47 that is known at the sync: the power ratio, the depth, unpicking allowed. One below
a frame that is not recovered is not recovered either. -/
def State.levelDown (s : State) (d pre ratio depth : Nat) : Bool → Nat → Int → List Over → List (Nat × Ctx) → State
  | _, _, _, _, [] => s
  | ok, lvl, r, above, (c, x) :: rest =>
    let q := toSigned 16 x.rssi
    if ok && decide (lvl ≤ depth) && decide ((ratio : Int) ≤ r - q) then
      (s.setCtx d c { x with
        level := lvl
        overlaps := x.overlaps ++ above.filter (fun o => !x.overlaps.any (fun w => w.ctx == o.ctx && w.ok.isNone))
        withheldFrom := x.withheldFrom.or (some x.bytes.length)
        overlapFrom := x.overlapFrom.or (some (x.bytes.length - pre)) }).levelDown d pre ratio depth ok (lvl + 1) q
          (above ++ [{ ctx := c, start := x.start }]) rest
    else (s.unpickFail d c).levelDown d pre ratio depth false (lvl + 1) q above rest

/-- The frames of a slot overlap (R47; depth under the thermal stage of R339). `pre` is the number of byte periods of preamble and
sync word that went undetected before the sync (R48). -/
def State.overlap (s : State) (d n pre : Nat) : State :=
  let ratio := 4 * max 4 (s.get d DMD_CTRL_min_ratio)
  let depth := min (2 - s.get d PWR_STAT_stage) (s.get d DMD_CTRL_max_depth)
  let ok := s.flag d DMD_CTRL_unpick_en && s.flag d CHN_SLOT_MODEn_unpick n
  match s.levels d n with
  | [] => s
  | (c, x) :: rest => s.levelDown d pre ratio depth ok 1 (toSigned 16 x.rssi) [{ ctx := c, start := x.start }] rest

/-- The timetable of an F-die that is running on a channel slot (R63). -/
def State.slotTt (s : State) (d n : Nat) : Option Nat :=
  (List.range 8).find? (fun t => s.flag d TT_n_STAT_running t && s.get d TT_n_CHAN_slot t == n)

/-- SYNC_DETECTED (R43, R29): a slot's detector finds a sync word of mode `mode`. The frame's preamble and sync word took `pre` byte
periods; `noise` is the measured channel noise floor. -/
def execSyncDetected (d n mode : Nat) (fec : Bool) (rssi freq noise pre : Nat) (s : State) : Res :=
  let r := s.rad d
  let st := s.get d CHN_SLOT_STATn_state n
  let pathB := s.flag d CHN_SLOT_CFGn_path n
  let inMask := match modeBit mode with
    | some b => bit (s.get d CHN_SLOT_MODEn_mode_mask n) b
    | none => false
  let floor := s.get d CHN_SLOT_MODEn_sync_rssi_min n
  let loud := floor = 0x80 || decide (4 * toSigned 8 floor ≤ toSigned 16 rssi)
  onF s d <|
    if !((st = 1 || st = 2) && decide (n < 128) && inMask && loud && !s.blanked d pathB
        && !s.flag d (pathField pathB RFA_STAT_deaf)) || (s.com1 d).pwr.halted then s
    else
      let s := (s.put d CHN_SLOT_STATn_noise_floor noise n).inc d DMD_SYNC_CNT
      match firstFree r.ctxs 128 0, firstFree r.hold holdEntries 0 with
      | some c, some h =>
        let x : Ctx := { slot := n, hold := h, mode := mode, fec := fec, rssi := rssi, freqOffset := freq,
                         noise := noise, syncTime := s.devTime d,
                         start := s.devTime d - rxByteTicks mode pre, tt := s.slotTt d n, runSince := s.now,
                         ackDelay := s.get d TT_n_TIMING_ack_delay ((s.slotTt d n).getD 0) * Config.tUs,
                         ttEui := leBytes 8 (s.get2 d TT_n_EUI_LO_eui_lo TT_n_EUI_HI_eui_hi ((s.slotTt d n).getD 0)) }
        let s := s.setCtx d c x
        let s := (s.setHold d h { ctx := c }).holdWatch d
        let s := if (s.levels d n).length ≤ 1 then s else s.overlap d n pre
        s.slotRefresh d n
      | _, _ =>
        let s := s.inc d DMD_NOCTX_CNT
        if limiterOpen r.lim038 s.now Config.tS then
          (s.setRad d { s.rad d with lim038 := some s.now }).raise d 38 (arg 0 n)
        else s

/-! ### Address field (R20, R44, R50, R82) -/

/-- Class bit of a C-field in WMB_PASS (R82). -/
def wmbClass (c : Nat) : Nat := if c = 0x44 then 0 else if c = 0x46 then 1 else if c = 0x47 then 2 else if c = 0x48 then 3 else 4

/-- What the demodulator's checks of R44 and R82 say of the bytes up to the address field: `none` discard by
format, `some none` discard by C-field class, else the identity and its kind. -/
def addrCheck (pass mode psduLen : Nat) (modeSwitch : Bool) (b : Bytes) : Option (Option (Bytes × Nat)) :=
  if modeIsSun mode then
    if 255 < psduLen || modeSwitch then none
    else match parseMhr b with
      | none => none
      | some m => if m.srcMode = 3 then some (some (m.src, 0)) else none
  else
    if leField b 0 1 < 9 then none
    else if !bit pass (wmbClass (leField b 1 1)) then some none
    else some (some (slice b 2 8, 1))

/-- The header message of a context (R50). -/
def ctxHeader (s : State) (d c : Nat) (x : Ctx) : Header :=
  { die := d, ctx := c, slot := x.slot, mode := x.mode, pathB := s.flag d CHN_SLOT_CFGn_path x.slot, fec := x.fec,
    scheduled := s.flag d CHN_SLOT_MODEn_scheduled x.slot, level := x.level, hold := x.hold, syncTime := x.syncTime,
    identity := x.identity, idHash := idHash x.identity, idKind := x.idKind, rssi := x.rssi,
    freqOffset := x.freqOffset }

/-- Runs of at most 64 bytes (R50). -/
def runs64 (off : Nat) (b : Bytes) : List (Nat × Bytes) :=
  (pieces 64 (b.length / 64 + 1) b).zipIdx.map (fun p => (off + 64 * p.2, p.1))

def State.sendData (s : State) (d o c h off : Nat) (b : Bytes) : State :=
  (runs64 off b).foldl (fun s p => s.sendHand ⟨d, o, c, h, .data p.1 p.2⟩) s

/-- The address field is known: look the owner up and send the header and the buffered bytes, or hold the frame
(R20). -/
def State.handOff (s : State) (d c : Nat) (x : Ctx) : State :=
  let hd := ctxHeader s d c x
  let o := s.owner d hd.idHash
  let s := match s.holdAt d x.hold with
    | some h =>
      s.setHold d x.hold
        { h with header := some hd, owner := o, bytes := x.bytes, noOwnerSince := if o.isNone then some s.now else none }
    | none => s
  let s := if x.idKind = 1 then s.inc d WMB_RX_CNT else s
  match o with
  | none => s.setCtx d c { x with addrDone := true, owner := none }
  | some o =>
    let s := s.sendHand ⟨d, o, c, x.hold, .header hd⟩
    let s := s.sendData d o c x.hold 0 x.bytes
    s.setCtx d c { x with addrDone := true, owner := some o, headerSent := true, sent := x.bytes.length,
                          runSince := s.now }

/-- ADDRESS_FIELD_COMPLETE (R20, R44): the frame's first bytes, through the address field. -/
def execAddressFieldComplete (d c psduLen : Nat) (modeSwitch : Bool) (b : Bytes) (s : State) : Res :=
  onF s d <|
    match s.ctx d c with
    | none => s
    | some x =>
      if x.addrDone || x.state != .receiving || x.withheldFrom.isSome || x.lastBit.isSome then s
      else match addrCheck (s.get d WMB_PASS_pass) x.mode psduLen modeSwitch b with
        | none => ((s.inc d DMD_FORM_CNT).freeHold d x.hold).freeCtx d c
        | some none => ((s.inc d WMB_CFILT_CNT).freeHold d x.hold).freeCtx d c
        | some (some (identity, k)) => s.handOff d c { x with bytes := b, identity := identity, idKind := k }

/-- SYNC_LOST (R44, R50): before the address field the loss is counted; after the header an abort is sent. -/
def execSyncLost (d c : Nat) (s : State) : Res :=
  onF s d <|
    match s.ctx d c with
    | none => s
    | some x =>
      if x.lastBit.isSome then s
      else if x.addrDone then s.abortCtx d c 1
      else ((s.inc d DMD_LOST_CNT).freeHold d x.hold).freeCtx d c

/-- The hold entry keeps the bytes of its frame (R29). -/
def State.holdBytes (s : State) (d h : Nat) (b : Bytes) : State :=
  match s.holdAt d h with
  | some e => s.setHold d h { e with bytes := b }
  | none => s

/-- DATA_RUN_CLOSE (R50): an open run of 1 to 64 bytes closes and is sent. -/
def execDataRunClose (d c : Nat) (b : Bytes) (s : State) : Res :=
  onF s d <|
    match s.ctx d c with
    | none => s
    | some x =>
      if !x.addrDone || x.withheldFrom.isSome || x.lastBit.isSome || b.isEmpty || decide (64 < b.length) then s
      else
        let x' := { x with bytes := x.bytes ++ b, runSince := s.now }
        let s := s.holdBytes d x.hold x'.bytes
        match x.owner with
        | none => s.setCtx d c x'
        | some o => (s.sendHand ⟨d, o, c, x.hold, .data x.bytes.length b⟩).setCtx d c { x' with sent := x'.bytes.length }

/-! ### Last bit, trailer (R50) -/

/-- round(6 × snr) limited to 0..255, `snr` in 0.25 dB units (R50). -/
def lqiOf (snrQ : Int) : Nat := min 255 ((6 * snrQ + 2) / 4).toNat

/-- The error of a sync against the timetable's prediction (R50, R62): the sync time minus the predicted sync of
the slot in which it fell, in 100 ns units. No timetable predicts it where none runs on the slot or the first superframe has not
begun. -/
def State.arrivalError (s : State) (d : Nat) (x : Ctx) : Option Nat :=
  match x.tt with
  | none => none
  | some t =>
    let start := s.get2 d TT_n_START_LO_start_lo TT_n_START_HI_start_hi t
    let len := s.get d TT_n_FRAME_slot_len t * 10000
    let lead := s.get d TT_n_TIMING_tx_lead t * 100
    if x.syncTime < start ∨ len = 0 then none
    else
      let off := (x.syncTime - start) % len
      some (ofSigned 32 (((off : Int) - (lead : Int)) / 10))

/-- The trailer's arrival_offset (R50): 0x8000_0000 on an unscheduled slot. On a scheduled slot for which no timetable predicts a
sync the spec states no value: a free one (assumption log 63). -/
def State.arrival (s : State) (d : Nat) (x : Ctx) : Nat × State :=
  if s.flag d CHN_SLOT_MODEn_scheduled x.slot = false then (0x80000000, s)
  else match s.arrivalError d x with
    | some e => (e, s)
    | none => s.freeBelow (2 ^ 32)

/-- The frame is complete and clean: the trailer is sent to the owner, or kept in the hold entry until one is
named (R20, R29); the context waits for the verdict. -/
def State.sendTrailer (s : State) (d c : Nat) (x : Ctx) (off : Nat) (fin : Bytes) (recovered late : Bool) : State :=
  let a := s.arrival d x
  let s := a.2
  let t : Trailer := { length := x.bytes.length, recovered := recovered, late := late,
                       lqi := lqiOf (toSigned 16 x.rssiMean - 4 * toSigned 8 x.noise), rssiMean := x.rssiMean,
                       lastBit := x.lastBit.getD (s.devTime d), arrival := a.1,
                       fecCorrected := x.fecCorrected }
  let s := match s.holdAt d x.hold with
    | some h => s.setHold d x.hold { h with bytes := x.bytes, trailer := some t, lastBit := some t.lastBit }
    | none => s
  let s := match x.owner with
    | some o => if x.headerSent then s.sendHand ⟨d, o, c, x.hold, .trailer t off fin⟩ else s
    | none => s
  (s.setCtx d c { x with state := .awaitVerdict, sent := x.bytes.length }).slotRefresh d x.slot

/-- The end of the stronger frames that overlap a frame: their last one to end; 0 without any (R49). -/
def Ctx.strongEnd (x : Ctx) : Nat := x.overlaps.foldl (fun a o => max a (o.last.getD 0)) 0

/-- The frames involved in the recovery of a frame span more than 6,144 symbol periods of its mode, from the earliest start to the
latest end; a frame that still goes on ends at `now` at the earliest (R47). -/
def Ctx.tooLong (x : Ctx) (now : Nat) : Bool :=
  let first := x.overlaps.foldl (fun a o => min a o.start) x.start
  let last := max (x.lastBit.getD now) x.strongEnd
  decide (6144 * 100000000 < (last - first) * (rxSymbols x.mode).1)

/-- A recovered frame has ended: it is counted by its level, and as late where it ended before a stronger one that overlaps it
(R49); its trailer is sent. -/
def State.recoveredEnd (s : State) (d c : Nat) (x : Ctx) (off : Nat) (fin : Bytes) : State :=
  let late := decide (x.lastBit.getD 0 < x.strongEnd)
  let s := s.inc d (if x.level = 2 then DMD_UNPICK2_CNT else DMD_UNPICK1_CNT)
  let s := if late then s.inc d DMD_UNPICK_LATE_CNT else s
  s.sendTrailer d c x off fin true late

/-- LAST_BIT (R50): the bytes of the final run, the mean RSSI and the bits FEC corrected. A frame overlapped by a
stronger one waits for unpicking (R47); a weaker one under it learns that it has ended and whether its check passes. The spec does
not say what becomes of a frame that ends before its address field is complete: it counts as lost (DESIGN CHOICE, assumption
log 63). -/
def execLastBit (d c : Nat) (b : Bytes) (rssiMean fecCorrected : Nat) (s : State) : Res :=
  onF s d <|
    match s.ctx d c with
    | none => s
    | some x =>
      if x.lastBit.isSome then s
      else
        let x := { x with lastBit := some (s.devTime d), rssiMean := rssiMean, fecCorrected := fecCorrected }
        if x.withheldFrom.isSome then
          let s := s.overSet d c (fun o => { o with last := x.lastBit })
          match s.ctx d c with
          | some y => (s.setCtx d c { y with lastBit := x.lastBit, rssiMean := rssiMean, fecCorrected := fecCorrected }).slotRefresh d x.slot
          | none => s
        else if !x.addrDone then
          ((s.inc d DMD_LOST_CNT).freeHold d x.hold).freeCtx d c
        else if x.recovered && x.tooLong (s.devTime d) then s.unpickFail d c
        else
          let y := { x with bytes := x.bytes ++ b }
          let s := s.overSet d c (fun o => { o with last := x.lastBit, ok := some (frameClean x.mode y.bytes) })
          if x.recovered then s.recoveredEnd d c y x.bytes.length b else s.sendTrailer d c y x.bytes.length b false false

/-! ### Unpicking (R47 to R49) -/

/-- The time that a frame has overlapped the stronger frames on its slot. -/
def Ctx.overlapTicks (x : Ctx) (now : Nat) : Nat :=
  x.overlaps.foldl (fun a o => max a (min (o.last.getD now) (x.lastBit.getD now) - max o.start x.start)) 0

/-- UNPICK_START (R47, R48): the frame of context `strong`, which lies over the one of context `weak` at unpicking level `level` of a
slot, has ended and been checked. Once every stronger frame has, regeneration starts, or the weaker frame fails. -/
def execUnpickStart (d weak strong slot level : Nat) (s : State) : Res :=
  onF s d <|
    match s.ctx d weak with
    | none => s
    | some x =>
      if x.withheldFrom.isNone || x.state = .unpicking || x.slot ≠ slot || x.level ≠ level || !x.overlaps.any (fun o => o.ctx == strong) then s
      else if x.overlaps.any (fun o => o.ok == some false) || x.tooLong (s.devTime d) then s.unpickFail d weak
      else if x.overlaps.any (fun o => o.ok.isNone) then s
      else if 16 ≤ (s.rad d).unpicks.length then (s.unpickFail d weak).raise d 44 (arg 0 x.slot)
      else
        let s := s.setRad d { s.rad d with unpicks := (s.rad d).unpicks ++
          [{ strong := (x.overlaps.map (·.ctx)).headD 0, weak := weak, since := s.devTime d, overlap := x.overlapTicks (s.devTime d) }] }
        s.setCtx d weak { x with state := .unpicking }

/-- UNPICK_COMPLETE (R48, R49): the residue gives the frame's bytes so far (`b`, from its first byte); bytes already
streamed are rewritten from the first affected one, the rest are sent, and the trailer if the frame has ended. -/
def execUnpickComplete (d weak psduLen : Nat) (modeSwitch : Bool) (b : Bytes) (rssiMean fecCorrected : Nat)
    (s : State) : Res :=
  onF s d <|
    match s.ctx d weak, (s.rad d).unpicks.find? (fun u => u.weak == weak) with
    | some x, some _ =>
      let s := s.setRad d { s.rad d with unpicks := (s.rad d).unpicks.filter (fun q => q.weak != weak) }
      let s := if x.lastBit.isSome then s.overSet d weak (fun o => { o with ok := some (frameClean x.mode b) }) else s
      let keep := x.withheldFrom.getD 0
      let from_ := x.overlapFrom.getD 0
      let x := { x with bytes := b, withheldFrom := none, overlapFrom := none,
                        state := .receiving, recovered := true, rssiMean := rssiMean, fecCorrected := fecCorrected }
      let start (s : State) (x : Ctx) : State :=
        if x.lastBit.isSome then s.recoveredEnd d weak x x.bytes.length [] else s.setCtx d weak x
      if x.addrDone then
        let s := match x.owner with
          | some o =>
            let redo := (b.take keep).drop from_
            let s := (runs64 from_ redo).foldl (fun (s : State) (p : Nat × Bytes) => s.sendHand ⟨d, o, weak, x.hold, .rewrite p.1 p.2⟩) s
            s.sendData d o weak x.hold keep (b.drop keep)
          | none => s
        start (s.holdBytes d x.hold b) { x with sent := b.length }
      else match addrCheck (s.get d WMB_PASS_pass) x.mode psduLen modeSwitch b with
        | none => ((s.inc d DMD_FORM_CNT).freeHold d x.hold).freeCtx d weak
        | some none => ((s.inc d WMB_CFILT_CNT).freeHold d x.hold).freeCtx d weak
        | some (some (identity, k)) =>
          let s := s.handOff d weak { x with identity := identity, idKind := k }
          match s.ctx d weak with
          | some x => start s x
          | none => s
    | _, _ => s

/-! ### Slots (R42, R58) -/

/-- The usable half-width of a path's band in 100 Hz units, times 100 (R35: 0.48 of the bandwidth). -/
def usableHalf (bw : Nat) : Nat := [20000, 40000, 60000, 80000, 120000].getD bw 0 * 48

/-- The centres of wireless M-Bus mode N channels a to f (R45, R46), 100 Hz units doubled: 12.5 kHz spacing. A centre that is no
multiple of 100 Hz is set by either neighbour, since the spec does not say how it is rounded (DESIGN CHOICE, assumption log 63). -/
def nChannel (c2 : Int) : Bool := (List.range 6).any (fun k => c2 = 2 * 1694062 + 250 * (k : Int)
  || c2 = 2 * 1694063 + 250 * (k : Int))

/-- The conditions of R42 on a slot's configuration, with the mode-N channels of R46. -/
def State.slotOk (s : State) (d n : Nat) : Bool :=
  let pathB := s.flag d CHN_SLOT_CFGn_path n
  let mask := s.get d CHN_SLOT_MODEn_mode_mask n
  let modes := (List.range 9).filter (fun b => bit mask b)
  let off := s.getZ d CHN_SLOT_CFGn_offset n
  let bw := s.get d (pathField pathB RFA_BW_bw)
  let fits (b : Nat) : Bool := decide (100 * (2 * off.natAbs + rxBand b) ≤ 2 * usableHalf bw)
  s.flag d (pathField pathB RFA_CTRL_enable) && s.get d (pathField pathB RFA_STAT_cal_state) == 2
    && (modes.length == 1 || modes == [5, 6])
    && modes.all fits
    && modes.all (fun b => b < 7 || nChannel (2 * s.slotCentre d n))

/-- SLOT_ENABLE (R42): a slot that is not Idle refuses it (R58). -/
def execSlotEnable (d n : Nat) (s : State) : Res :=
  onF s d <| if !s.domOn d 3 then s else
    if 128 ≤ n then s
    else if s.get d CHN_SLOT_STATn_state n ≠ 0 then s.putB d CHN_SLOT_STATn_cfg_error true n
    else if s.slotOk d n then
      ((s.putB d CHN_SLOT_CTRLn_enable true n).put d CHN_SLOT_STATn_state 1 n).putB d CHN_SLOT_STATn_cfg_error false n
    else (s.putB d CHN_SLOT_STATn_cfg_error true n).raise d 40 (arg 0 n)

/-- SLOT_DISABLE (R58): detectors stop; frames past sync complete; a Draining slot discards the write. The gain
calibration deferred on the path is tried again (R54). -/
def execSlotDisable (d n : Nat) (s : State) : Res :=
  onF s d <|
    if 128 ≤ n then s
    else
      let st := s.get d CHN_SLOT_STATn_state n
      if st = 3 then s.putB d CHN_SLOT_STATn_cfg_error true n
      else
        let s := (s.putB d CHN_SLOT_CTRLn_enable false n).putB d CHN_SLOT_STATn_cfg_error false n
        if st = 0 then s
        else (s.put d CHN_SLOT_STATn_state 3 n).slotRefresh d n

/-! ### Receive paths (R36, R37, R39) -/

/-- Some slot on the path is not Idle. -/
def State.pathBusy (s : State) (d : Nat) (pathB : Bool) : Bool :=
  (List.range 128).any (fun n => s.flag d CHN_SLOT_CFGn_path n == pathB && s.get d CHN_SLOT_STATn_state n != 0)

/-- RX_PATH_ENABLE (R36): `on` is the value written to the path's enable; clearing it is refused with F-040 while a
slot on the path is not Idle. The synthesizer locks when the path is powered. -/
def execRxPathEnable (d : Nat) (pathB on : Bool) (s : State) : Res :=
  onF s d <| if !s.domOn d (if pathB then 9 else 8) then s else
    if !on && s.pathBusy d pathB then s.raise d 40 (arg 0 0xFF)
    else
      let s := s.putB d (pathField pathB RFA_CTRL_enable) on
      s.putB d (pathField pathB RFA_STAT_pll_lock) on

/-- The front-end receive state for the internal LNA bypasses (R40). -/
def State.rxFem (s : State) (d : Nat) : Nat :=
  b2n (s.flag d RFA_STAT_lna_bypassed) + 2 * b2n (s.flag d RFA_STAT_lna_bypassed.onB)

/-- The front-end state that an F-die is in (R40): 7 in reset and in Recess, 4 and 5 while it transmits, 6 during foreground
calibration, else a receive state. The spec gives no precedence where a transmission and a calibration coincide: the transmission's
state is shown (DESIGN CHOICE, assumption log 63). -/
def State.femNow (s : State) (d : Nat) : Nat :=
  let r := s.rad d
  if s.get d SYS_BOOT_stage = 0 ∨ s.get d PWR_STAT_recess ≠ 0 then 7
  else if r.txq.any (fun f => f.stage == .onAir) then 4
  else if r.txq.any (fun f => f.stage == .settling) then 5
  else if r.calA.fgSince.isSome || r.calB.fgSince.isSome || r.calT.fgSince.isSome then 6
  else s.rxFem d

/-- Bring the front end into the state it is in now. -/
def State.femRefresh (s : State) (d : Nat) : State := s.setRad d { s.rad d with fem := s.femNow d }

/-- The levels on the pins FEM_CTL[5:0]: the pattern of the front-end state (R40). -/
def State.femCtl (s : State) (d : Nat) : Nat := s.get d RFT_FEM_PATn_pattern (s.rad d).fem

/-- A path is deaf while foreground calibration runs on it or it is blanked (RFA_STAT.deaf). -/
def State.deafRefresh (s : State) (d : Nat) : State :=
  let r := s.rad d
  (s.putB d RFA_STAT_deaf (r.calA.fgSince.isSome || s.blanked d false)).putB d RFA_STAT_deaf.onB
    (r.calB.fgSince.isSome || s.blanked d true)

/-- Blanking as the front-end state and RFT_CTRL.blank_mask now call for: the frames in reception on a blanked path are aborted with
reason "blanked" and counted (R41). -/
def State.blankNow (s : State) (d : Nat) : State :=
  [false, true].foldl (fun s b => if s.blanked d b then s.abortPath d b 2 (some DMD_BLANK_CNT) else s) (s.deafRefresh d)

/-- A slot on the path is Receiving (CHN_SLOT_STAT.state 2). -/
def State.pathReceiving (s : State) (d : Nat) (pathB : Bool) : Bool :=
  (List.range 128).any (fun n => s.flag d CHN_SLOT_CFGn_path n == pathB && s.get d CHN_SLOT_STATn_state n == 2)

/-- RFA_CTRL.lna or RFB_CTRL.lna is written (R37): 1 switches the internal LNA on, 2 bypasses it, 0 leaves the switching to the
composite power; a write of the reserved value 3 is ignored. The front-end state follows the internal LNA in these modes too (DEDUCED,
assumption log 63). -/
def State.lnaWrite (s : State) (d : Nat) (pathB : Bool) (v : Nat) : State :=
  if v = 3 then s
  else
    let s := s.put d (pathField pathB RFA_CTRL_lna) v
    if v = 0 then s else (s.putB d (pathField pathB RFA_STAT_lna_bypassed) (v == 2)).femRefresh d

/-- LNA_AUTO_SWITCH (R37): the composite power is measured (0.25 dBm units, signed code); in auto mode the bypass
follows −30 and −36 dBm while no slot on the path is Receiving. -/
def execLnaAutoSwitch (d : Nat) (pathB : Bool) (power : Nat) (s : State) : Res :=
  onF s d <|
    let p := toSigned 16 power
    let s := s.put d (pathField pathB RFA_POWER_power) power
    let lna := s.get d (pathField pathB RFA_CTRL_lna)
    let by_ := s.flag d (pathField pathB RFA_STAT_lna_bypassed)
    let s := if p ≤ -60 then s.putB d (pathField pathB RFA_STAT_overload) false else s
    if lna ≠ 0 || s.pathReceiving d pathB then s
    else if !by_ && decide (-120 < p) then (s.putB d (pathField pathB RFA_STAT_lna_bypassed) true).femRefresh d
    else if by_ && decide (p < -144) then (s.putB d (pathField pathB RFA_STAT_lna_bypassed) false).femRefresh d
    else s

/-- OVERLOAD (R37): composite power above −15 dBm in auto mode forces the bypass, raises F-032 or F-033 and aborts
the frames in reception with reason gain step. -/
def execOverload (d : Nat) (pathB : Bool) (power : Nat) (s : State) : Res :=
  onF s d <|
    if toSigned 16 power ≤ -60 then s
    else
      let s := s.put d (pathField pathB RFA_POWER_power) power
      let was := s.flag d (pathField pathB RFA_STAT_overload)
      let s := s.putB d (pathField pathB RFA_STAT_overload) true
      if was || s.get d (pathField pathB RFA_CTRL_lna) ≠ 0 then s
      else
        let s := (s.inc d (pathField pathB RFA_OVLD_CNT)).raise d (if pathB then 33 else 32)
        let s := (s.putB d (pathField pathB RFA_STAT_lna_bypassed) true).femRefresh d
        s.abortPath d pathB 3 none

/-! ### Calibration (R53, R54) -/

def State.cal (s : State) (d p : Nat) : Cal :=
  let r := s.rad d
  if p = 0 then r.calA else if p = 1 then r.calB else r.calT
def State.setCal (s : State) (d p : Nat) (c : Cal) : State :=
  let r := s.rad d
  s.setRad d (if p = 0 then { r with calA := c } else if p = 1 then { r with calB := c } else { r with calT := c })

/-- RX_CAL_START (R53): a write of cal_start; refused with F-037 while a slot on the path is enabled. -/
def execRxCalStart (d : Nat) (pathB : Bool) (s : State) : Res :=
  onF s d <|
    if s.pathBusy d pathB then s.raise d 37 (arg 0 (b2n pathB))
    else
      let s := s.setCal d (b2n pathB) { s.cal d (b2n pathB) with fgSince := some s.now }
      let s := s.put d (pathField pathB RFA_STAT_cal_state) 1
      ((s.putB d (pathField pathB RFA_CTRL_cal_start) true).femRefresh d).deafRefresh d

/-- CAL_COMPLETE (R53): path 0 A, 1 B, 2 transmit. Receive calibration takes 18 ms, transmit 6 ms. -/
def execCalComplete (d p : Nat) (ok : Bool) (s : State) : Res :=
  onF s d <|
    match (s.cal d p).fgSince with
    | none => s
    | some t =>
      if !s.due (t + (if p = 2 then 6 else 18) * Config.tMs) then s
      else
        let s := s.setCal d p { s.cal d p with fgSince := none }
        let s := (s.femRefresh d).deafRefresh d
        let s := if p = 2 then s else
          let b := decide (p = 1)
          let s := s.put d (pathField b RFA_STAT_cal_state) (if ok then 2 else 3)
          let s := s.putB d (pathField b RFA_CTRL_cal_start) false
          s.put d (pathField b RFA_CAL_fail_code) (if ok then 0 else 0x08)
        if ok then s.raise d 36 (arg 0 p) else s.raise d 37 (arg 0 p + arg 2 0x0508)

/-- A frequency for the gain-calibration tone exists: some point of the path's usable band lies at least 300 kHz
from every enabled slot's occupied band (R54). Candidates are the band's lower edge and the points just 300 kHz
above each slot. -/
def State.toneFree (s : State) (d : Nat) (pathB : Bool) : Bool :=
  let half : Int := (usableHalf (s.get d (pathField pathB RFA_BW_bw)) : Int) / 100
  let bands : List (Int × Int) := ((List.range 128).filter (fun n =>
      s.flag d CHN_SLOT_CFGn_path n == pathB && s.get d CHN_SLOT_STATn_state n != 0)).map (fun n =>
    let w := ((List.range 9).filter (fun b => bit (s.get d CHN_SLOT_MODEn_mode_mask n) b)).foldl (fun a b => max a (rxBand b)) 0
    let o := s.getZ d CHN_SLOT_CFGn_offset n
    (o - (w : Int) / 2 - 3000, o + ((w : Int) + 1) / 2 + 3000))
  ((-half) :: bands.map (fun b => b.2)).any (fun f => decide (-half ≤ f ∧ f ≤ half) &&
    bands.all (fun b => decide (f ≤ b.1 ∨ b.2 ≤ f)))

/-- Start gain calibration of a path, or defer it with 0x0507 and F-037 (R54). -/
def State.gainStart (s : State) (d : Nat) (pathB : Bool) : State :=
  let p := b2n pathB
  if (s.cal d p).gainSince.isSome then s
  else if s.toneFree d pathB then
    (s.setCal d p { s.cal d p with gainSince := some s.now, deferredAt := none }).putB d
      (pathField pathB RFA_CTRL_gain_cal_start) true
  else
    let s := s.setCal d p { s.cal d p with deferredAt := some s.now }
    (s.put d (pathField pathB RFA_CAL_fail_code) 0x07).raise d 37 (arg 0 p + arg 2 0x0507)

/-- GAIN_CAL_START (R54): a write of gain_cal_start. -/
def execGainCalStart (d : Nat) (pathB : Bool) (s : State) : Res := onF s d (s.gainStart d pathB)

/-- GAIN_CAL_TRIGGER (R54): `cause` 0: 24 h since the last one; 1: junction temperature moved 10 °C; 2: the 60 s
retry of a deferred one; 3: the retry at a slot disable; 4: RF margins re-planned (R342). -/
def execGainCalTrigger (d : Nat) (pathB : Bool) (cause : Nat) (s : State) : Res :=
  let p := b2n pathB
  let c := s.cal d p
  let en := s.flag d (pathField pathB RFA_CTRL_enable)
  let t : Int := s.getZ d PWR_TEMP_tj
  let last : Int := s.getZ d (pathField pathB RFA_CAL_cal_temp)
  let go := match cause with
    | 0 => (match c.lastDone with
            | some x => s.due (x + 86400 * Config.tS)
            | none => true)
    | 1 => decide (10 ≤ (t - last).natAbs)
    | 2 => (match c.deferredAt with
            | some x => s.due (x + 60 * Config.tS)
            | none => false)
    | 3 => c.deferredAt.isSome
    | _ => true
  onF s d (if en && go then s.gainStart d pathB else s)

/-- GAIN_CAL_COMPLETE (R54): after 2 ms; `ok` whether it succeeded (0x0508 where not, R60). -/
def execGainCalComplete (d : Nat) (pathB ok : Bool) (s : State) : Res :=
  let p := b2n pathB
  onF s d <|
    match (s.cal d p).gainSince with
    | none => s
    | some t =>
      if !s.due (t + 2 * Config.tMs) then s
      else
        let s := s.putB d (pathField pathB RFA_CTRL_gain_cal_start) false
        if ok then
          let s := s.setCal d p { s.cal d p with gainSince := none, lastDone := some s.now }
          let s := (s.put d (pathField pathB RFA_CAL_cal_temp) (s.get d PWR_TEMP_tj)).put d (pathField pathB RFA_CAL_cal_age) 0
          s.put d (pathField pathB RFA_CAL_fail_code) 0
        else
          let s := s.setCal d p { s.cal d p with gainSince := none }
          (s.put d (pathField pathB RFA_CAL_fail_code) 0x08).raise d 37 (arg 0 p + arg 2 0x0508)

end Sys2Proof.Machine
end

