-- ==== Sys2Proof/Machine/Transmit.lean ====
section
/-! DEFINITION. The transmit path and scheduler of an F-die: duty-cycle accounting, precedence, acknowledgements,
responses and downlinks, verdict and release messages (02_radio_reception R38 to R59, 03_timetable_mac R66 to R69,
R84). -/

namespace Sys2Proof.Machine

/-! ### Duty cycle (R55 to R57) -/

/-- The ramp time in ticks (RFT_POWER.ramp, 2 to 32 µs; other values act as 8). -/
def State.ramp (s : State) (d : Nat) : Nat :=
  let r := s.get d RFT_POWER_ramp
  (if 2 ≤ r ∧ r ≤ 32 then r else 8) * Config.tUs

/-- On-air time of a transmission in whole milliseconds, ramps included, rounded up (R56). -/
def State.frameMs (s : State) (d : Nat) (f : TxFrame) : Nat := (f.dur + 2 * s.ramp d + Config.tMs - 1) / Config.tMs

/-- The lowest-numbered valid band entry that wholly contains a frame (R55). -/
def State.bandOf (s : State) (d : Nat) (f : TxFrame) : Option Nat :=
  (List.range 8).find? (fun n =>
    let lo := s.get d RFT_DC_LOn_lo n
    let hi := s.get d RFT_DC_HIn_hi n
    decide (lo < hi ∧ lo ≤ f.lo ∧ f.hi ≤ hi))

def State.dcBuckets (s : State) (d n : Nat) : List Nat := (s.rad d).dc.getD n []
/-- RFT_DC_USED: the sum of an entry's 61 buckets. -/
def State.dcUsed (s : State) (d n : Nat) : Nat := (s.dcBuckets d n).sum

def State.setBuckets (s : State) (d n : Nat) (b : List Nat) : State :=
  let r := s.rad d
  let dc := r.dc ++ List.replicate (8 - r.dc.length) []
  s.setRad d { r with dc := dc.set n b }

/-- An entry's budget in ms per hour, and the share left to frames other than acknowledgements (R56). The spec does not say what
values outside their ranges do: an ack_reserve above 100 acts as 100, a lim above 100,000 is used as written (DESIGN CHOICE, assumption
log 63). -/
def State.dcBudget (s : State) (d n : Nat) : Nat := s.get d RFT_DC_LIMn_lim n * 36
def State.dcUnreserved (s : State) (d n : Nat) : Nat :=
  s.dcBudget d n * (100 - min 100 (s.get d RFT_DC_LIMn_ack_reserve n)) / 100

/-- Bells count as acknowledgements (R65); downlinks and broadcast blocks do not (R80). A host downlink that goes in place of a
wireless M-Bus response counts as the acknowledgement it replaces, which the spec does not say (DESIGN CHOICE, assumption log 63). -/
def TxKind.reserved : TxKind → Bool
  | .bell => true
  | .ack => true
  | .wmbResp => true
  | .downlink => false
  | .broadcast => false

/-- The check of R56: the refusing status, or the band entry. -/
def State.dcCheck (s : State) (d : Nat) (f : TxFrame) : Nat ⊕ Nat :=
  match s.bandOf d f with
  | none => .inl 0x0502
  | some n =>
    let budget := if f.kind.reserved then s.dcBudget d n else s.dcUnreserved d n
    if budget < s.dcUsed d n + s.frameMs d f then .inl 0x0501 else .inr n

/-- F-042 for an entry (R57): raised when its use first exceeds 90 % of the unreserved budget, which is not rounded here; re-armed
at or below it. -/
def State.dcWatch (s : State) (d n : Nat) : State :=
  let r := s.rad d
  let res := min 100 (s.get d RFT_DC_LIMn_ack_reserve n)
  let share := if res = 100 then 100 else 100 - res
  let above := decide (s.dcBudget d n * share * 90 < s.dcUsed d n * 10000)
  let was := r.f042.getD n false
  let s := s.setRad d { r with f042 := (r.f042 ++ List.replicate (8 - r.f042.length) false).set n above }
  if above && !was then s.raise d 42 (arg 0 n) else s

/-- Account a transmission to its band entry (R56). -/
def State.dcCharge (s : State) (d n ms : Nat) : State :=
  let b := s.dcBuckets d n
  (s.setBuckets d n (match b with
    | [] => [ms]
    | x :: xs => (x + ms) :: xs)).dcWatch d n

/-- DC_BUCKET_ROLL (R56): every 60 s the oldest bucket drops out. -/
def execDcBucketRoll (d : Nat) (s : State) : Res :=
  onF s d <|
    let r := s.rad d
    if !s.due (r.dcRolled + 60 * Config.tS) then s
    else
      let s := s.setRad d { r with dcRolled := s.now }
      (List.range 8).foldl (fun s n => (s.setBuckets d n (0 :: (s.dcBuckets d n).take 60)).dcWatch d n) s

/-! ### Frames that are not sent -/

def State.setTxq (s : State) (d : Nat) (q : List TxFrame) : State := s.setRad d { s.rad d with txq := q }

/-- Raise one of the once-a-second events of the transmit side: 41, 46 or 49. -/
def State.raiseLim (s : State) (d n args : Nat) : State :=
  let r := s.rad d
  if n = 41 then
    if limiterOpen r.lim041 s.now Config.tS then (s.setRad d { r with lim041 := some s.now }).raise d 41 args else s
  else if n = 46 then
    if limiterOpen r.lim046 s.now Config.tS then (s.setRad d { r with lim046 := some s.now }).raise d 46 args else s
  else
    if limiterOpen r.lim049 s.now Config.tS then (s.setRad d { r with lim049 := some s.now }).raise d 49 args else s

/-- The completion of a host downlink (R214, R217: sent, attempts). -/
def State.dlDone (s : State) (dl : Option Dl) (status sent attempts : Nat) : State :=
  match dl with
  | none => s
  | some x =>
    match x.cmd with
    | none => s
    | some id => s.complete id status (leBytes 8 sent ++ leBytes 1 attempts)

/-- The downlinks that a frame carries, or that were to follow it, are not sent (R69, R99, R214, R217): their commands complete with
the status that the frame met. -/
def State.carriedDone (s : State) (f : TxFrame) (status sent : Nat) : State :=
  (s.dlDone f.dl status sent 1).dlDone f.follow status 0 1

/-- The campaign ends: done is set, the bell stops announcing it and F-048 is raised (R81). -/
def State.campEnd (s : State) (d : Nat) : State :=
  let s := (s.putB d TT_CAMP_PROG_running false).putB d TT_CAMP_PROG_done true
  let s := s.setRad d { s.rad d with campaign := { (s.rad d).campaign with abort := false } }
  s.raise d 48 (arg 0 (s.get d TT_CAMP_CFG_camp_id))

/-- The campaign has sent its last block, or an abort waits for the block boundary (R81). -/
def State.campCheck (s : State) (d : Nat) : State :=
  let c := (s.rad d).campaign
  if s.flag d TT_CAMP_PROG_running &&
      (c.abort || decide (s.get d TT_CAMP_BLOCKS_blocks * max 1 (s.get d TT_CAMP_CFG_rounds) ≤ c.sent))
  then s.campEnd d else s

/-- A bell is omitted (R65). -/
def State.bellMiss (s : State) (d n : Nat) : State := (s.inc d TT_BELL_MISS_CNT).raise d 45 (arg 0 n)

/-- A frame that the transmit path refuses or returns with a status (R39, R56, R57, R59). `limited`: F-041 at most
once a second (R59). -/
def State.txRefuse (s : State) (d : Nat) (f : TxFrame) (status : Nat) (limited : Bool) : State :=
  let note (s : State) : State :=
    let s := s.inc d RFT_REFUSE_CNT
    if limited then s.raiseLim d 41 (arg 0 status)
    else if status = 0x0501 ∨ status = 0x0502 then s.raise d 41 (arg 0 status) else s
  match f.kind with
  | .downlink => (if limited then s else note s).carriedDone f status 0
  | .bell => (note s).bellMiss d f.tt
  | .ack => (note s).carriedDone f status 0
  | .wmbResp => (note s).carriedDone f status 0
  | .broadcast => (note s).campCheck d

/-- A frame displaced by another (R69). -/
def State.txDisplace (s : State) (d : Nat) (f : TxFrame) : State :=
  match f.kind with
  | .downlink => s.carriedDone f 0x050C 0
  | .bell => s.bellMiss d f.tt
  | .ack => ((s.inc d TT_TX_CONFLICT_CNT).raiseLim d 46 (arg 0 f.tt)).carriedDone f 0x050C 0
  | .wmbResp => ((s.inc d TT_TX_CONFLICT_CNT).raiseLim d 49 0).carriedDone f 0x050C 0
  | .broadcast => s.campCheck d

/-! ### Precedence (R69) -/

def TxKind.rank : TxKind → Nat
  | .bell => 0
  | .ack => 1
  | .wmbResp => 2
  | .downlink => 3
  | .broadcast => 4

/-- `a` takes precedence over `b`: kind, then the earlier last bit of acknowledgements, the earlier start and the
lower timetable of bells. -/
def txBefore (a b : TxFrame) : Bool :=
  if a.kind.rank ≠ b.kind.rank then decide (a.kind.rank < b.kind.rank)
  else if a.kind = .ack then decide (a.lastBit ≤ b.lastBit)
  else if a.kind = .bell then decide (a.start < b.start) || (decide (a.start = b.start) && decide (a.tt ≤ b.tt))
  else decide (a.start ≤ b.start)

/-- From the start of the settling state to the end of ramp-down (R69). -/
def State.txOverlap (s : State) (d : Nat) (a b : TxFrame) : Bool :=
  let r := 2 * s.ramp d
  decide (a.start < b.start + b.dur + r + 60 * Config.tUs) && decide (b.start < a.start + a.dur + r + 60 * Config.tUs)

/-- A frame enters the transmit scheduler; with the path disabled it is returned at once (R59). -/
def State.txEnqueue (s : State) (d : Nat) (f : TxFrame) : State :=
  if s.flag d RFT_CTRL_enable then s.setTxq d ((s.rad d).txq ++ [f])
  else s.txRefuse d f 0x0506 true

/-- The frame that is next for the path: the queued one that starts first. -/
def nextQueued (q : List TxFrame) : Option TxFrame :=
  q.foldl (fun acc f => if f.stage != .queued then acc else
    match acc with
    | none => some f
    | some g => if f.start < g.start then some f else acc) none

/-- Replace the first frame equal to `f`. -/
def replaceTx (f : TxFrame) (g : Option TxFrame) : List TxFrame → List TxFrame
  | [] => []
  | x :: xs => if x = f then (match g with
      | some y => y :: xs
      | none => xs) else x :: replaceTx f g xs

/-- The key of a valid Locker slot of a die. -/
def State.lockKey (s : State) (d n : Nat) : Option Bytes := (smGet (s.com1 d).lock.slots n).map (fun x => x.key)

/-- The key that a frame was built with is gone (R65, R141): the bell key of a bell, the broadcast key of a block. -/
def State.keyGone (s : State) (d : Nat) (f : TxFrame) : Bool :=
  match f.kind with
  | .bell => (s.lockKey d (16 + f.tt)).isNone
  | .broadcast => (s.lockKey d (24 + f.tt)).isNone
  | .ack | .wmbResp | .downlink => false

/-- A bell is omitted, or a block withheld at its campaign position, because its key has become invalid (R65). -/
def State.txWithhold (s : State) (d : Nat) (f : TxFrame) : State :=
  if f.kind = .bell then s.bellMiss d f.tt else s.campCheck d

/-- TX_HANDOVER (R39, R56, R65, R69): the scheduler hands the next frame to the transmit path. -/
def execTxHandover (d : Nat) (s : State) : Res :=
  onF s d <| if s.stopped d then s else
    let q := (s.rad d).txq
    match nextQueued q with
    | none => s
    | some f0 =>
      let f := if f0.asap then { f0 with start := s.devTime d + 100 * Config.tUs, asap := false } else f0
      let q := replaceTx f0 (some f) q
      let s := s.setTxq d q
      let others := (replaceTx f none q).filter (fun g => s.txOverlap d f g)
      let started := others.filter (fun g => g.stage = .settling || g.stage = .onAir)
      let beaten := others.any (fun g => txBefore g f && !txBefore f g) || others.any (fun g => g.stage = .handed && txBefore g f)
      if s.keyGone d f then (s.setTxq d (replaceTx f none q)).txWithhold d f
      else if !started.isEmpty || beaten then (s.setTxq d (replaceTx f none q)).txDisplace d f
      else if f.start < s.devTime d + 100 * Config.tUs then (s.setTxq d (replaceTx f none q)).txRefuse d f 0x0503 false
      else
        let lose := others.filter (fun g => g.stage = .handed)
        let s := lose.foldl (fun s g => (s.setTxq d (replaceTx g none (s.rad d).txq)).txDisplace d g) s
        match s.dcCheck d f with
        | .inl st => (s.setTxq d (replaceTx f none (s.rad d).txq)).txRefuse d f st false
        | .inr n =>
          let s := s.setTxq d (replaceTx f (some { f with stage := .handed, handedAt := s.devTime d }) (s.rad d).txq)
          s.dcCharge d n (s.frameMs d f)

/-- FEM_SETTLING_START (R39 to R41): 60 µs before ramp-up of a handed frame; `locked`: the synthesizer is locked.
Blank paths are blanked and their frames aborted. -/
def execFemSettlingStart (d : Nat) (locked : Bool) (s : State) : Res :=
  onF s d <| if s.stopped d then s else
    let q := (s.rad d).txq
    match q.find? (fun f => f.stage == .handed && decide (f.start ≤ s.devTime d + 60 * Config.tUs)) with
    | none => s
    | some f =>
      let s := s.putB d RFT_STAT_pll_lock locked
      if s.keyGone d f then (s.setTxq d (replaceTx f none q)).txWithhold d f
      else if !locked then (s.setTxq d (replaceTx f none q)).txRefuse d f 0x0504 false
      else
        let s := s.setTxq d (replaceTx f (some { f with stage := .settling }) q)
        ((s.femRefresh d).putB d RFT_STAT_busy true).blankNow d

/-- RAMP_UP_START (R40): at the scheduled tick the front end enters state 4. -/
def execRampUpStart (d : Nat) (s : State) : Res :=
  onF s d <| if s.stopped d then s else
    let q := (s.rad d).txq
    match q.find? (fun f => f.stage == .settling && decide (f.start ≤ s.devTime d)) with
    | none => s
    | some f =>
      (s.setTxq d (replaceTx f (some { f with stage := .onAir }) q)).femRefresh d

/-- The transmission is over: the front end leaves its state and blanked paths hear again (R40, R41). -/
def State.txOver (s : State) (d : Nat) (f : TxFrame) : State :=
  (((s.setTxq d (replaceTx f none (s.rad d).txq)).femRefresh d).putB d RFT_STAT_busy false).deafRefresh d

/-- The target power in 0.5 dB units; values above +16 act as +16, and in thermal stage 2 those above 0 dBm as 0 dBm (R339). The spec
does not say what values below −44 do: they are used as written (DESIGN CHOICE, assumption log 63). -/
def State.txTarget (s : State) (d : Nat) : Int := min (if s.get d PWR_STAT_stage = 2 then 0 else 16) (s.getZ d RFT_POWER_power)

/-- TX_POWER_CHECK (R38): 20 µs after ramp-up; a power error above 2 dB aborts the transmission with 0x0505. -/
def execTxPowerCheck (d measured : Nat) (s : State) : Res :=
  onF s d <|
    match (s.rad d).txq.find? (fun f => f.stage == .onAir) with
    | none => s
    | some f =>
      if s.devTime d < f.start + s.ramp d + 20 * Config.tUs then s
      else
        let s := s.put d RFT_STAT_measured measured
        if (toSigned 8 measured - s.txTarget d).natAbs ≤ 4 then s
        else
          let s := (s.putB d RFT_STAT_power_fault true).raise d 43 (arg 0 measured)
          ((s.txOver d f).inc d RFT_REFUSE_CNT).carriedDone f 0x0505 f.start

/-- A broadcast block has been sent: the campaign's position advances (R80, R81). TT_CAMP_CFG and TT_CAMP_BLOCKS are read as they
stand, so that a write during a campaign takes effect: the spec does not say that camp_start latches them (DESIGN CHOICE, assumption
log 64). -/
def State.campAdvance (s : State) (d : Nat) : State :=
  let c := (s.rad d).campaign
  let blocks := s.get d TT_CAMP_BLOCKS_blocks
  let rounds := max 1 (s.get d TT_CAMP_CFG_rounds)
  let tt := s.get d TT_CAMP_CFG_tt
  let sent := c.sent + 1
  let cnt := smGetD c.counters 0 tt + 1
  let stored := if cnt % 4096 = 0 then smSet c.stored 0 tt cnt else c.stored
  let s := s.setRad d { s.rad d with campaign := { c with
    sent := sent, counters := smSet c.counters 0 tt (cnt % 2 ^ 32), stored := stored, lastEnd := s.devTime d } }
  let s := s.inc d TT_BC_CNT
  let s := s.put d TT_CAMP_PROG_percent (100 * sent / (max 1 (blocks * rounds)))
  if s.get d TT_CAMP_POS_block + 1 < blocks then s.put d TT_CAMP_POS_block (s.get d TT_CAMP_POS_block + 1)
  else (s.put d TT_CAMP_POS_block 0).put d TT_CAMP_POS_round (s.get d TT_CAMP_POS_round + 1)

/-- RAMP_DOWN_END (R40): a transmission ends and is counted. -/
def execRampDownEnd (d : Nat) (s : State) : Res :=
  onF s d <|
    match (s.rad d).txq.find? (fun f => f.stage == .onAir) with
    | none => s
    | some f =>
      if s.devTime d < f.start + f.dur + 2 * s.ramp d then s
      else
        let s := (s.txOver d f).inc d RFT_TX_CNT
        match f.kind with
        | .bell => s.inc d TT_BELL_CNT
        | .ack =>
          let s := s.inc d TT_ACK_CNT
          (match f.follow with
            | none => s
            | some dl => s.setRad d { s.rad d with follows := (s.rad d).follows ++
                [⟨dl, f.start + f.dur + 2 * s.ramp d + 1000 * Config.tUs, f.mode, f.centre, false⟩] })
        | .wmbResp => (s.inc d WMB_RESP_CNT).dlDone f.dl 0 f.start 1
        | .downlink => s.dlDone f.dl 0 f.start 1
        | .broadcast => (s.campAdvance d).campCheck d

/-- SYNTH_UNLOCK (R39): path 0 A, 1 B raise F-034, the transmit synthesizer (2) raises F-035. -/
def execSynthUnlock (d p : Nat) (s : State) : Res :=
  onF s d <|
    if p = 2 then (s.putB d RFT_STAT_pll_lock false).raise d 35
    else (s.putB d (pathField (p = 1) RFA_STAT_pll_lock) false).raise d 34 (arg 0 p)

/-- TX_PATH_DISABLE (R59): every frame whose settling has not begun is returned. -/
def execTxPathDisable (d : Nat) (s : State) : Res :=
  onF s d <|
    let s := s.putB d RFT_CTRL_enable false
    let q := (s.rad d).txq
    let out := q.filter (fun f => f.stage == .queued || f.stage == .handed)
    let s := s.setTxq d (q.filter (fun f => f.stage == .settling || f.stage == .onAir))
    out.foldl (fun s f => s.txRefuse d f 0x0506 true) s

/-- RFT_DC_LOCK (R57): the band entries become read-only until the next reset of the die. -/
def execRftDcLock (d : Nat) (s : State) : Res := onF s d (s.putB d RFT_CTRL_dc_lock true)

/-! ### Acknowledgements and responses (R66 to R68, R84) -/

/-- The acknowledgement frame of R66 for a frame's bytes and the 12 bytes of ack_params. -/
def ackFrame (frame : Bytes) (eui ttEui ack : Bytes) : Bytes :=
  let m := parseMhr frame
  let seq := match m with
    | some m => m.seq.getD 0
    | none => 0
  let ctr := match m with
    | some m => m.counter
    | none => 0
  -- frame control: type 2, security, PAN compression, version 2, both addresses extended
  let fc := 0x2 + 0x8 + 0x40 + 0x2000 + 0xC00 + 0xC000
  withFcs (leBytes 2 fc ++ leBytes 1 seq ++ eui ++ ttEui ++ leBytes 1 5 ++ leBytes 4 ctr ++ slice ack 0 12)

/-- The wireless M-Bus ACK frame of R84: L, C 0x00, the device's M- and A-field. -/
def wmbAck (s : State) (d mode : Nat) : Bytes :=
  let body := leBytes 1 9 ++ leBytes 1 0 ++ leBytes 2 (s.get d WMB_ADDR_M_m_field)
    ++ leBytes 4 (s.get d WMB_ADDR_A_LO_a_lo) ++ leBytes 2 (s.get d WMB_ADDR_A_HI_a_hi)
  if mode = 0x13 then wmbFormatB (leBytes 1 11 ++ body.drop 1) else wmbFormatA body

/-- The response delay of a mode (R84). -/
def State.wmbDelay (s : State) (d mode : Nat) : Nat :=
  s.get d (if mode = 0x10 then WMB_RESP_S_delay else if mode = 0x11 then WMB_RESP_T_delay
    else if mode = 0x12 ∨ mode = 0x13 then WMB_RESP_C_delay else WMB_RESP_N_delay) * Config.tUs

/-- The answer that a verdict calls for on a frame held in an entry, if any (R66, R83, R84). A SUN frame for which the L-die returns
no acknowledgement parameters belongs to no timetable and gets none (R63). -/
def State.answer (s : State) (d h : Nat) (e : Hold) (x : Ctx) (v : Verdict) (ack : Bytes) (follow : Option Dl) :
    Option AckWait :=
  let centre := (s.slotCentre d x.slot).toNat
  let last := e.lastBit.getD 0
  if modeIsSun x.mode then
    match x.tt with
    | none => none
    | some t =>
      if (v = .accept ∨ v = .duplicate ∨ v = .deferred) ∧ ack.isEmpty = false then
        some { wmb := false, hold := h, tt := t, due := last + x.ackDelay, dur := sunTicks x.mode x.fec 38,
               lo := centre - txBand x.mode / 2, hi := centre + (txBand x.mode + 1) / 2,
               bytes := ackFrame e.bytes x.identity x.ttEui ack, lastBit := last, identity := x.identity,
               follow := follow, mode := x.mode, centre := centre }
      else none
  else if (v = .accept ∨ v = .duplicate) ∧ bit (leField ack 0 1) 0 = true ∧ s.flag d WMB_CTRL_resp_en = true then
    let b := match follow with
      | some dl => airFrame x.mode dl.bytes
      | none => wmbAck s d x.mode
    let c := txCentre x.mode centre
    some { wmb := true, hold := h, tt := 0, due := last + s.wmbDelay d x.mode, dur := wmbTicks x.mode b.length,
           lo := c - txBand x.mode / 2, hi := c + (txBand x.mode + 1) / 2, bytes := b, lastBit := last,
           identity := x.identity, follow := follow, mode := x.mode, centre := c }
  else none

/-- An acknowledgement for the same identity and last bit (within 2 µs) is already under way (R68). -/
def State.ackTwin (s : State) (d : Nat) (a : AckWait) : Bool :=
  (s.rad d).txq.any (fun f => (f.kind == .ack || f.kind == .wmbResp) && f.identity == a.identity
    && decide (f.lastBit ≤ a.lastBit + 2 * Config.tUs) && decide (a.lastBit ≤ f.lastBit + 2 * Config.tUs))

/-- A released answer goes to the scheduler if the release came at least 100 µs before it is due (R68); a late one
waits for ACK_DUE or WMB_RESPONSE_DUE to drop it. -/
def State.ackRelease (s : State) (d : Nat) (a : AckWait) : State :=
  if a.due < s.devTime d + 100 * Config.tUs then
    s.setRad d { s.rad d with acks := (s.rad d).acks ++ [{ a with released := some (s.devTime d) }] }
  else if s.ackTwin d a then s.dlDone a.follow 0x050C 0 1
  else
    s.txEnqueue d { kind := if a.wmb then .wmbResp else .ack, start := a.due, dur := a.dur, lo := a.lo, hi := a.hi,
                    bytes := a.bytes, tt := a.tt, lastBit := a.lastBit, identity := a.identity,
                    dl := if a.wmb then a.follow else none, follow := if a.wmb then none else a.follow,
                    mode := a.mode, centre := a.centre }

/-- The first message of a list addressed to a die, and the list without it. -/
def takeFirst {α : Type} (p : α → Bool) : List α → Option (α × List α)
  | [] => none
  | x :: xs => if p x then some (x, xs) else (takeFirst p xs).map (fun r => (r.1, x :: r.2))

/-- RELEASE_MESSAGE (R52): the hold entry is freed and the acknowledgement may go. -/
def State.doRelease (s : State) (d h : Nat) : State :=
  let s := match s.holdAt d h with
    | some e => if e.verdict.isSome then s.freeHold d h else s
    | none => s
  match takeFirst (fun a : AckWait => a.hold == h && a.released.isNone) (s.rad d).acks with
  | none => s
  | some (a, rest) => (s.setRad d { s.rad d with acks := rest }).ackRelease d a

def execReleaseMessage (d : Nat) (s : State) : Res :=
  onF s d <|
    match takeFirst (fun m : BackMsg => m.dst == d && m.body == .release) s.back with
    | none => s
    | some (m, rest) => ({ s with back := rest }).doRelease d m.hold

/-- A verdict message on its way to a die. -/
def isVerdictTo (d : Nat) (m : BackMsg) : Bool :=
  m.dst == d && (match m.body with
    | .verdict .. => true
    | .release => false)

/-- The unreleased answers of an earlier verdict on a hold entry go, when its frame has been replayed (R29): the downlink that one of
them carried is taken over by the new answer. -/
def State.staleAnswer (s : State) (d h : Nat) (follow : Option Dl) : Option Dl × State :=
  let r := s.rad d
  let old := r.acks.filter (fun a => a.hold == h && a.released.isNone)
  (follow.or (old.findSome? (fun a => a.follow)),
    s.setRad d { r with acks := r.acks.filter (fun a => !(a.hold == h && a.released.isNone)) })

/-- VERDICT_MESSAGE (R29, R43, R52): the verdict is latched, the context returns to the pool, and the
acknowledgement is scheduled or the hold entry freed. A frame that was replayed after an earlier verdict has no context any more: its
hold entry keeps what the answer needs. A verdict for a power-line frame (contexts from 128 on) only frees the entry (R93). A downlink
that was to go with an answer that is not sent completes with 0x0503 (DEDUCED, assumption log 63). -/
def State.latchVerdict (s : State) (d c h : Nat) (v : Verdict) (co unprot : Bool) (ack : Bytes) (follow : Option Dl) :
    State :=
  let cx := match s.ctx d c with
    | some x => if x.hold = h then some x else none
    | none => none
  let free (s : State) : State := if cx.isSome then s.freeCtx d c else s
  match s.holdAt d h with
  | none => (free s).dlDone follow 0x0503 0 1
  | some e =>
    let t := s.staleAnswer d h follow
    let follow := t.1
    let s := t.2
    let rx := cx.or e.rx
    let ans := match rx with
      | some x => if co then none else s.answer d h e x v ack follow
      | none => none
    let s := free s
    let s := if ans.isNone then s.dlDone follow 0x0503 0 1 else s
    if v = .accept ∧ unprot = false ∧ e.plc = false then
      let s := s.setHold d h { e with verdict := some v, rx := rx }
      (match ans with
        | none => s
        | some a => s.setRad d { s.rad d with acks := (s.rad d).acks ++ [a] })
    else
      let s := s.freeHold d h
      match ans with
      | none => s
      | some a =>
        if v = .duplicate ∧ unprot = false then s.setRad d { s.rad d with acks := (s.rad d).acks ++ [a] }
        else s.ackRelease d a

/-- ACK_DUE (R68): an acknowledgement not released 100 µs before its instant is dropped; a downlink that was to follow it is not
sent either. -/
def execAckDue (d : Nat) (s : State) : Res :=
  onF s d <|
    match takeFirst (fun a : AckWait => !a.wmb && decide (a.due ≤ s.devTime d)) (s.rad d).acks with
    | none => s
    | some (a, rest) =>
      (((s.setRad d { s.rad d with acks := rest }).inc d TT_ACK_LATE_CNT).raiseLim d 46 (arg 0 a.tt)).dlDone a.follow 0x0503 0 1

/-- WMB_RESPONSE_DUE (R84): a response not released in time is dropped; a downlink that replaced it is not sent. -/
def execWmbResponseDue (d : Nat) (s : State) : Res :=
  onF s d <|
    match takeFirst (fun a : AckWait => a.wmb && decide (a.due ≤ s.devTime d)) (s.rad d).acks with
    | none => s
    | some (a, rest) =>
      ((((s.setRad d { s.rad d with acks := rest }).inc d WMB_RESP_LATE_CNT).raiseLim d 49 0)).dlDone a.follow 0x0503 0 1

/-- DOWNLINK_FOLLOW_SEND (R69): the downlink goes 1,000 µs after the end of its acknowledgement. -/
def execDownlinkFollowSend (d : Nat) (s : State) : Res :=
  onF s d <|
    match (s.rad d).follows with
    | [] => s
    | p :: rest =>
      let s := s.setRad d { s.rad d with follows := rest }
      s.txEnqueue d { kind := .downlink, start := p.start, dur := sunTicks p.mode p.fec (p.dl.bytes.length + 2),
                      lo := p.centre - txBand p.mode / 2, hi := p.centre + (txBand p.mode + 1) / 2,
                      bytes := airFrame p.mode p.dl.bytes, dl := some p.dl, mode := p.mode, centre := p.centre }

/-! ### Hold buffer time-outs, partition table (R20, R24, R262) -/

/-- A hold entry goes, with the context that still holds its frame. -/
def State.freeFrame (s : State) (d h c : Nat) : State :=
  let own := match s.ctx d c with
    | some x => x.hold == h
    | none => false
  if own then (s.freeHold d h).freeCtx d c else s.freeHold d h

/-- HOLD_TIMEOUT (R24): 1 s + 10 ms after its last bit a frame without a verdict is freed with its context; F-064. -/
def execHoldTimeout (d h : Nat) (s : State) : Res :=
  onF s d <|
    match s.holdAt d h with
    | none => s
    | some e =>
      match e.lastBit with
      | none => s
      | some t =>
        if e.verdict.isSome || e.noOwnerSince.isSome || decide (s.devTime d < t + 1010 * Config.tMs) then s
        else ((s.freeFrame d h e.ctx).raise d 64 (arg 0 1)).plcDrained d

/-- HOLD_NO_OWNER_TIMEOUT (R262): frames held for 1 s for a pair with no Active die are discarded; F-064 with their
number. -/
def execHoldNoOwnerTimeout (d : Nat) (s : State) : Res :=
  onF s d <|
    let out := (s.rad d).hold.filter (fun p => match p.2.noOwnerSince with
      | some t => s.due (t + Config.tS)
      | none => false)
    if out.isEmpty then s
    else ((out.foldl (fun s p => s.freeFrame d p.1 p.2.ctx) s).raise d 64 (arg 0 out.length)).plcDrained d

/-- Send a held frame to an owner from its hold entry: header, bytes and, where the last bit has come, the trailer. -/
def State.replay (s : State) (d h o : Nat) (e : Hold) : State :=
  match e.header with
  | none => s
  | some hd =>
    let s := s.sendHand ⟨d, o, e.ctx, h, .header hd⟩
    let s := s.sendData d o e.ctx h 0 e.bytes
    let s := match e.trailer with
      | some t => s.sendHand ⟨d, o, e.ctx, h, .trailer t e.bytes.length []⟩
      | none => s
    let s := s.setHold d h { e with owner := some o, noOwnerSince := none, verdict := none }
    match s.ctx d e.ctx with
    | some x => if x.hold = h then s.setCtx d e.ctx { x with owner := some o, headerSent := true, sent := x.bytes.length }
                else s
    | none => s

/-- Insert a hold entry in last-bit order; frames still in reception come last. -/
def byLastBit (a b : Nat × Hold) : Bool :=
  match a.2.lastBit, b.2.lastBit with
  | some x, some y => decide (x ≤ y)
  | some _, none => true
  | none, some _ => false
  | none, none => decide (a.1 ≤ b.1)

/-- The owner of an entry has changed or was missing: the frames whose table owner differs from the die they went to
are replayed in last-bit order (R20, R29); frames whose owner is gone are held. -/
def State.replayAll (s : State) (d : Nat) : State :=
  ((s.rad d).hold.mergeSort byLastBit).foldl (fun s p =>
    match p.2.header with
    | none => s
    | some hd =>
      match s.owner d hd.idHash with
      | none => s.setHold d p.1 { p.2 with owner := none, noOwnerSince := p.2.noOwnerSince.or (some s.now) }
      | some o => if p.2.owner = some o then s else s.replay d p.1 o p.2) s

/-- PARTITION_TABLE_PUBLISH (R20): the F-die takes the published table and replays held frames to the new owners. -/
def execPartitionTablePublish (d : Nat) (s : State) : Res :=
  onF s d <|
    match takeFirst (fun m : Nat × List (Nat × Nat) => m.1 == d) s.partPub with
    | none => s
    | some (m, rest) =>
      let s := { s with partPub := rest }
      (s.setRad d { s.rad d with part := m.2 }).replayAll d

end Sys2Proof.Machine
end

