-- ==== Sys2Proof/Machine/Plc.lean ====
section
/-! DEFINITION. The power-line modem of an F-die (04_powerline R89 to R109): reception and classification,
acknowledgement, transmission and CSMA/CA, the tone-map cache, zero crossing and phase. The MAC frame layout of
ITU-T G.9903 (segment control, then the IEEE 802.15.4 header) is PRESUMED (assumption log 6). -/

namespace Sys2Proof.Machine

/-! ### Addresses (R91, R92) -/

def State.plcEui (s : State) (d : Nat) : Bytes := leBytes 4 (s.get d PLC_EUI_LO_eui_lo) ++ leBytes 4 (s.get d PLC_EUI_HI_eui_hi)

/-- The identity of a short address: the entry in effect, if it is in the table and not empty. -/
def State.plcIdentity (s : State) (d a : Nat) : Option Bytes := if a < 8192 then smGet (s.plc d).shorts a else none

/-- The identity of an originator address of two or eight bytes. -/
def State.plcOriginator (s : State) (d : Nat) (a : Bytes) : Option Bytes :=
  if a.length = 8 then some a else if a.length = 2 then s.plcIdentity d (leNat a) else none

/-- The short address under which an identity stands in the table. -/
def State.plcShortOf (s : State) (d : Nat) (eui : Bytes) : Option Nat :=
  ((s.plc d).shorts.find? (fun p => p.2 == eui)).map (·.1)

/-- SHORT_ADDR_HIGH_WRITE (R92): the changed entry takes effect with its high word. -/
def State.plcHighWrite (s : State) (d a hi : Nat) : State :=
  let p := s.plc d
  if 8192 ≤ a then s
  else s.setPlc d { p with shorts := smSet p.shorts (fillBytes 8 0) a (leBytes 4 (smGetD p.lows 0 a) ++ leBytes 4 hi) }

def execShortAddrHighWrite (d a hi : Nat) (s : State) : Res := onF s d (s.plcHighWrite d a hi)

/-! ### Downlinks at the modem (R96, R99) -/

/-- A device downlink that was not delivered stays queued at the L-die (R99): a relay downlink is put back in the
meter's record if none has taken its place; a key change stays staged by itself. -/
def State.relayBack (s : State) (dl : Dl) : State :=
  match dl.relay, s.handleDie dl.handle with
  | some r, some o =>
    let slot := dl.handle % 2 ^ 20
    (match smGet (s.l o).recs slot with
      | some m =>
        if m.relay.isSome then s
        else
          let m := { m with relay := some r }
          ((s.setRecs o (smPut (s.l o).recs slot m)).mirAdd o (.record slot m)).mirSend o
      | none => s)
  | _, _ => s

/-- A downlink at the modem ends. -/
def State.plcDone (s : State) (dl : Option Dl) (status sent attempts : Nat) : State :=
  match dl with
  | none => s
  | some x => if x.cmd.isSome then s.dlDone dl status sent attempts else if status = 0 then s else s.relayBack x

/-- The order of R96: tone map responses, then downlinks by priority. -/
def PlcTx.rank (t : PlcTx) : Nat := if t.kind = .tmResp then 0 else if t.high then 1 else 2

/-- The back-off of a frame in contention (R100): a high-priority frame draws a slot of the priority contention window, another one of
2^BE slots after that window. -/
def State.plcDraw (s : State) (d : Nat) (t : PlcTx) : State :=
  let hp := max 1 (s.get d PLC_CSMA_hp_window)
  let r := s.freeBelow (if t.high then hp else 2 ^ t.be)
  let k := if t.high then r.1 else hp + r.1
  let at_ := s.devTime d + k * s.get d PLC_CSMA_SLOT_slot_time * Config.tUs
  r.2.setPlc d { r.2.plc d with cur := some { t with readyAt := at_ } }

/-- The next transmission takes the transmitter (R96): the first of the highest rank, which one still in contention gives way to. -/
def State.plcNext (s : State) (d : Nat) : State :=
  let p := s.plc d
  let q : List PlcTx := match p.cur with
    | some t => if t.stage = PlcTxStage.contending then t :: p.queue else []
    | none => p.queue
  match (q.find? (fun t => t.rank == 0)).or ((q.find? (fun t => t.rank == 1)).or q.head?) with
  | none => s
  | some t =>
    if p.cur = some t then s
    else
      let t' := if t.nb = 0 ∧ t.retries = 0 then { t with be := s.get d PLC_CSMA_min_be } else t
      (s.setPlc d { p with queue := q.erase t }).plcDraw d t'

/-- A transmission is queued; with the modem not running a downlink completes with 0x0601. -/
def State.plcQueue (s : State) (d : Nat) (t : PlcTx) : State :=
  if s.get d PLC_STAT_state = 1 then
    let p := s.plc d
    (s.setPlc d { p with queue := p.queue ++ [t] }).plcNext d
  else s.plcDone t.dl 0x0601 0 0

/-- The transmission at hand has ended with a status. -/
def State.plcEnd (s : State) (d : Nat) (t : PlcTx) (status : Nat) : State :=
  let s := s.setPlc d { s.plc d with cur := none }
  let s := s.plcDone t.dl status (if status = 0 then t.start else 0) (t.retries + 1)
  (s.plcNext d).plcDrained d

/-! ### MAC frames -/

/-- Segment control: last segment of an unsegmented frame of `n` payload bytes (PRESUMED layout). -/
def segControl (n : Nat) : Bytes := beBytes 3 (0x10000 + n % 1024)

/-- The tone-map request bit of a frame (R97). -/
def setTmr (b : Bytes) (on : Bool) : Bytes :=
  let x := leField b 0 1
  if on then putBytes b 0 (leBytes 1 (x ||| 8)) else b

/-- A tone map response (PRESUMED layout of the command payload). -/
def tmRespPayload (map mod gain lqi : Nat) : Bytes :=
  leBytes 1 0x0A ++ leBytes 1 (gain % 32 + 64 * (mod % 4)) ++ leBytes 3 map ++ leBytes 1 lqi

/-- A MAC frame from the device to a neighbour: short or extended destination, short source, PAN compressed. -/
def State.plcFrame (s : State) (d ftype : Nat) (ackReq : Bool) (dst payload : Bytes) : Bytes × State :=
  let p := s.plc d
  let dm := if dst.length = 8 then 3 else 2
  let fc := ftype + 32 * b2n ackReq + 0x40 + dm * 0x400 + 0x1000 + 0x8000
  (segControl payload.length ++ leBytes 2 fc ++ leBytes 1 p.dsn ++ leBytes 2 (s.get d PLC_ADDR_pan) ++ dst
      ++ leBytes 2 (s.get d PLC_ADDR_short) ++ payload,
    s.setPlc d { p with dsn := (p.dsn + 1) % 256 })

/-- Queue a tone map response to a neighbour; the gain adjustment asked for is a free value. -/
def State.sendTmResp (s : State) (d short : Nat) (e : ToneMap) : State :=
  let g := s.freeBelow 32
  let f := g.2.plcFrame d 3 false (leBytes 2 short) (tmRespPayload e.rxMap e.rxMod g.1 e.lqi)
  f.2.plcQueue d { kind := .tmResp, bytes := f.1 }

/-- The frame around a device downlink (R99): direct to the meter, or with a mesh header through the neighbour the
Accepted frame came from. -/
def State.plcDeviceFrame (s : State) (d : Nat) (e : Hold) (dl : Dl) : Bytes × State :=
  let port := s.get d PLC_PORT_meter_port
  let short := s.plcShortOf d dl.identity
  let dst := match short with
    | some a => leBytes 2 a
    | none => dl.identity
  let inner := plcHeaders port dl.bytes
  if !e.meshed then s.plcFrame d 1 true dst inner
  else
    let mesh := leBytes 1 (0x80 + 0x20 + (if dst.length = 8 then 0 else 0x10) + 15) ++ leBytes 1 15
      ++ leBytes 2 (s.get d PLC_ADDR_short) ++ dst
    s.plcFrame d 1 true e.plcMac (mesh ++ inner)

/-- The downlink that follows a verdict at the modem (R93, R99). -/
def State.plcFollow (s : State) (d : Nat) (e : Hold) (dl : Dl) : State :=
  if dl.cmd.isSome then
    s.plcQueue d { kind := .downlink, high := bit dl.flags 2, bytes := dl.bytes,
                   gmk := if bit dl.flags 4 then some (b2n (bit dl.flags 5)) else none, dl := some dl }
  else
    let f := s.plcDeviceFrame d e dl
    f.2.plcQueue d { kind := .downlink, high := dl.dev == 2, bytes := f.1, dl := some dl }

/-- VERDICT_MESSAGE (R29, R52, R93): the verdict is latched; for a power-line frame the modem takes the downlink that
follows. -/
def execVerdictMessage (d : Nat) (s : State) : Res :=
  onF s d <|
    match takeFirst (isVerdictTo d) s.back with
    | none => s
    | some (m, rest) =>
      let s := { s with back := rest }
      match m.body with
      | .verdict v co unprot _ ack follow =>
        let e := s.holdAt d m.hold
        if m.ctx < 128 then s.latchVerdict d m.ctx m.hold v co unprot ack follow
        else
          (match e, follow with
            | some e, some dl => (s.freeHold d m.hold).plcFollow d e dl
            | none, some _ => s.plcDone follow 0x0605 0 0
            | _, none => s.freeHold d m.hold).plcDrained d
      | .release => s

/-- Security of a frame under a group master key (R213): an auxiliary security header of level 5 with the key's index
and the modem's frame counter, then the CCM* ciphertext (PRESUMED). The refusing status, or the frame. -/
def State.plcSecure (s : State) (d k : Nat) (b : Bytes) : (Nat ⊕ Bytes) × State :=
  match s.keyCheck d (32 + k) useEncrypt, parseMhr (b.drop 3) with
  | .inl st, _ => (.inl st, s.lockRefuse d (32 + k) st)
  | .inr _, none => (.inl 0x0604, s)
  | .inr x, some h =>
    let p := s.plc d
    let m := b.drop 3
    let fc := leField m 0 2 ||| 8
    let mhr := leBytes 2 fc ++ slice m 2 (h.addrLen - 2) ++ leBytes 1 13 ++ leBytes 4 p.macCtr ++ leBytes 1 k
    let c := ccmSeal x.key (stdNonce (s.plcEui d) p.macCtr 5) mhr (m.drop h.addrLen) 4
    (.inr (b.take 3 ++ mhr ++ c), (s.keyUsed d (32 + k) x).setPlc d { p with macCtr := p.macCtr + 1 })

/-! ### Tone maps (R97, R102, R103) -/

def toneBits (m : Nat) : Nat := [1, 1, 2, 3].getD m 1

/-- Subbands of the band in use. -/
def State.subbands (s : State) (d : Nat) : Nat := if s.flag d PLC_CTRL_band then 24 else 6

def State.toneThr (s : State) (d m : Nat) : Int :=
  s.getZ d ([PLC_TM_THR_thr_robust, PLC_TM_THR_thr_dbpsk, PLC_TM_THR_thr_dqpsk, PLC_TM_THR_thr_d8psk].getD m PLC_TM_THR_thr_robust)

/-- The subbands whose SNR is at least a level, as a map. -/
def toneAbove (n : Nat) (snr : List Int) (lvl : Int) : Nat :=
  (List.range n).foldl (fun a i => if lvl ≤ snr.getD i (-128) then a + 2 ^ i else a) 0

def toneCount (map : Nat) : Nat := ((List.range 24).filter (fun i => map.testBit i)).length

/-- The best candidate map of a frame: modulation and map. -/
def State.toneBest (s : State) (d : Nat) (snr : List Int) : Nat × Nat :=
  let cand (m : Nat) : Nat × Nat := (m, toneAbove (s.subbands d) snr (s.toneThr d m + s.get d PLC_TM_margin))
  let val (c : Nat × Nat) : Nat := toneCount c.2 * toneBits c.1
  [1, 2, 3].foldl (fun b m => if val b < val (cand m) then cand m else b) (cand 0)

/-- Robust on all subbands. -/
def State.toneRobust (s : State) (d : Nat) : Nat × Nat := (0, 2 ^ s.subbands d - 1)

/-- The map that a frame brings: the best candidate, or robust on all subbands where none meets the robust threshold. -/
def State.toneNew (s : State) (d : Nat) (snr : List Int) : Nat × Nat :=
  if toneAbove (s.subbands d) snr (s.toneThr d 0) = 0 then s.toneRobust d else s.toneBest d snr

/-- Payload symbols that the impulse detector erases (R103). -/
def State.erased (s : State) (d : Nat) (m : PlcMeas) : Nat :=
  let thr := if s.get d PLC_IMP_thr = 0 then 6 else s.get d PLC_IMP_thr
  (m.symbols.filter (fun y => y.2 || decide (Int.ofNat thr ≤ y.1))).length

/-- The lqi of a power-line frame (R50): 6 times the mean SNR of the subbands, rounded, 0 to 255. -/
def State.plcLqi (s : State) (d : Nat) (m : PlcMeas) : Nat :=
  let n := s.subbands d
  let sum := (List.range n).foldl (fun a i => a + m.snr.getD i (-128)) 0
  min 255 ((12 * sum + n) / (2 * n)).toNat

def State.setTone (s : State) (d i : Nat) (e : ToneMap) : State :=
  s.setPlc d { s.plc d with tones := smPut (s.plc d).tones i e }

/-- The cache entry of a neighbour, by index. -/
def State.toneOf (s : State) (d short : Nat) : Option (Nat × ToneMap) :=
  (s.plc d).tones.find? (fun p => p.2.short == short)

/-- Seconds since an instant, and minutes. -/
def State.secsSince (s : State) (t : Nat) : Nat := (s.now - t) / 100000000

/-- A new cache entry (R102): a free place, else that of the oldest entry if it is 60 s old, else F-052. -/
def State.toneCreate (s : State) (d short : Nat) (m : PlcMeas) : State :=
  let p := s.plc d
  let b := s.toneNew d m.snr
  let e : ToneMap := { short := short, eui := (s.plcIdentity d short).getD (fillBytes 8 0), rxMap := b.2, rxMod := b.1,
                       lqi := s.plcLqi d m, heardAt := s.now }
  match firstFree p.tones 4096 0 with
  | some i => s.setTone d i e
  | none =>
    let old := p.tones.foldl (fun (o : Option (Nat × ToneMap)) x => match o with
      | none => some x
      | some y => if x.2.heardAt < y.2.heardAt then some x else some y) none
    match old with
    | some (i, x) =>
      if 60 ≤ s.secsSince x.heardAt then s.setTone d i e
      else
        let s := s.inc d PLC_EVICT_CNT
        if limiterOpen p.lim052 s.now 100000000 then
          (s.setPlc d { s.plc d with lim052 := some s.now }).raise d 52 (arg 0 short)
        else s
    | none => s

/-- The new map after four degraded or four supporting frames. -/
def State.toneRun (s : State) (d i : Nat) (e : ToneMap) (m : PlcMeas) : State :=
  if e.badRun < 4 ∧ e.goodRun < 4 then s.setTone d i e
  else
    let b := s.toneNew d m.snr
    let e := { e with rxMap := b.2, rxMod := b.1, badRun := 0, goodRun := 0, changed := true }
    let s := (s.setTone d i e).inc d PLC_TM_CHANGE_CNT
    if s.flag d PLC_CTRL_tm_unsol then (s.setTone d i { e with changed := false }).sendTmResp d e.short e else s

/-- Judge a frame against the entry's advertised map (R103). -/
def State.toneJudge (s : State) (d i : Nat) (e : ToneMap) (m : PlcMeas) (fcsOk : Bool) : State :=
  let neutral := !fcsOk || decide (m.symbols.length * s.get d PLC_IMP_neutral_pct < s.erased d m * 100)
  if neutral then
    let e1 := { e with neutralRun := min (e.neutralRun + 1) 255 }
    if e.impulse then s.toneRun d i { e1 with badRun := e.badRun + 1, goodRun := 0 } m
    else if e1.neutralRun = 16 then
      let s := s.setTone d i { e1 with impulse := true }
      if limiterOpen (s.plc d).lim056 s.now 100000000 then
        (s.setPlc d { s.plc d with lim056 := some s.now }).raise d 56 (arg 0 e.short)
      else s
    else s.setTone d i e1
  else
    let e := { e with neutralRun := 0, impulse := false }
    let thr := s.toneThr d e.rxMod
    let degraded := (List.range (s.subbands d)).any (fun k => e.rxMap.testBit k && decide (m.snr.getD k (-128) < thr))
    let b := s.toneBest d m.snr
    if degraded then s.toneRun d i { e with badRun := e.badRun + 1, goodRun := 0 } m
    else if toneCount e.rxMap * toneBits e.rxMod < toneCount b.2 * toneBits b.1 then
      s.toneRun d i { e with goodRun := e.goodRun + 1, badRun := 0 } m
    else s.setTone d i { e with badRun := 0, goodRun := 0 }

/-- A tone map response in a MAC command's payload: map, modulation, gain. -/
def tmRespOf (h : Mhr) (payload : Bytes) : Option (Nat × Nat × Nat) :=
  if h.frameType = 3 ∧ leField payload 0 1 = 0x0A then
    some (leField payload 2 3, bits (leField payload 1 1) 7 6, leField payload 1 1 % 32)
  else none

/-- What the cache takes from a frame with a correct FCS from a short address (R102, R103). -/
def State.toneHeard (s : State) (d short : Nat) (m : PlcMeas) (h : Mhr) (payload : Bytes) (tmr : Bool) : State :=
  let s := match s.toneOf d short with
    | none => s.toneCreate d short m
    | some (i, e) =>
      s.toneJudge d i { e with lqi := s.plcLqi d m, heardAt := s.now, eui := (s.plcIdentity d short).getD (fillBytes 8 0) } m true
  let s := match tmRespOf h payload, s.toneOf d short with
    | some (map, mod, gain), some (i, e) =>
      s.setTone d i { e with txMap := map, txMod := mod, txGain := gain, tmAt := s.now, negotiated := true, requested := false }
    | _, _ => s
  match tmr, s.toneOf d short with
  | true, some (i, e) => (s.setTone d i { e with changed := false }).sendTmResp d short e
  | _, _ => s

/-- TONE_MAP_EXPIRY (R102): entries older than PLC_TM.expire minutes become empty. -/
def execToneMapExpiry (d : Nat) (s : State) : Res :=
  onF s d <|
    let p := s.plc d
    s.setPlc d { p with tones := p.tones.filter (fun x => decide (s.secsSince x.2.heardAt ≤ 60 * s.get d PLC_TM_expire)) }

/-! ### Zero crossing and phase (R104 to R106) -/

/-- The mean of the last eight intervals, in ticks; 0 before the second edge. -/
def zcPeriod (edges : List Nat) : Nat :=
  match edges, edges.getLast? with
  | t :: _ :: _, some u => (t - u) / (edges.length - 1)
  | _, _ => 0

/-- Frequency in mHz of a period in ticks. -/
def zcFreq (period : Nat) : Nat := if period = 0 then 0 else 100000000000 / period

/-- An interval or a frequency of 45 to 65 Hz. -/
def zcInRange (mHz : Nat) : Bool := decide (45000 ≤ mHz ∧ mHz ≤ 65000)

/-- Zero crossing is lost (R105). -/
def State.zcLost (s : State) (d : Nat) : State :=
  let f := zcFreq (zcPeriod (s.plc d).edges)
  let s := ((s.putB d PLC_STAT_zc_ok false).put d PLC_FREQ_freq 0).raise d 53
  let s := s.setPlc d { s.plc d with zcRun := 0 }
  if zcInRange f then s else s.raise d 55 (arg 0 f)

/-- ZC_EDGE (R104, R105). -/
def execZcEdge (d : Nat) (s : State) : Res :=
  onF s d <|
    let t := s.devTime d
    let p := s.plc d
    let last := p.edges.head?
    let per := zcPeriod p.edges
    let gap := t - last.getD t
    if last.isSome && decide (per ≠ 0 ∧ gap * 100 < per * 40) then s.inc d PLC_ZC_GLITCH_CNT
    else
      let edges := t :: p.edges.take 8
      let per := zcPeriod edges
      let run := if last.isSome && zcInRange (zcFreq gap) then p.zcRun + 1 else 0
      let zcAt := if s.flag d PLC_STAT_zc_ok then p.zcOkAt else s.now
      let s := s.setPlc d { p with edges := edges, zcRun := min run 8, zcOkAt := zcAt }
      let s := (s.put2 d PLC_ZC_TIME_LO_zc_lo PLC_ZC_TIME_HI_zc_hi t).put d PLC_ZC_PERIOD_period (min per 0xFFFFFF)
      if s.flag d PLC_STAT_zc_ok then
        if zcInRange (zcFreq per) then s.put d PLC_FREQ_freq (min (zcFreq per) 65535) else s.zcLost d
      else if 8 ≤ run then
        ((s.putB d PLC_STAT_zc_ok true).put d PLC_FREQ_freq (min (zcFreq per) 65535)).raise d 54 (arg 0 (min (zcFreq per) 65535))
      else s

/-- ZC_LOSS (R105): 2.5 measured periods without an accepted edge, or a frequency out of range. -/
def execZcLoss (d : Nat) (s : State) : Res :=
  onF s d <|
    let p := s.plc d
    let per := zcPeriod p.edges
    let silent := match p.edges.head? with
      | some t => decide (per * 5 ≤ (s.devTime d - t) * 2)
      | none => false
    if s.flag d PLC_STAT_zc_ok && (silent || !zcInRange (zcFreq per)) then s.zcLost d else s

/-- The observed phase and angle of a frame (R106). -/
def State.plcPhase (s : State) (d : Nat) (r : PlcRx) (start pdc : Nat) (relayed : Bool) : Nat × Nat :=
  let ref := s.get d PLC_ZC_ref_phase
  match r.zc with
  | none => (0, 0)
  | some z =>
    if ref = 0 ∨ s.flag d PLC_STAT_zc_ok = false ∨ relayed = true ∨ r.period = 0 then (0, 0)
    else
      let own := ((start - z) * 512 + r.period) / (2 * r.period)
      let delta := ((Int.ofNat own - Int.ofNat pdc - s.getZ d PLC_ZC_offset) % 256).toNat
      let a := delta * 360
      let turn (k : Nat) : Nat := (ref - 1 + k) % 3 + 1
      let obs := if a ≤ 30 * 256 ∨ 330 * 256 ≤ a then turn 0
        else if 90 * 256 ≤ a ∧ a ≤ 150 * 256 then turn 1
        else if 210 * 256 ≤ a ∧ a ≤ 270 * 256 then turn 2 else 0
      (obs, if obs = 0 then 0 else delta)

/-! ### Reception (R91 to R95) -/

/-- Preamble of the band in use, in ticks: 9.5 symbols without prefix. -/
def State.plcPreamble (s : State) (d : Nat) : Nat := if s.flag d PLC_CTRL_band then 202667 else 608000

/-- PLC_PREAMBLE_DETECT (R94): the end of a preamble, received at `rssi`, takes a receive buffer and a hold entry. -/
def execPlcPreambleDetect (d rssi : Nat) (s : State) : Res :=
  onF s d <|
    let p := s.plc d
    if s.get d PLC_STAT_state ≠ 1 then s
    else match firstFree p.rx 4 0, firstFree (s.rad d).hold holdEntries 0 with
      | none, _ => s.inc d PLC_NOBUF_CNT
      | some _, none =>
        let s := s.inc d DMD_NOCTX_CNT
        let r := s.rad d
        if limiterOpen r.lim038 s.now 100000000 then (s.setRad d { r with lim038 := some s.now }).raise d 38 else s
      | some n, some h =>
        let t := s.devTime d
        let z := p.edges.find? (fun e => decide (e + s.plcPreamble d ≤ t))
        let s := s.setPlc d { p with rx := smPut p.rx n { hold := h, pre := t, rssi := rssi, zc := z, period := zcPeriod p.edges } }
        (s.setHold d h { ctx := 0x80 + n, plc := true }).holdWatch d

/-- A receive buffer and its hold entry are discarded. -/
def State.plcDiscard (s : State) (d n h : Nat) : State :=
  ((s.setPlc d { s.plc d with rx := smDel (s.plc d).rx n }).freeHold d h).plcDrained d

/-- A received MAC frame without its security: MAC payload decrypted with the group master key it names. -/
def State.plcPayload (s : State) (d : Nat) (m : Bytes) (h : Mhr) : Option Bytes × State :=
  if !h.security then (some (m.drop h.len), s)
  else
    let k := 32 + h.keyIndex
    match s.keyCheck d k useDecrypt, s.plcOriginator d h.src with
    | .inr x, some eui =>
      let n := m.length - micLen h.level
      let r := ccmOpen x.key (stdNonce eui h.counter h.level) (m.take h.len) (slice m h.len (n - h.len)) (m.drop n)
      (if h.keyIndex ≤ 1 ∧ h.len ≤ n ∧ r.2 = true then some r.1 else none, s.keyUsed d k x)
    | .inl st, _ => (none, s.lockRefuse d k st)
    | _, none => (none, s)

/-- The die that queues raw frames: the host port die that serves the SC3 class ring, or a serving die for it. -/
def State.rawDie (s : State) : Nat :=
  let p := s.groupPort (s.classGroup 3)
  if s.serving p then p else s.servingDies.headD p

/-- A raw frame goes to the SC3 queue of the host port die, or is dropped (R91, R182). -/
def State.plcRaw (s : State) (d : Nat) (frame : Bytes) : State :=
  let o := s.rawDie
  let q := s.que o 3
  let p : Packet := { seq := 0, kind := 6, cls := 3, handle := noHandle, start := s.devTime o, cost := 0, payload := frame,
                      applied := true, slot := 0xFF }
  if s.get o QUE_n_STAT_state 3 ≠ 1 ∨ s.queCapacity o 3 < q.bytes + p.len ∨ s.saveKib o * 1024 < s.dieQueueBytes o + p.len
  then s.inc d PLC_RAW_DROP_CNT
  else ((s.inc d PLC_RAW_CNT).reserve o p).1.mirSend o

/-- A metering frame is handed off (R93). -/
def State.plcHandOff (s : State) (d n : Nat) (r : PlcRx) (identity payload mac : Bytes) (meshed : Bool) (m : PlcMeas)
    (modulation obs angle : Nat) : State :=
  let hd : Header := {
    die := d, ctx := 0x80 + n, slot := 0xFF, mode := if s.flag d PLC_CTRL_band then 0x21 else 0x20, fec := true,
    hold := r.hold, syncTime := r.pre, identity := identity, idHash := idHash identity, idKind := 0, rssi := r.rssi,
    freqOffset := 0, plc := true, phaseObs := obs, plcSrc := leNat mac }
  let t : Trailer := {
    length := payload.length, lqi := s.plcLqi d m, rssiMean := m.rssiMean, lastBit := s.devTime d, arrival := 0x80000000,
    fecCorrected := obs + 256 * angle + 65536 * min (s.erased d m) 255 + 2 ^ 24 * modulation }
  let o := s.owner d hd.idHash
  let s := s.setHold d r.hold {
    ctx := 0x80 + n, plc := true, header := some hd, bytes := payload, trailer := some t, owner := o,
    lastBit := some t.lastBit, noOwnerSince := if o.isNone then some s.now else none, plcMac := mac, meshed := meshed }
  let s := s.setPlc d { s.plc d with rx := smDel (s.plc d).rx n }
  match o with
  | none => s
  | some o =>
    let s := s.sendHand ⟨d, o, 0x80 + n, r.hold, .header hd⟩
    let s := s.sendData d o (0x80 + n) r.hold 0 payload
    s.sendHand ⟨d, o, 0x80 + n, r.hold, .trailer t payload.length []⟩

/-- The classes of R91. -/
inductive PlcClass where
  | foreign
  | raw
  | metering (identity payload mac : Bytes) (meshed : Bool)
  deriving DecidableEq, Repr

/-- The final destination of a mesh header is the device. -/
def State.plcSelf (s : State) (d : Nat) (a : Bytes) : Bool :=
  a == s.plcEui d || (a.length == 2 && leNat a == s.get d PLC_ADDR_short)

/-- Classify a frame with a correct FCS (R91, R92). `m` is the frame from its frame control on, `seg` its segment
control. A secured frame that cannot be opened, its MIC wrong or its key not usable, is foreign (R133; for the key DEDUCED, assumption
log 68). -/
def State.plcClassify (s : State) (d : Nat) (seg m : Bytes) (h : Mhr) (payload : Option Bytes) : PlcClass :=
  let pan := leField m 3 2
  let mine := s.plcSelf d h.dst || (h.dstMode == 2 && leNat h.dst == 0xFFFF)
  if h.dstMode = 0 ∨ mine = false ∨ (pan ≠ s.get d PLC_ADDR_pan ∧ pan ≠ 0xFFFF) then .foreign
  else
    let sc := beNat (slice seg 0 3)
    let whole := sc.testBit 16 && bits sc 15 10 == 0
    match payload with
    | none => .foreign
    | some b =>
      if h.frameType ≠ 1 ∨ whole = false then .raw
      else match parsePlc b with
        | none => .raw
        | some p =>
          let orig := match p.mesh with
            | some x => x.orig
            | none => h.src
          let forUs := match p.mesh with
            | some x => s.plcSelf d x.final
            | none => true
          match s.plcOriginator d orig with
          | none => .raw
          | some id =>
            if forUs = false ∨ p.port ≠ s.get d PLC_PORT_meter_port then .raw
            else .metering id b h.src (s.plcOriginator d h.src != some id)

/-- PLC_FRAME_DECODED (R91 to R95, R103): buffer `n`'s frame has been decoded. `dt` is the delimiter type of its frame
control header (2: a positive acknowledgement, whose `b` is the FCS it answers), `b` the MAC frame with FCS, `pdc` its
phase detection counter, `modulation` its code, `endAt` the device time of the end of its last symbol. -/
def execPlcFrameDecoded (d n dt : Nat) (b : Bytes) (pdc modulation endAt : Nat) (m : PlcMeas) (s : State) : Res :=
  onF s d <|
    match smGet (s.plc d).rx n with
    | none => s
    | some r =>
      if 2 ≤ dt then
        let s := s.plcDiscard d n r.hold
        match (s.plc d).cur with
        | some t =>
          if t.stage = .ackWait ∧ dt = 2 ∧ leField b 0 2 = fcs16 t.bytes then s.plcEnd d t 0 else s
        | none => s
      else
        let n0 := s.erased d m
        let s := if n0 = 0 then s else (s.inc d PLC_IMP_FRAME_CNT).inc d PLC_ERASED_CNT n0
        let k := b.length - 2
        let f := b.take k
        let mac := f.drop 3
        let h := parseMhr mac
        if b.length < 5 ∨ fcs16 f ≠ leNat (b.drop k) then
          let s := match h with
            | some h => (match s.toneOf d (leNat h.src) with
              | some (i, e) => if h.srcMode = 2 then s.toneJudge d i e m false else s
              | none => s)
            | none => s
          (s.inc d PLC_FCS_CNT).plcDiscard d n r.hold
        else match h with
          | none => ((s.inc d PLC_RX_CNT).inc d PLC_FILT_CNT).plcDiscard d n r.hold
          | some h =>
            let s := s.inc d PLC_RX_CNT
            let p := s.plcPayload d mac h
            let cls := p.2.plcClassify d f mac h p.1
            let unicast := !(h.dstMode == 2 && leNat h.dst == 0xFFFF)
            let owed := match cls with
              | .foreign => false
              | _ => unicast && h.ackRequest
            let s := p.2
            let s := if owed then s.setPlc d { s.plc d with
                acks := (s.plc d).acks ++ [⟨endAt + s.get d PLC_TIMING_rifs * Config.tUs, fcs16 f⟩] } else s
            let s := if h.srcMode = 2 then s.toneHeard d (leNat h.src) m h (p.1.getD []) (leField f 0 1 |>.testBit 3) else s
            match cls with
            | .foreign => (s.inc d PLC_FILT_CNT).plcDiscard d n r.hold
            | .raw => (s.plcRaw d f).plcDiscard d n r.hold
            | .metering id pl src meshed =>
              let ph := s.plcPhase d r (r.pre - s.plcPreamble d) pdc meshed
              s.plcHandOff d n r id pl src meshed m modulation ph.1 ph.2

/-- The phase detection counter of a frame whose preamble starts at device time `t` (R89, R106): the time since the last positive-going
crossing, in 1/256 of the mains period; 0 before the second edge. -/
def State.plcPdc (s : State) (d t : Nat) : Nat :=
  let p := s.plc d
  match zcPeriod p.edges, p.edges.head? with
  | 0, _ => 0
  | per, some z => ((t - z) * 512 + per) / (2 * per) % 256
  | _, none => 0

/-- How a frame to a neighbour goes onto the line (R97): by the transmit map held for it, or robust on all subbands. -/
def State.plcPhy (s : State) (d : Nat) (short : Option Nat) (t : Nat) : PlcPhy :=
  let robust : PlcPhy :=
    { modulation := 0, map := (s.toneRobust d).2, gain := 0, pdc := s.plcPdc d t, atten := s.get d PLC_TX_atten }
  match short.bind (s.toneOf d) with
  | none => robust
  | some (_, e) =>
    if e.negotiated && decide (s.secsSince e.tmAt ≤ 60 * s.get d PLC_TM_expire) then
      { robust with modulation := e.txMod, map := e.txMap, gain := e.txGain }
    else robust

/-- PLC_ACK_SEND (R95, R96): an acknowledgement that is due takes the line, unless another frame is being received: whether that one is
addressed to the device is not known yet (DESIGN CHOICE, assumption log 68). -/
def execPlcAckSend (d : Nat) (s : State) : Res :=
  onF s d <| if s.stopped d then s else
    let p := s.plc d
    let onLine := p.ackOn || (match p.cur with
      | some t => t.stage == .onLine
      | none => false)
    match p.acks with
    | [] => s
    | a :: r =>
      if onLine || !p.rx.isEmpty || decide (s.devTime d < a.due) then s
      else s.setPlc d { p with acks := r, ackOn := true, phy := some (s.plcPhy d none (s.devTime d)) }

/-! ### Transmission (R96, R97, R100) -/

/-- The destination neighbour of a MAC frame, unless it is a broadcast; and whether it asks for an acknowledgement. -/
def plcUnicast (b : Bytes) : Option (Option Nat × Bool) :=
  match parseMhr (b.drop 3) with
  | none => none
  | some h =>
    if h.dstMode = 2 ∧ leNat h.dst = 0xFFFF then none
    else some (if h.dstMode = 2 then some (leNat h.dst) else none, h.ackRequest)

/-- The tone-map request bit of a unicast frame: no map, or one older than ttl or expire (R97). -/
def State.wantsTm (s : State) (d : Nat) (short : Option Nat) : Bool :=
  match short.bind (s.toneOf d) with
  | none => true
  | some (_, e) => !e.negotiated || decide (60 * min (s.get d PLC_TM_ttl) (s.get d PLC_TM_expire) < s.secsSince e.tmAt)

/-- The first sample follows the line driver's enable by 50 µs (R108). -/
def plcLead : Nat := 50 * Config.tUs

/-- The frame goes onto the line. -/
def State.plcStart (s : State) (d : Nat) (t : PlcTx) (b : Bytes) : State :=
  let u := plcUnicast b
  let n := u.bind (·.1)
  let tmr := match u with
    | some (n, _) => s.wantsTm d n
    | none => false
  let at_ := s.devTime d + plcLead
  let phy := s.plcPhy d n at_
  let s := match n.bind (s.toneOf d), tmr with
    | some (i, e), true => s.setTone d i { e with requested := true }
    | _, _ => s
  s.setPlc d { s.plc d with
    cur := some { t with bytes := setTmr b tmr, gmk := none, stage := .onLine, start := at_ }, phy := some phy }

/-- A frame fits one PHY frame (R89, R97): PSDUs have at most 400 bytes, and the tone map and modulation bound them further. MAC security
adds 10 bytes. -/
def State.plcFits (s : State) (d : Nat) (t : PlcTx) : Bool :=
  let phy := s.plcPhy d ((plcUnicast t.bytes).bind (·.1)) (s.devTime d)
  let n := t.bytes.length + 2 + (if t.gmk.isSome then 10 else 0)
  decide (n ≤ 400 ∧ n ≤ Config.plcMaxPsdu (s.flag d PLC_CTRL_band) phy.modulation phy.map)

/-- PLC_BACKOFF_END (R97, R100): the back-off drawn has ended; `idle`: carrier sense finds the channel idle; `reserved`: virtual carrier
sense holds it reserved for others (G.9903, assumption log 24). A busy channel draws a further back-off, or ends the frame with 0x0602. -/
def execPlcBackoffEnd (d : Nat) (idle reserved : Bool) (s : State) : Res :=
  onF s d <| if s.stopped d then s else
    let p := s.plc d
    match p.cur with
    | none => s
    | some t =>
      if t.stage ≠ .contending ∨ s.devTime d < t.readyAt then s
      else if !idle || reserved || !p.rx.isEmpty || !p.acks.isEmpty || p.ackOn then
        if s.get d PLC_CSMA_max_backoffs ≤ t.nb then
          (s.inc d PLC_CSMA_FAIL_CNT).plcEnd d t 0x0602
        else s.plcDraw d { t with nb := t.nb + 1, be := min (t.be + 1) (s.get d PLC_CSMA_max_be) }
      else if !s.plcFits d t then s.plcEnd d t 0x0604
      else
        match t.gmk with
        | none => s.plcStart d t t.bytes
        | some k =>
          let r := s.plcSecure d k t.bytes
          (match r.1 with
            | .inl st => r.2.plcEnd d t st
            | .inr b => r.2.plcStart d t b)

/-- PLC_TX_END (R95, R96, R100): what is on the line ends; the line driver stays enabled for 20 µs (R108). -/
def execPlcTxEnd (d : Nat) (s : State) : Res :=
  onF s d <|
    let s := s.setPlc d { s.plc d with driveTill := s.devTime d + 20 * Config.tUs }
    let p := s.plc d
    if p.ackOn then (((s.setPlc d { p with ackOn := false }).inc d PLC_TX_CNT).inc d PLC_ACK_TX_CNT).plcDrained d
    else match p.cur with
      | none => s
      | some t =>
        if t.stage ≠ .onLine then s
        else
          let s := s.inc d PLC_TX_CNT
          match plcUnicast t.bytes with
          | some (_, true) => s.setPlc d { s.plc d with cur := some { t with stage := .ackWait, stop := s.devTime d } }
          | _ => s.plcEnd d t 0

/-- PLC_ACK_WAIT_TIMEOUT (R100): the frame is retried, or ends with 0x0603. -/
def execPlcAckWaitTimeout (d : Nat) (s : State) : Res :=
  onF s d <|
    let p := s.plc d
    match p.cur with
    | none => s
    | some t =>
      if t.stage ≠ .ackWait ∨ s.devTime d < t.stop + s.get d PLC_TIMING_ack_wait * Config.tUs then s
      else if min 10 (s.get d PLC_CSMA_max_retries) ≤ t.retries then (s.inc d PLC_NOACK_CNT).plcEnd d t 0x0603
      else (s.plcDraw d { t with stage := .contending, retries := t.retries + 1, nb := 0, be := s.get d PLC_CSMA_min_be }).plcNext d

/-! ### Enable and disable (R101, R109) -/

/-- A refused enable or write (R101, R109). -/
def State.plcRefuse (s : State) (d : Nat) : State := (s.putB d PLC_STAT_cfg_error true).raise d 50

/-- PLC_ENABLE (R101). -/
def execPlcEnable (d : Nat) (s : State) : Res :=
  onF s d <| if !(s.domOn d 12 && s.domOn d 13) then s else
    let st := s.get d PLC_STAT_state
    let twin := (List.range s.nDies).any (fun o => s.isF o && o != d && s.flag o PLC_CTRL_enable
      && s.get o PLC_ADDR_pan == s.get d PLC_ADDR_pan && s.get o PLC_ADDR_short == s.get d PLC_ADDR_short)
    if st = 1 then s
    else if st = 2 ∨ twin = true then s.plcRefuse d
    else ((s.putB d PLC_CTRL_enable true).put d PLC_STAT_state 1).putB d PLC_STAT_cfg_error false

/-- PLC_DISABLE (R109). -/
def execPlcDisable (d : Nat) (s : State) : Res :=
  onF s d <|
    let s := s.putB d PLC_CTRL_enable false
    if s.get d PLC_STAT_state ≠ 1 then s
    else
      let s := s.put d PLC_STAT_state 2
      let p := s.plc d
      let waiting : Bool := match p.cur with
        | some t => t.stage == .contending && t.retries == 0
        | none => false
      let out := (match p.cur with
        | some t => if waiting then [t] else []
        | none => []) ++ p.queue
      let s := s.setPlc d { p with queue := [], cur := if waiting then none else p.cur }
      (out.foldl (fun s t => s.plcDone t.dl 0x0605 0 0) s).plcDrained d

end Sys2Proof.Machine
end

