-- ==== Sys2Proof/Machine/Sec.lean ====
section
/-! DEFINITION. The security pipeline (05_locker_security R136 to R140; 01_reading_path R22 to R31): frames under way at
an owning L-die, their prefetch, verdict, effects and answers. -/

namespace Sys2Proof.Machine

/-! ### The verdict (R138) -/

/-- The key a frame verified under. -/
inductive KeyUse where
  | link | staged | retiring
  deriving DecidableEq, Repr

/-- What R138 decides before admission: `accept` stands for "admit decides". `z` is the counter of R136, which an extended access
number may leave below 0; `c` is its value where the device holds or reports one. -/
structure Judged where
  v : Verdict
  k : KeyUse := .link
  z : Int := 0
  c : Nat := 0
  pt : Bytes := []
  deriving DecidableEq, Repr

/-- The frame against the mark of the key it verified under. -/
def judgeCount (f : Parsed) (m : MRec) (k : KeyUse) (pt : Bytes) : Judged :=
  let unbound := m.g rKeyState == 1
  match k with
  | .retiring =>
    let z := f.count false (m.g rPrevHwm)
    { v := if z = Int.ofNat (m.g rPrevHwm) ∧ f.mic8 = m.gb rPrevMic then .duplicate else .replay, k := k, z := z, pt := pt }
  | .staged => { v := .accept, k := k, z := f.count unbound (m.g rHwm), pt := pt }
  | .link =>
    let z := f.count unbound (m.g rHwm)
    let h := Int.ofNat (m.g rHwm)
    let v : Verdict :=
      if unbound then .accept
      else if z < h then .replay
      else if z = h then (if f.mic8 = m.gb rLastMic then .duplicate else .replay)
      else .accept
    { v := v, k := k, z := z, pt := pt }

/-- A judgement with the counter as the device holds it; one below 0 has no stated form there and is a free value (assumption log
65). -/
def State.counted (s : State) (j : Judged) : State × Judged :=
  if 0 ≤ j.z then (s, { j with c := j.z.toNat }) else let r := s.freeBelow (2 ^ 32); (r.2, { j with c := r.1 })

/-- The procedure of R138 on a frame whose record was found and passed its check. -/
def judgeFrame (f : Parsed) (m : MRec) (keys : Option (Bytes × Option Bytes)) : Judged :=
  if m.g rKeyState = 0 ∨ m.bit rSecFlags 1 then { v := .unknown }
  else if f.suite ≠ m.g rSuite ∨ ((f.suite = 1 ∨ f.suite = 4) ∧ f.level < m.g rMinLevel) then { v := .malformed }
  else
    let link := keys.bind (fun k => f.open_ k.1)
    let spare := keys.bind (fun k => k.2.bind f.open_)
    match link, spare with
    | some pt, _ => judgeCount f m .link pt
    | none, some pt =>
      if m.g rKeyState = 3 then judgeCount f m .staged pt
      else if m.g rKeyState = 4 then judgeCount f m .retiring pt
      else { v := .badMic }
    | none, none => { v := .badMic }

/-! ### Frames to be decided -/

/-- A frame at its decision, from an F-die or the head-end. -/
structure FrameIn where
  identity : Bytes
  idKind : Nat
  f : Parsed
  bytes : Bytes
  formatB : Bool := false
  /-- kind code of R182 -/
  kind : Nat
  /-- service class named by a submission -/
  cls : Option Nat := none
  sync : Nat
  fdie : Nat := 0xFF
  chan : Nat := 0xFF
  ctx : Nat := 0
  hold : Nat := 0
  mode : Nat := 0
  header : Option Header := none
  rssi : Nat := 0
  lqi : Nat := 0
  subTag : Nat := 0
  /-- timetable of the frame: its key and parameters -/
  tt : Option (Nat × TtParams) := none
  slot : Option Nat
  good : Bool

/-- The frame of an F-die. -/
def State.frameOf (s : State) (d : Nat) (x : LFrame) (t : Trailer) : FrameIn :=
  let h := x.header
  let b := slice x.bytes 0 t.length
  let tt := if h.scheduled then s.frameTt d h else none
  let f := if h.plc then parsePlcFrame b h.identity
    else if modeIsSun h.mode then parseSun b h.identity h.scheduled
    else parseWmb (h.mode == 0x13) b
  { identity := h.identity, idKind := h.idKind, f := f, bytes := b, formatB := h.mode == 0x13,
    kind := if h.plc then 2 else 1, sync := h.syncTime, fdie := h.die, chan := h.slot, ctx := x.ctx, hold := x.hold,
    mode := h.mode, header := some h, rssi := t.rssiMean, lqi := t.lqi, tt := tt, slot := x.slot, good := x.good }

/-- The frame of a submission entry (R215). A wireless M-Bus frame is read in frame format A or B, whichever its block
CRCs fit. -/
def heFrameOf (x : HeFrame) : FrameIn :=
  let e := x.entry
  let suite := leField e 1 1
  let b := slice x.bytes 0 (leField e 32 2)
  let id := slice e 8 8
  let a := parseWmb false b
  let f := if suite = 1 then parseSun b id (bit (leField e 3 1) 0)
    else if suite = 2 ∨ suite = 3 then (if a.bad then parseWmb true b else a)
    else if suite = 4 then parsePlcFrame b id else badFrame
  let f := if f.suite = suite then f else badFrame
  { identity := id, idKind := b2n (bit (leField e 3 1) 1), f := f, bytes := b, formatB := a.bad, kind := 3,
    cls := some (leField e 2 1 % 4), sync := leField e 16 8, subTag := leField e 4 4, slot := x.slot, good := x.good }

/-- The identity index (R143): the live record of an identity, else a Closed one. -/
def State.lookup (s : State) (d : Nat) (identity : Bytes) (kind : Nat) : Option Nat :=
  let hit (lo hi : Nat) : Option (Nat × MRec) :=
    s.findRec d (fun m => decide (lo ≤ m.g rState ∧ m.g rState ≤ hi) && m.gb rIdentity == identity && m.g rIdKind == kind)
  match hit 1 3 with
  | some e => some e.1
  | none => (hit 4 4).map (·.1)

/-- The prefetch of a frame (R22): the slot found and whether its record is good; no answer while the pipeline or the Locker cannot
complete it. -/
def State.prefetch (s : State) (d : Nat) (identity : Bytes) (kind : Nat) : State × Option (Option Nat × Bool) :=
  if !s.flag d SEC_STAT_running then (s, none)
  else match s.lookup d identity kind with
    | none => (s, some (none, false))
    | some slot =>
      let r := s.fetch d slot
      match r.1 with
      | none => (r.2, some (some slot, false))
      | some m =>
        if m.g rKeyState = 0 ∨ m.bit rSecFlags 1 then (r.2, some (some slot, true))
        else
          let k := r.2.fetchKeys d slot m
          if k.2 = .busy then (k.1, none) else (k.1, some (some slot, true))

/-- The prefetch of a frame can complete now. -/
def State.canPrefetch (s : State) (d : Nat) (identity : Bytes) (kind : Nat) : Bool := (s.prefetch d identity kind).2.isSome

/-! ### Downlinks at an Accept (R69, R99, R130, R161, R214) -/

/-- The next dl_ctr. -/
def dlNext (m : MRec) : MRec := m.p rDlCtr (m.g rDlCtr + 1)

/-- A device downlink: relay or key change, secured under the link key for the meter's medium. -/
def deviceDl (m : MRec) (plc : Bool) (key ttEui : Bytes) (dev h fl : Nat) (pt : Bytes) : Dl :=
  let eui := m.gb rIdentity
  let ctr := m.g rDlCtr
  let b := if plc then envelope key eui pt ctr else secureDownlink key eui (deviceMhr eui ttEui ctr) pt ctr
  { dev := dev, handle := h, flags := fl, bytes := b, identity := eui }

/-- A host downlink as it is sent: secured where its entry asks for it. -/
def hostDl (m : MRec) (plc : Bool) (key : Bytes) (x : HostDl) : MRec × Dl :=
  if !bit x.flags 3 then (m, { cmd := some x.cmd, handle := x.handle, flags := x.flags, bytes := x.bytes, identity := m.gb rIdentity, expires := some x.expires })
  else
    let m := dlNext m
    let eui := m.gb rIdentity
    let k := if plc then 3 else 0
    let n := match parseMhr (x.bytes.drop k) with
      | some h => k + h.addrLen
      | none => 0
    let mhr := x.bytes.take n
    let body := x.bytes.drop n
    let o := match parsePlc body with
      | some p => p.off
      | none => 0
    let b := if plc then mhr ++ body.take o ++ envelope key eui (body.drop o) (m.g rDlCtr)
      else secureDownlink key eui mhr body (m.g rDlCtr)
    (m, { cmd := some x.cmd, handle := x.handle, flags := x.flags, bytes := b, identity := eui, expires := some x.expires })

/-- ack_params of a wireless M-Bus frame (R83). -/
def wmbAckParams (m : MRec) (f : Parsed) : Bytes :=
  let r := m.bit rFlags 0 && (f.cField == 0x44 || f.cField == 0x47 || f.cField == 0x48)
  leBytes 1 (b2n r) ++ fillBytes 11 0

/-- The F-die can send a downlink with its answer to the frame: an acknowledgement of a timetable, a response to a
wireless M-Bus frame, or a power-line downlink. -/
def State.canFollow (s : State) (m : MRec) (x : FrameIn) : Bool :=
  x.kind == 2 || (x.kind == 1 && x.f.suite == 1 && x.tt.isSome)
    || (x.kind == 1 && x.idKind == 1 && bit (leField (wmbAckParams m x.f) 0 1) 0 && s.flag x.fdie WMB_CTRL_resp_en)

/-- What an Accept does with the meter's downlinks: the frame that goes with the answer, and whether "downlink follows" is set. -/
structure Picked where
  s : State
  m : MRec
  follow : Option Dl := none
  flag : Bool := false

/-- The downlink that goes with an Accept: device and host downlinks take turns. `spare` is the staged key. A key change is queued,
with a counter of its own, at each Accept while one is pending (R130), and an open relay downlink while Disconnect pending lasts
(R161); one that cannot go with this Accept waits. An Accept of a head-end frame only says that it follows: no F-die carries it. -/
def State.pickDl (s : State) (d slot : Nat) (m : MRec) (x : FrameIn) (key ttEui : Bytes) (spare : Option Bytes) : Picked :=
  let h := s.slotHandle d slot
  let plc := x.f.suite == 4
  let wmb := x.idKind == 1
  let can := s.canFollow m x
  let host := if can then smGet (s.sec d).hostDls slot else none
  let change := if !wmb && m.bit rSecFlags 2 then spare else none
  let m := if change.isSome then dlNext m else m
  let m := if !wmb && m.g rPpState == 6 && m.relay.isNone then { m with relay := some (0, 0) } else m
  let relay := if wmb then none else m.relay
  let dev := (can || x.kind == 3) && (relay.isSome || change.isSome)
  if dev && !(host.isSome && m.hostTurn) then
    let m := { m with hostTurn := host.isSome }
    match relay, change with
    | some (a, r), _ =>
      let m := dlNext m
      if x.kind = 3 then { s := s, m := m, flag := true }
      else
        let dl := { deviceDl m plc key ttEui 2 h 4 (relayPayload a r) with relay := some (a, r) }
        { s := s, m := { m with relay := none }, follow := some dl, flag := true }
    | none, some k =>
      { s := s, m := m, flag := true,
        follow := if x.kind = 3 then none else some (deviceDl m plc key ttEui 1 h 0 (keyChange (m.g rSpareGen) k)) }
    | none, none => { s := s, m := m }
  else match host with
    | none => { s := s, m := m }
    | some y =>
      let u := hostDl m plc key y
      let q := s.sec d
      { s := s.setSec d { q with hostDls := smDel q.hostDls slot }, m := { u.1 with hostTurn := false }, follow := some u.2, flag := true }

/-! ### Acknowledgements (R66, R67, R72, R83) -/

def ackBody (corr : Int) (hint flags retrySf retrySlot : Nat) : Bytes :=
  leBytes 2 (ofSigned 16 corr) ++ leBytes 2 hint ++ leBytes 1 flags ++ leBytes 1 retrySf ++ leBytes 2 retrySlot

/-- No acknowledgement parameters: the answer to a frame that is not acknowledged (R63, R66). -/
def zeroAck : Bytes := []

/-- The source address of an acknowledgement for a frame of no timetable: that of the meter's own timetable; where the
die holds none, the spec names no address and it is a free value. -/
def State.ackEui (s : State) (d : Nat) (m : MRec) (x : FrameIn) : Bytes × State :=
  match x.tt with
  | some (_, p) => (p.eui, s)
  | none =>
    match smGet (s.ttTab d).params (m.g rTt) with
    | some p => (p.eui, s)
    | none => let r := s.freeBelow (2 ^ 64); (leBytes 8 r.1, r.2)

/-- The frame is acknowledged under R66: a SUN frame of a timetable, or a head-end frame from a scheduled slot. -/
def FrameIn.acked (x : FrameIn) (sched : Bool) : Bool := x.f.suite == 1 && (x.tt.isSome || (x.kind == 3 && sched))

/-! ### Effects of the verdicts (R139) -/

/-- Enter an identity in the unknown-identity summary. -/
def State.noteUnknown (s : State) (d : Nat) (identity : Bytes) (kind : Nat) : State :=
  let now := s.devTime d
  let q := s.sec d
  match q.unknowns.find? (fun u => u.identity == identity && u.kind == kind) with
  | some u =>
    s.setSec d { q with
      unknowns := { u with last := now, count := min (u.count + 1) 0xFFFFFFFF } :: q.unknowns.filter (fun v => v != u) }
  | none =>
    let full := decide (1024 ≤ q.unknowns.length)
    let s := s.setSec d { q with unknowns := ⟨identity, now, now, 1, kind⟩ :: q.unknowns.take 1023 }
    if full && limiterOpen q.lim039 s.now 360000000000 then
      (s.setSec d { s.sec d with lim039 := some s.now }).raise d 39
    else s

/-- The phase observations of a power-line Accept (R107, R143): ten of two bits, newest lowest, and how many are held. -/
def State.phaseStep (s : State) (d slot : Nat) (m : MRec) (obs : Nat) : State × MRec :=
  let old := m.g rPhaseHist
  let hist := (old * 4 + obs % 4) % 2 ^ 20
  let m := m.p rPhaseHist (hist + 2 ^ 20 * min 10 (old / 2 ^ 20 % 16 + 1))
  let named (p : Nat) : Nat := ((List.range 10).filter (fun i => hist / 4 ^ i % 4 == p)).length
  match [1, 2, 3].find? (fun p => decide (8 ≤ named p) && m.g rPhaseAsg != p) with
  | some p => (s.raiseM d slot 92 (arg 0 p), m.p rPhaseAsg p)
  | none => (s, m)

/-- The ledger cost of a payload (R189): ceil(k ÷ 64) for a reading over k intervals, 1 for everything else. -/
def State.costOf (s : State) (d : Nat) (m : MRec) (p : Packet) : Nat :=
  let one (i : LItem) : Nat :=
    match i with
    | .reading _ _ age _ =>
      (match s.content d (m.g rProgram) (s.ltSec d) with
        | none => 1
        | some pr =>
          if m.g rState ≠ 2 then 1
          else
            let t := s.captureOf d p.capture age
            let k := (intOf pr (s.tai d) t - intOf pr (s.tai d) (m.g rLastReadLt + 1)).toNat + 1
            (min k (max 1 (s.get d LEDG_CFG_apportion_max)) + 63) / 64)
    | _ => 1
  max 1 ((packetItems m p).foldl (fun a i => a + one i) 0)

/-- The service class of a frame (R135). -/
def State.classOf (s : State) (d : Nat) (x : FrameIn) (pt : Bytes) : Nat :=
  match x.cls with
  | some c => c
  | none =>
    if x.f.suite = 2 ∨ x.f.suite = 3 then
      s.get d ([SEC_WMB_CLASS_snd_nr, SEC_WMB_CLASS_snd_ir, SEC_WMB_CLASS_acc_nr, SEC_WMB_CLASS_acc_dmd, SEC_WMB_CLASS_other].getD
        (wmbClass x.f.cField) SEC_WMB_CLASS_other)
    else leField pt 0 1 % 4

/-- The queue packet of a frame (R194). -/
def State.packetOf (s : State) (d slot : Nat) (m : MRec) (x : FrameIn) (j : Judged) : Packet :=
  let wmb := x.f.suite == 2 || x.f.suite == 3
  let cap := (Int.ofNat (s.lt d) - (Int.ofNat (s.devTime d) - Int.ofNat x.sync)).toNat
  let p : Packet := {
    seq := 0, kind := x.kind, cls := s.classOf d x j.pt, handle := s.slotHandle d slot, start := s.devTime d, cost := 0,
    source := if x.kind = 3 then x.subTag else x.fdie + 256 * x.ctx + 65536 * x.hold, capture := cap,
    payload := x.f.payload x.formatB x.bytes j.pt, identity := x.identity, fdie := x.fdie, slot := x.chan, rssi := x.rssi,
    lqi := x.lqi, subTag := x.subTag, counter := j.c, mic8 := x.f.mic8, plain := x.f.plain j.pt, wmb := wmb,
    unprotected := !s.isProtected d }
  { p with cost := s.costOf d m p }

/-- The outcome of a decision, for the message or completion that carries it. -/
structure Decision where
  v : Verdict
  slot : Option Nat := none
  co : Bool := false
  reack : Bool := false
  ack : Bytes := zeroAck
  follow : Option Dl := none
  reason : Nat := 0
  seq : Nat := 0
  /-- mirror message whose confirmation the acknowledgement waits for (R27) -/
  mirror : Option Nat := none

/-- The hall-pass check of a frame whose sync fell in a hall-pass slot (R72): the answer says "no pass". -/
def State.hallStep (s : State) (d slot : Nat) (m : MRec) (x : FrameIn) (accept : Bool) : State × MRec × Bool :=
  match x.tt with
  | none => (s, m, false)
  | some (tt, p) =>
    match p.slotAt x.sync with
    | some (_, n) => if p.kindOf n = .hall then s.hallCheck d slot m tt x.sync accept else (s, m, false)
    | none => (s, m, false)

/-- Drift learning and attendance of a timetable's frame at an Accept or Duplicate, and what its acknowledgement says:
record, correction, rate hint and flags. -/
def State.timetableStep (s : State) (d slot : Nat) (m : MRec) (x : FrameIn) (pt : Bytes) (accept : Bool) :
    State × MRec × Int × Nat × Nat :=
  match x.tt with
  | none => (s, m, ackCorr m, ackHint m, 0)
  | some (tt, p) =>
    match p.slotAt x.sync with
    | none => (s, m, ackCorr m, ackHint m, 0)
    | some (k, n) =>
      let own := accept && ownSlot (s.ttTab d) (s.slotHandle d slot) m tt p k n
      let l : Learned :=
        if own then learn p m n (Int.ofNat x.sync - Int.ofNat (p.predicted k n)) (bit (leField pt 0 1) 2)
        else { m := m, corr := ackCorr m, hint := ackHint m, resync := false }
      let pr := s.present d slot l.m x.sync
      let hc := pr.1.hallStep d slot pr.2.1 x accept
      (hc.1, hc.2.1, l.corr, l.hint, 4 * b2n l.resync + 8 * b2n hc.2.2 + 64 * b2n pr.2.2)

/-- The Accept of a counter and MIC, if it is one of the last two of its meter. -/
def State.acceptOf (s : State) (d slot c : Nat) (mic8 : Bytes) : Option LastAccept :=
  (smGetD (s.sec d).accepts [] slot).find? (fun a => a.counter == c && a.mic8 == mic8)

/-- A Duplicate (R26, R67, R83, R139). Its acknowledgement is the stored one, unchanged even where truancy is cleared or a pass is
missing (DESIGN CHOICE, assumption log 64: R67 against R72 and R77). -/
def State.doDuplicate (s : State) (d slot : Nat) (m : MRec) (x : FrameIn) (j : Judged) (sched : Bool) : State × Decision :=
  let a := s.acceptOf d slot j.c x.f.mic8
  let co := x.fdie ≠ 0xFF && a.any (fun a => a.die != x.fdie && a.die != 0xFF && decide (s.devTime d < a.time + 200000))
  let s := s.inc d SEC_DUP_CNT
  let s := if co then s.inc d SEC_COREC_CNT else s
  let u := s.timetableStep d slot m x j.pt false
  let m' := u.2.1
  let s := if x.tt.isSome then (u.1.update d slot m').mirSend d else s
  let ack := if co then zeroAck
    else if x.idKind = 1 then wmbAckParams m x.f
    else if x.f.suite = 1 ∧ x.acked sched = false then zeroAck
    else if j.k = .retiring then m.gb rPrevAck else m.gb rStoredAck
  (s, { v := .duplicate, slot := some slot, co := co, reack := !co, ack := ack, mirror := a.bind (·.mirror) })

/-- A Replay: counts, and L-032 at most once per meter per hour. -/
def State.doReplay (s : State) (d slot : Nat) (m : MRec) (j : Judged) : State × Decision :=
  let m := m.incr rReplayCount
  let s := s.inc d SEC_REPLAY_CNT
  let u := if j.k = .link then s.watchSignal d slot m .p else (s, m)
  let s := u.1
  let m := u.2
  let old := decide (m.g rReplayEvt + 360000000000 < s.devTime d)
  let s := if old then s.raiseM d slot 32 (arg 0 j.c) else s
  let m := if old then m.p rReplayEvt (s.devTime d) else m
  let s := if j.k = .retiring ∧ Int.ofNat (m.g rPrevHwm) < j.z then (s.inc d SEC_KEYREG_CNT).raiseM d slot 33 (arg 0 j.c) else s
  ((s.update d slot m).mirSend d, { v := .replay, slot := some slot })

/-- A Deferred frame changes only counters; its acknowledgement tells the meter to retry (R67). `noPass`: its hall-pass check failed. -/
def State.doDefer (s : State) (d slot : Nat) (m : MRec) (x : FrameIn) (j : Judged) (key : Bytes) (sched : Bool) (reason cls : Nat) :
    State × Decision :=
  let s := (s.inc d SEC_DEFER_CNT).deferItem d cls reason true
  let hc := s.hallStep d slot m x false
  let s := hc.1.setRecs d (smPut (hc.1.l d).recs slot hc.2.1)
  let dec : Decision := { v := .deferred, slot := some slot, reason := reason }
  if !x.acked sched then (s, dec)
  else
    let e := s.ackEui d m x
    let retry := match x.tt with
      | none => 0
      | some (tt, p) => p.retrySlot m tt
    let body := ackBody (ackCorr m) (ackHint m) (1 + 8 * b2n hc.2.2) 1 retry
    (e.2, { dec with ack := ackParams key x.bytes x.identity e.1 body j.c true })

/-- The key-state effects of an Accept (R127, R128, R139). -/
def State.acceptKeys (s : State) (d slot : Nat) (m : MRec) (j : Judged) (link : Bytes) (spare : Option Bytes) : State × MRec :=
  if j.k = .staged then s.commitKeys d slot m link (spare.getD [])
  else if m.g rKeyState = 4 then s.dropSpare d slot m
  else if m.g rKeyState = 1 then (s, m.p rKeyState 2)
  else (s, m)

/-- The counter and MIC of an Accept enter the record, with L-038 as the counter nears its end (R139). -/
def State.acceptMark (s : State) (d slot : Nat) (m : MRec) (x : FrameIn) (j : Judged) : State × MRec :=
  let m := (m.p rHwm j.c).pb rLastMic x.f.mic8
  if decide (0xFFFF0000 ≤ j.c) && !m.bit rSecFlags 0 then (s.raiseM d slot 38 (arg 0 j.c), m.pbit rSecFlags 0 true) else (s, m)

/-- What the watches make of an Accept: a counter jump, the carrier of a radio frame (R179), the phase of a power-line frame
(R107). -/
def State.acceptWatch (s : State) (d slot : Nat) (m : MRec) (x : FrameIn) (jump : Bool) : State × MRec :=
  let w := if jump then s.watchSignal d slot m .j else (s, m)
  match x.header with
  | none => w
  | some h => if h.plc then w.1.phaseStep d slot w.2 h.phaseObs else w.1.watchCarrier d slot w.2 (toSigned 16 h.freqOffset)

/-- The acknowledgement parameters of an Accept (R66, R67, R83, R99). `fl`: its flags. -/
def FrameIn.acceptAck (x : FrameIn) (m : MRec) (key eui : Bytes) (corr : Int) (hint fl ctr : Nat) (sched follow : Bool) : Bytes :=
  if x.acked sched then ackParams key x.bytes x.identity eui (ackBody corr hint fl 0 0) ctr false
  else if x.idKind = 1 then wmbAckParams m x.f
  else if x.f.suite = 4 then fillBytes 4 0 ++ leBytes 1 (16 * b2n follow) ++ fillBytes 7 0
  else zeroAck

/-- An accepted item enters its queue, and the update is mirrored: the item's sequence number, and the mirror message. -/
def State.acceptFile (s : State) (d slot : Nat) (m : MRec) (p : Packet) : State × Nat × Option Nat :=
  let r := (s.update d slot m).reserve d p
  let n := (r.1.l d).mir.nextSeq
  let s := r.1.mirSend d
  (s, r.2.seq, if (s.l d).mir.nextSeq = n then none else some n)

/-- An Accept joins the last two of its meter. -/
def State.noteAccept (s : State) (d slot : Nat) (a : LastAccept) : State :=
  let q := s.sec d
  s.setSec d { q with accepts := smPut q.accepts slot (a :: (smGetD q.accepts [] slot).take 1) }

/-- The effects of an Accept after admission, in one record update (R25, R139). -/
def State.acceptFrame (s : State) (d slot : Nat) (m : MRec) (x : FrameIn) (j : Judged) (link : Bytes) (spare : Option Bytes)
    (sched : Bool) (p : Packet) : State × Decision :=
  let key := if j.k = .staged then spare.getD [] else link
  let s := s.inc d SEC_ACCEPT_CNT
  let jump := decide ((x.f.suite = 1 ∨ x.f.suite = 3 ∨ x.f.suite = 4) ∧ j.k = .link ∧ m.g rKeyState ≠ 1
    ∧ 2 ^ (let l := s.get d BAL_IMP_jump_log2; if l < 8 ∨ 30 < l then 16 else l) < j.c - m.g rHwm)
  let u := s.acceptKeys d slot m j link spare
  let v := u.1.acceptMark d slot u.2 x j
  let w := v.1.acceptWatch d slot v.2 x jump
  let t := w.1.timetableStep d slot w.2 x j.pt true
  let e := t.1.ackEui d t.2.1 x
  let dl := e.2.pickDl d slot t.2.1 x key e.1 spare
  let tell := if x.acked sched then dl.s.tellChange d slot else (dl.s, false)
  let ack := x.acceptAck dl.m key e.1 t.2.2.1 t.2.2.2.1 (t.2.2.2.2 + 16 * b2n dl.flag + 32 * b2n tell.2) j.c sched dl.flag
  let f := tell.1.acceptFile d slot (if x.acked sched then dl.m.pb rStoredAck ack else dl.m) p
  (f.1.noteAccept d slot ⟨s.devTime d, x.fdie, j.c, x.f.mic8, f.2.2⟩,
    { v := .accept, slot := some slot, ack := ack, follow := dl.follow, seq := f.2.1, mirror := f.2.2 })

/-- A frame that verified with a counter above the mark: admission, then the effects of its verdict (R138). -/
def State.doAccept (s : State) (d slot : Nat) (m : MRec) (x : FrameIn) (j : Judged) (link : Bytes) (spare : Option Bytes)
    (sched : Bool) : State × Decision :=
  let p := s.packetOf d slot m x j
  match s.judge d p.cls p.cost p.len p.handle with
  | some reason => s.doDefer d slot m x j (if j.k = .staged then spare.getD [] else link) sched reason p.cls
  | none => s.acceptFrame d slot m x j link spare sched p

/-- The keys for a decision (R115, R125): `busy` while the Locker must be asked for them, or for the wraps of a commit (R128), and
cannot serve. -/
def State.keysFor (s : State) (d : Nat) (x : FrameIn) : State × KeyFetch :=
  match x.slot with
  | none => (s, .failed)
  | some slot =>
    let m := s.rawRec d slot
    if x.f.bad || !x.good || m.g rKeyState == 0 || m.bit rSecFlags 1 then (s, .failed)
    else
      let r := s.heldKeys d slot m
      match r.2 with
      | .keys l (some p) =>
        if m.g rKeyState = 3 ∧ (x.f.open_ l).isNone ∧ (x.f.open_ p).isSome ∧ r.1.canWrap d = false then
          (r.1.lockRefuse d 1 (match r.1.keyCheck d 1 useWrap with
            | .inl e => e
            | .inr _ => 0x0203), .busy)
        else r
      | _ => r

/-- A frame that is not acknowledged and whose meter is known still has its hall pass checked (R72). -/
def State.hallOnly (s : State) (d slot : Nat) (x : FrameIn) : State :=
  let h := s.hallStep d slot (s.rawRec d slot) x false
  if h.2.2 then h.1.setRecs d (smPut (h.1.l d).recs slot h.2.1) else s

/-- Decide a frame with the keys held for its meter (R138, R139). -/
def State.decideFrame (s : State) (d : Nat) (x : FrameIn) (sched : Bool) (keys : Option (Bytes × Option Bytes)) : State × Decision :=
  match x.f.bad, x.slot with
  | true, some slot => ((if x.good then s.hallOnly d slot x else s).inc d SEC_MALFORMED_CNT, { v := .malformed })
  | true, none => (s.inc d SEC_MALFORMED_CNT, { v := .malformed })
  | false, none => ((s.inc d SEC_UNKNOWN_CNT).noteUnknown d x.identity x.idKind, { v := .unknown })
  | false, some slot =>
    if !x.good then (s.inc d SEC_UNKNOWN_CNT, { v := .unknown })
    else
      let m := s.rawRec d slot
      let c := s.counted (judgeFrame x.f m keys)
      let s := c.1
      let j := c.2
      match j.v with
      | .unknown => ((s.inc d SEC_UNKNOWN_CNT).noteUnknown d x.identity x.idKind, { v := .unknown })
      | .malformed => ((s.hallOnly d slot x).inc d SEC_MALFORMED_CNT, { v := .malformed })
      | .badMic =>
        let h := s.hallStep d slot m x false
        (((h.1.inc d SEC_BADMIC_CNT).update d slot (h.2.1.incr rBadMicCount)).mirSend d, { v := .badMic, slot := some slot })
      | .replay => let h := s.hallStep d slot m x false; h.1.doReplay d slot h.2.1 j
      | .duplicate => s.doDuplicate d slot m x j sched
      | .accept =>
        (match keys with
          | some (l, p) => s.doAccept d slot m x j l p sched
          | none => (s, { v := .unknown }))
      | .deferred => (s, { v := .deferred })

/-! ### Answers (R27, R28, R52, R217) -/

/-- Return the verdict message to the F-die; the release follows at once, after the mirror, or is implied. A power-line frame needs none:
the verdict frees its hold entry (R93). -/
def State.answerFrame (s : State) (d : Nat) (x : FrameIn) (r : Decision) : State :=
  let unprot := !s.isProtected d
  let msg : BackMsg := {
    src := d, dst := x.fdie, ctx := x.ctx, hold := x.hold,
    body := .verdict r.v r.co (unprot && (r.v == .accept || r.v == .duplicate)) r.reack r.ack r.follow }
  let s := { s with back := s.back ++ [msg] }
  let release (s : State) : State := { s with back := s.back ++ [⟨d, x.fdie, x.ctx, x.hold, .release⟩] }
  let waitFor (s : State) (q : Option Nat) : State :=
    match q with
    | none => release s
    | some n =>
      let m := (s.l d).mir
      if m.outstanding.any (fun e => e.1 == n) then s.setMir d { m with waits := m.waits ++ [(n, .release x.fdie x.ctx x.hold)] }
      else release s
  if unprot || decide (128 ≤ x.ctx) then s
  else
    match r.v with
    | .accept => waitFor s r.mirror
    | .duplicate => if r.co then s else waitFor s r.mirror
    | _ => s

def verdictCode (v : Verdict) : Nat :=
  match v with
  | .accept => 0
  | .duplicate => 1
  | .replay => 2
  | .badMic => 3
  | .unknown => 4
  | .deferred => 5
  | .malformed => 6

/-- Complete a submission with its verdict. -/
def State.answerHeadEnd (s : State) (d : Nat) (cmd : Nat) (r : Decision) (late : Bool) : State :=
  let h := match r.slot with
    | some slot => if r.v = .unknown ∨ r.v = .malformed then noHandle else s.slotHandle d slot
    | none => noHandle
  let res := leBytes 1 (verdictCode r.v) ++ leBytes 1 (b2n (!s.isProtected d) + 2 * b2n late) ++ leBytes 2 r.reason ++ leBytes 4 h
    ++ leBytes 8 (s.devTime d) ++ slice r.ack 0 12 ++ leBytes 4 r.seq
  s.completeT cmd 0 res (some h)

/-! ### Choosing the next frame (R25, R26) -/

/-- The die decides frames now: it serves, the pipeline runs, and no brown-out holds it. -/
def State.deciding (s : State) (d : Nat) : Bool :=
  s.serving d && s.flag d SEC_STAT_running && !s.flag d PWR_STAT_bo_warn && !(s.com1 d).pwr.halted

/-- Order of two frames at their last bits; of equal times the lower F-die first. -/
def beforeFrame (a b : LFrame) : Bool :=
  match a.trailer, b.trailer with
  | some x, some y => decide (x.lastBit < y.lastBit) || (x.lastBit == y.lastBit && decide (a.src < b.src))
  | _, _ => false

/-- The identity of the frame that a hand-off message belongs to: that of its header, taken already or still on the link. -/
def State.handIdentity (s : State) (d : Nat) (m : HandMsg) : Option Bytes :=
  match (s.sec d).frames.find? (fun x => x.src == m.src && x.ctx == m.ctx && x.hold == m.hold) with
  | some x => some x.header.identity
  | none => s.hand.findSome? (fun y => match y.body with
    | .header h => if y.dst = d ∧ y.src = m.src ∧ y.ctx = m.ctx then some h.identity else none
    | _ => none)

/-- The trailer of an earlier frame of the same meter is still on a link to the die (R25, R26). -/
def State.earlierInHand (s : State) (d : Nat) (f : LFrame) (t : Trailer) : Bool :=
  s.hand.any (fun m => m.dst == d && (match m.body with
    | .trailer u _ _ =>
      (decide (u.lastBit < t.lastBit) || (u.lastBit == t.lastBit && decide (m.src < f.src)))
        && s.handIdentity d m == some f.header.identity
    | _ => false))

/-- The next frame that can be decided: of its meter, no earlier frame waits for its prefetch or has its trailer on a link. -/
def State.nextFrame (s : State) (d : Nat) : Option (LFrame × Trailer) :=
  let l := (s.sec d).frames
  let c := l.filterMap (fun f => match f.trailer with
    | none => none
    | some t =>
      if f.ready && !l.any (fun g => g.header.identity == f.header.identity && beforeFrame g f) && !s.earlierInHand d f t then
        some (f, t) else none)
  c.foldl (fun o f => match o with
    | none => some f
    | some g => if beforeFrame f.1 g.1 then some f else some g) none

/-- The next submission that can be decided: of its meter, no earlier one waits for its prefetch (R216). -/
def nextHeadEnd : List HeFrame → List Bytes → Option HeFrame
  | [], _ => none
  | x :: l, waiting =>
    let id := slice x.entry 8 8
    if x.ready && !waiting.contains id then some x else nextHeadEnd l (id :: waiting)

/-- A radio or power-line frame was decided late for want of its prefetch (R23). The prefetch of a power-line frame begins after its
last bit and has the 4.0 µs of R30 (DEDUCED, assumption log 65). -/
def LFrame.late (x : LFrame) (t : Trailer) : Bool :=
  !x.held && (if x.header.plc then decide (t.lastBit + 400 < x.readyAt) && decide (x.headerAt ≤ t.lastBit + 400)
    else decide (x.headerAt < t.lastBit) && decide (t.lastBit < x.readyAt))

/-- A late verdict: counted, with L-034 (R23). -/
def State.lateVerdict (s : State) (d : Nat) (slot : Option Nat) : State :=
  (s.inc d SEC_LATE_CNT).raise d 34 (arg 0 0) (match slot with
    | some n => s.slotHandle d n
    | none => noHandle)

/-- Decide the next frame, or submission, that can be decided; one whose keys must be asked for again and cannot be had waits
(R23). -/
def State.decideOne (s : State) (d : Nat) : State :=
  match s.nextFrame d with
  | some (x, t) =>
    let fr := s.frameOf d x t
    let k := s.keysFor d fr
    let s := k.1
    let q := s.sec d
    if k.2 = .busy then s.setSec d { q with frames := q.frames.map (fun y => if y = x then { y with ready := false } else y) }
    else
      let s := s.setSec d { q with frames := q.frames.erase x }
      let r := s.decideFrame d fr x.header.scheduled k.2.toOption
      let s := r.1.answerFrame d fr r.2
      if x.late t then s.lateVerdict d x.slot else s
  | none =>
    match nextHeadEnd (s.sec d).headEnd [] with
    | none => s
    | some x =>
      let fr := heFrameOf x
      let k := s.keysFor d fr
      let s := k.1
      let q := s.sec d
      if k.2 = .busy then s.setSec d { q with headEnd := q.headEnd.map (fun y => if y = x then { y with ready := false } else y) }
      else
        let s := s.setSec d { q with headEnd := q.headEnd.erase x }
        let r := s.decideFrame d fr (bit (leField x.entry 3 1) 0) k.2.toOption
        let s := r.1.answerHeadEnd d x.cmd r.2 x.late
        if x.late then s.lateVerdict d x.slot else s

/-- Decide every frame that can be decided. -/
def State.decideAll (s : State) (d : Nat) : Nat → State
  | 0 => s
  | k + 1 => if s.deciding d then (s.decideOne d).decideAll d k else s

/-- Frames and submissions that may be waiting. -/
def State.waitingFrames (s : State) (d : Nat) : Nat := (s.sec d).frames.length + (s.sec d).headEnd.length

def State.decideReady (s : State) (d : Nat) : State := s.decideAll d (s.waitingFrames d)

/-! ### Hand-off messages (R48, R50, R51) -/

/-- The first message for die `d` of a kind that no earlier message of its frame precedes. -/
def takeHand (d : Nat) (want : HandBody → Bool) : List HandMsg → List HandMsg → Option (HandMsg × List HandMsg)
  | _, [] => none
  | seen, m :: l =>
    if m.dst = d ∧ want m.body = true ∧ seen.any (fun x => x.dst == d && x.src == m.src && x.ctx == m.ctx) = false then
      some (m, seen.reverse ++ l)
    else takeHand d want (m :: seen) l

def State.setFrame (s : State) (d : Nat) (m : HandMsg) (f : LFrame → LFrame) : State :=
  let q := s.sec d
  s.setSec d { q with frames := q.frames.map (fun x => if x.src = m.src ∧ x.ctx = m.ctx ∧ x.hold = m.hold then f x else x) }

/-- Frame bytes with a run written at an offset. -/
def putRun (b : Bytes) (off : Nat) (run : Bytes) : Bytes :=
  let n := max b.length (off + run.length)
  putBytes (slice b 0 n) off run

/-- The kind of a hand-off message (R22). -/
def HandBody.isHeader : HandBody → Bool
  | .header _ => true
  | _ => false
def HandBody.isData : HandBody → Bool
  | .data _ _ => true
  | _ => false
def HandBody.isRewrite : HandBody → Bool
  | .rewrite _ _ => true
  | _ => false
def HandBody.isTrailer : HandBody → Bool
  | .trailer _ _ _ => true
  | _ => false
def HandBody.isAbort : HandBody → Bool
  | .abort _ => true
  | _ => false

/-- A frame without a verdict one second after its last bit (R24). -/
def LFrame.overdue (now : Nat) (x : LFrame) : Bool :=
  match x.trailer with
  | some t => decide (t.lastBit + 100000000 ≤ now)
  | none => false

/-- Run a handler on the next hand-off message of a kind. -/
def State.withHand (s : State) (d : Nat) (want : HandBody → Bool) (k : State → HandMsg → State) : State :=
  match takeHand d want [] s.hand with
  | none => s
  | some (m, rest) => k { s with hand := rest } m

/-- HEADER_MESSAGE (R22, R50). -/
def execHeaderMessage (d : Nat) (s : State) : Res :=
  onL s d <| s.withHand d HandBody.isHeader fun s m =>
    match m.body with
    | .header h =>
      let s := s.drainParams d m.src
      let q := s.sec d
      s.setSec d { q with frames := q.frames ++ [{ src := m.src, ctx := m.ctx, hold := m.hold, header := h, headerAt := s.devTime d }] }
    | _ => s

/-- DATA_MESSAGE (R50). -/
def execDataMessage (d : Nat) (s : State) : Res :=
  onL s d <| s.withHand d HandBody.isData fun s m =>
    match m.body with
    | .data off b => s.setFrame d m (fun x => { x with bytes := putRun x.bytes off b })
    | _ => s

/-- REWRITE_MESSAGE (R48). -/
def execRewriteMessage (d : Nat) (s : State) : Res :=
  onL s d <| s.withHand d HandBody.isRewrite fun s m =>
    match m.body with
    | .rewrite off b => s.setFrame d m (fun x => { x with bytes := putRun x.bytes off b })
    | _ => s

/-- TRAILER_MESSAGE (R50, R138): the last run is taken, and the frames that can be decided are decided. -/
def execTrailerMessage (d : Nat) (s : State) : Res :=
  onL s d <| s.withHand d HandBody.isTrailer fun s m =>
    match m.body with
    | .trailer t off b =>
      ((s.drainParams d m.src).setFrame d m (fun x => { x with
        trailer := some t, bytes := if b.isEmpty then x.bytes else putRun x.bytes off b })).decideReady d
    | _ => s

/-- ABORT_MESSAGE (R51). -/
def execAbortMessage (d : Nat) (s : State) : Res :=
  onL s d <| s.withHand d HandBody.isAbort fun s m =>
    let q := s.sec d
    (s.setSec d { q with frames := q.frames.filter (fun x => !(x.src == m.src && x.ctx == m.ctx && x.hold == m.hold)) }).decideReady d

/-- Complete the prefetch of a frame, or count its refusal. -/
def State.prefetchFrame (s : State) (d : Nat) (x : LFrame) : State :=
  let r := s.prefetch d x.header.identity x.header.idKind
  match r.2 with
  | none => r.1
  | some (slot, good) =>
    let s := r.1
    let y := { x with ready := true, readyAt := s.devTime d, held := x.held || s.stopped d, slot := slot, good := good }
    let q := s.sec d
    (s.setSec d { q with frames := q.frames.map (fun z => if z = x then y else z) }).decideReady d

/-- Complete the prefetch of a submission, or count its refusal; `late`: it had to wait for it. -/
def State.prefetchHeadEnd (s : State) (d : Nat) (x : HeFrame) (late : Bool) : State :=
  let fr := heFrameOf x
  let r := s.prefetch d fr.identity fr.idKind
  match r.2 with
  | none => r.1
  | some (slot, good) =>
    let s := r.1
    let y := { x with ready := true, late := late && !x.held && !s.stopped d, slot := slot, good := good }
    let q := s.sec d
    (s.setSec d { q with headEnd := q.headEnd.map (fun z => if z = x then y else z) }).decideReady d

/-- PREFETCH_COMPLETE (R22, R23): the next outstanding prefetch that can complete, of a frame before a submission; where none can,
the first is tried, and a refusal of the Locker counts. -/
def execPrefetchComplete (d : Nat) (s : State) : Res :=
  onL s d <|
    let fs := (s.sec d).frames.filter (fun x => !x.ready)
    let hs := (s.sec d).headEnd.filter (fun x => !x.ready)
    match fs.find? (fun x => s.canPrefetch d x.header.identity x.header.idKind) with
    | some x => s.prefetchFrame d x
    | none =>
      match hs.find? (fun x => s.canPrefetch d (heFrameOf x).identity (heFrameOf x).idKind) with
      | some x => s.prefetchHeadEnd d x true
      | none =>
        match fs.head?, hs.head? with
        | some x, _ => s.prefetchFrame d x
        | none, some x => s.prefetchHeadEnd d x true
        | none, none => s.decideReady d

/-- HEAD_END_FRAME_ARRIVAL (R31, R216): the last byte of the oldest submission for die `d`; `bytes` is the frame read
from host memory. Its prefetch completes and it is decided, unless the Locker or the pipeline cannot serve. -/
def execHeadEndFrameArrival (d : Nat) (bytes : Bytes) (s : State) : Res :=
  onL s d <|
    match s.hif.inflight.find? (fun c => c.die == d && c.opcode == 0x81 && c.sent && !c.started) with
    | none => s
    | some c =>
      let x : HeFrame := { cmd := c.id, entry := c.entry, bytes := bytes, arrived := s.devTime d, held := s.stopped d }
      let s := s.markStarted c.id
      let q := s.sec d
      (s.setSec d { q with headEnd := q.headEnd ++ [x] }).prefetchHeadEnd d x false

/-- VERDICT_WAIT_TIMEOUT (R24): frames undecided 1 s after their last bit are dropped; a submission completes with
0x020F. -/
def execVerdictWaitTimeout (d : Nat) (s : State) : Res :=
  onL s d <|
    let now := s.devTime d
    let q := s.sec d
    let old := q.frames.filter (LFrame.overdue now)
    let he := q.headEnd.filter (fun x => decide (x.arrived + 100000000 ≤ now))
    let n := old.length + he.length
    let s := s.setSec d { q with frames := q.frames.filter (fun x => !decide (x ∈ old)), headEnd := q.headEnd.filter (fun x => !decide (x ∈ he)) }
    let s := he.foldl (fun s x => s.completeT x.cmd 0x020F [] (some (match x.slot with
      | some k => s.slotHandle d k
      | none => noHandle))) s
    let s := s.inc d SEC_LATE_CNT n
    if n ≠ 0 ∧ limiterOpen q.lim034 s.now 100000000 then
      let h := match (old.filterMap (·.slot)).head? with
        | some k => s.slotHandle d k
        | none => noHandle
      (s.setSec d { s.sec d with lim034 := some s.now }).raise d 34 (arg 0 1) h
    else s

end Sys2Proof.Machine
end

