-- ==== Sys2Proof/Machine/Host.lean ====
section
/-! DEFINITION. The host interface (09_host_rings R200 to R227): doorbells, entry fetch and dispatch, completions,
interrupts, disabling, ports and failover, downlinks and head-end frames, long operations. -/

namespace Sys2Proof.Machine

/-! ### Rings -/

/-- A ring stops (R210): state 3, its error, and L-105. -/
def State.ringStop (s : State) (g : Nat) (sq : Bool) (err : Nat) : State :=
  let s := s.put 0 (if sq then HIF_GRPn_STAT_sq_state else HIF_GRPn_STAT_cq_state) 3 g
  (s.put 0 HIF_GRPn_STAT_error err g).raise (s.groupPort g) 105 (arg 0 g + arg 1 err)

/-- Entries of an SQ that belong to the device (R205). -/
def State.sqCount (s : State) (g : Nat) : Nat :=
  ((s.grp g).sqTail + s.sqSize g - s.get 0 HIF_GRPn_SQ_HEAD_head g) % s.sqSize g

/-- A Draining SQ with nothing left to do goes Idle, with L-104 (R223). -/
def State.sqIdle (s : State) (g : Nat) : State :=
  if s.get 0 HIF_GRPn_STAT_sq_state g = 2 ∧ s.sqCount g = 0 ∧ (s.grp g).waiting.isEmpty = true
      ∧ s.hif.inflight.any (fun c => c.group == g) = false
  then (s.put 0 HIF_GRPn_STAT_sq_state 0 g).raise (s.groupPort g) 104 (arg 0 g)
  else s

/-- A doorbell on the page of a group the port exposes (R201, R203). -/
def State.pageOf (s : State) (p g : Nat) : Bool := s.portPresent p && decide (g < 256) && s.groupPort g == p

/-- An invalid doorbell stops its ring (R210). -/
def State.badDoorbell (s : State) (g : Nat) (sq : Bool) : State := (s.inc 0 HIF_DB_ERR_CNT).ringStop g sq 0x0D

/-- SQ_TAIL_DOORBELL (R205, R210): value `v` written to group `g`'s page through port `p`. -/
def execSqTailDoorbell (p g v : Nat) (s : State) : Res :=
  onPort s p <|
    if !s.pageOf p g || s.get 0 HIF_GRPn_STAT_sq_state g != 1 then s
    else
      let n := s.sqSize g
      let x := s.grp g
      if n ≤ v ∨ n - 1 < s.sqCount g + (v + n - x.sqTail) % n then s.badDoorbell g true
      else (s.setGrp g { x with sqTail := v }).hifMirror

/-- CQ_HEAD_DOORBELL (R207, R210). -/
def execCqHeadDoorbell (p g v : Nat) (s : State) : Res :=
  onPort s p <|
    if !s.pageOf p g || s.get 0 HIF_GRPn_STAT_cq_state g != 1 then s
    else
      let n := s.cqSize g
      let x := s.grp g
      if n ≤ v ∨ s.cqUsed g < (v + n - x.cqHead) % n then s.badDoorbell g false
      else ((s.setGrp g { x with cqHead := v }).fullTrack g).hifMirror

/-! ### Fetch and dispatch (R204, R211, R212, R216) -/

/-- What an opcode's target is. -/
inductive Target where
  | handle | servingDie | lDie | anyDie | dieZero | downDie | undefined
  deriving DecidableEq, Repr

/-- Opcodes whose target is a meter handle (R212). -/
def handleOps : List Nat := [0x01, 0x02, 0x03, 0x05, 0x07, 0x08, 0x09, 0x0A, 0x10, 0x11, 0x12, 0x13, 0x21, 0x28]
/-- Opcodes at a serving die. -/
def servingOps : List Nat := [0x04, 0x06, 0x0B, 0x0C, 0x0D, 0x27, 0x2A, 0x30, 0x31, 0x32, 0x33, 0x34, 0x35, 0x36]
/-- Opcodes at an L-die. -/
def lDieOps : List Nat := [0x40, 0x41, 0x42, 0x43, 0x44, 0x45, 0x46, 0x60, 0x61, 0x62]
/-- Opcodes at any die. -/
def anyDieOps : List Nat := [0x0F, 0x20, 0x22, 0x23, 0x24, 0x25, 0x29, 0x53, 0x54, 0x74]
/-- Opcodes at die 0. -/
def dieZeroOps : List Nat := [0x52, 0x63, 0x70, 0x71, 0x72, 0x73, 0x75, 0x76]
/-- Opcodes whose own row judges the role of the L-die they name (R275). -/
def downOps : List Nat := [0x50, 0x51, 0x55]

def targetOf (op kind : Nat) : Target :=
  if op ∈ handleOps ∨ (op = 0x26 ∧ kind = 1) then .handle
  else if op ∈ servingOps then .servingDie
  else if op ∈ lDieOps then .lDie
  else if op ∈ anyDieOps ∨ op = 0x26 then .anyDie
  else if op ∈ dieZeroOps then .dieZero
  else if op ∈ downOps then .downDie
  else .undefined

/-- A die runs: it is not held in reset and not Fenced or Failed. -/
def State.alive (s : State) (d : Nat) : Bool :=
  decide (d < s.nDies) && !s.pkg.fenced.contains d && !(s.isL d && (s.role d == 4 || s.role d == 5))

/-- The die a command goes to, or the status that refuses it (R10, R211, R262). -/
def State.route (s : State) (e : Bytes) : Nat ⊕ Nat :=
  let t := leField e 8 4
  let dieIf (b : Bool) : Nat ⊕ Nat := if b then .inr t else .inl 0x0104
  match targetOf (leField e 0 1) (leField e 16 1) with
  | .handle =>
    if !s.handleOk t then .inl 0x0102
    else (match s.handleDie t with
      | some d => .inr d
      | none => .inl 0x0804)
  | .servingDie => dieIf (s.serving t)
  | .lDie => dieIf (s.isL t && s.alive t)
  | .anyDie => dieIf (s.alive t)
  | .dieZero => dieIf (decide (t = 0) && s.alive 0)
  | .downDie => dieIf (s.isL t)
  | .undefined => .inl 0x0101

/-- The die a downlink goes to: the one that serves its meter, or without a meter the F-die of its path. -/
def State.routeDl (s : State) (e : Bytes) : Nat ⊕ Nat :=
  let h := leField e 8 4
  if h = noHandle then (if s.isF (leField e 12 1 % 8) then .inr (leField e 12 1 % 8) else .inl 0x0104)
  else if !s.handleOk h then .inl 0x0102
  else match s.handleDie h with
    | some d => .inr d
    | none => .inl 0x0804

/-- The die that owns a head-end frame, by the partition (R216, R262). -/
def State.routeHe (s : State) (p : Nat) (e : Bytes) : Nat ⊕ Nat :=
  match s.bucketDie p (idHash (slice e 8 8)) with
  | some d => .inr d
  | none => .inl 0x0804

/-- The opcodes a ring's kind accepts (R204). -/
def kindOk (kind op : Nat) : Bool :=
  if kind = 1 then decide (1 ≤ op ∧ op ≤ 0x7F) else if kind = 2 then op == 0x80 else if kind = 3 then op == 0x81 else false

/-- The opcodes available in a stage of bring-up (R348) and in Remedial mode (R354). -/
def stageOk (stage op : Nat) : Bool :=
  if stage = 15 then op == 0x26 || op == 0x41 || op == 0x54 || decide (0x70 ≤ op ∧ op ≤ 0x76)
  else if stage < 6 then decide (0x20 ≤ op ∧ op ≤ 0x2A) || op == 0x41 || op == 0x54 || decide (0x70 ≤ op ∧ op ≤ 0x76)
  else true

/-- Where an entry goes: the refusing status, or its die. -/
def State.dispatch (s : State) (g : Nat) (e : Bytes) : Nat ⊕ Nat :=
  let op := leField e 0 1
  let p := s.groupPort g
  let admin := op == 0x20 || op == 0x21 || op == 0x29
  if !kindOk (s.get 0 HIF_GRPn_CTRL_sq_kind g) op then .inl 0x0101
  else if op < 0x80 ∧ targetOf op (leField e 16 1) = .undefined then .inl 0x0101
  else if !stageOk (s.get p SYS_BOOT_stage) op then .inl 0x090B
  else if admin && s.portMode == 2 && s.get 0 HIF_PORT_admin_port != p then .inl 0x0109
  else
    let r := if op = 0x80 then s.routeDl e else if op = 0x81 then s.routeHe p e else s.route e
    match r with
    | .inl st => .inl st
    | .inr d =>
      if targetOf op (leField e 16 1) ≠ .downDie ∧ stageOk (s.get d SYS_BOOT_stage) op = false ∧ s.isL d = true then .inl 0x090B
      else .inr d

/-- Head-end frames at a die that hold one of its 64 decision slots (R31). -/
def State.slotsUsed (s : State) (d : Nat) : Nat :=
  (s.hif.inflight.filter (fun c => c.opcode == 0x81 && c.die == d)).length

/-- The head of an SQ advances past an entry, which takes the next fetch number. -/
def State.sqAdvance (s : State) (g : Nat) : State :=
  let s := (s.put 0 HIF_GRPn_SQ_HEAD_head ((s.get 0 HIF_GRPn_SQ_HEAD_head g + 1) % s.sqSize g) g).inc 0 HIF_FETCH_CNT
  { s with hif := { s.hif with nextId := s.hif.nextId + 1 } }

/-- Fetch an entry and complete it without executing it. -/
def State.returnEntry (s : State) (g : Nat) (e : Bytes) (status : Nat) : State :=
  let op := leField e 0 1
  (s.sqAdvance g).pushCpl g
    { subCpl status (leField e 4 4) op g (if op = 0x81 then noHandle else leField e 8 4) [] with id := some s.hif.nextId }

/-- Fetch the entry at the head of an SQ and dispatch it; `e` is what host memory holds there. A head-end frame waits
for a decision slot with its SQ. -/
def State.fetchEntry (s : State) (g : Nat) (e : Bytes) : State :=
  let st := s.get 0 HIF_GRPn_STAT_sq_state g
  let p := s.groupPort g
  let stage := s.get p SYS_BOOT_stage
  if s.sqCount g = 0 ∨ s.linkUp p = false ∨ stage < 3 then s
  else if st = 2 then
    if s.hif.inflight.any (fun c => c.group == g) then s else s.returnEntry g e 0x0106
  else if st ≠ 1 then s
  else match s.dispatch g e with
    | .inl status => s.returnEntry g e status
    | .inr d =>
      let op := leField e 0 1
      if op = 0x81 ∧ 64 ≤ s.slotsUsed d then s
      else
        let c : Cmd := {
          id := s.hif.nextId, group := g, port := p, die := d, opcode := op, entry := slice e 0 64, fetched := s.now,
          order := (s.l d).orderNext }
        let s := s.sqAdvance g
        { s with hif := { s.hif with inflight := s.hif.inflight ++ [c] } }

/-- SQ_ENTRY_FETCH (R204, R205, R210, R211, R223). -/
def execSqEntryFetch (g : Nat) (e : Bytes) (s : State) : Res :=
  onPort s (s.groupPort g) (if g < 256 then s.fetchEntry g e else s)

/-- DECISION_SLOT_GRANT (R31, R216): die `d` has a free decision slot; the submission at the head of SQ `g`, which waits
for one, is fetched. -/
def execDecisionSlotGrant (d g : Nat) (e : Bytes) (s : State) : Res :=
  onL s d (if 256 ≤ g ∨ leField e 0 1 ≠ 0x81 ∨ 64 ≤ s.slotsUsed d then s else s.fetchEntry g e)

/-- HEAD_END_FRAME, opcode 0x81 (R215, R216): the operands are checked and the frame is forwarded to its owning die. -/
def execHeadEndFrame (d : Nat) (s : State) : Res :=
  onL s d <|
    match s.hif.inflight.find? (fun c => c.die == d && c.opcode == 0x81 && !c.sent) with
    | none => s
    | some c =>
      let suite := leField c.entry 1 1
      let n := leField c.entry 32 2
      if suite < 1 ∨ 4 < suite ∨ n = 0 ∨ (if suite = 4 then 400 else 255) < n then s.completeT c.id 0x0103 [] (some noHandle)
      else { s with hif := { s.hif with
        inflight := s.hif.inflight.map (fun x => if x.id = c.id then { x with sent := true } else x) } }

/-! ### Completions and interrupts (R207 to R209, R219, R221) -/

/-- The event entry of R219. -/
def State.evtCpl (s : State) (w : EvtWait) : Cpl :=
  { first := leBytes 1 0x40 ++ leBytes 1 0 ++ leBytes 2 w.src ++ leBytes 1 w.die ++ leBytes 1 (b2n (s.isF w.die))
      ++ leBytes 2 w.count ++ leBytes 8 w.time ++ leBytes 4 w.handle ++ leBytes 8 w.args ++ leBytes 35 0,
    exts := [], atOnce := s.get w.die EVT_SRCs_class w.src == 0, isSub := false, item := none }

/-- Raises on their way to the host port die arrive (R378). -/
def State.evtDeliver (s : State) : State :=
  let l := s.hif.evtNet
  l.foldl (fun s m => s.evtArrive m) { s with hif := { s.hif with evtNet := [] } }

/-- COMPLETION_WRITE (R208, R209, R219): the completion that waits longest for CQ `g`, or the next event entry for it. -/
def execCompletionWrite (g : Nat) (s : State) : Res :=
  onPort s (s.groupPort g) <|
    if 256 ≤ g then s
    else
      let s := s.evtDeliver
      let x := s.grp g
      match x.waiting with
      | c :: r =>
        if s.cqRoom g (1 + c.exts.length) then ((((s.setGrp g { x with waiting := r }).cqWrite g c).sqIdle g).fullTrack g).evtMerge
        else (s.fullTrack g).evtMerge
      | [] =>
        match s.hif.evtWait.find? (fun w => s.evtGroup w.port == some g) with
        | none => s
        | some w =>
          if s.cqRoom g 1 then
            (({ s with hif := { s.hif with evtWait := s.hif.evtWait.erase w } }.cqWrite g (s.evtCpl w)).fullTrack g).evtMerge
          else (s.fullTrack g).evtMerge

/-- MSI_X_SIGNAL (R221): CQ `g` signals its vector for the entries it has not signalled. -/
def execMsiXSignal (g : Nat) (s : State) : Res :=
  onPort s (s.groupPort g) <|
    if 256 ≤ g then s
    else
      let x := s.grp g
      let n := s.get 0 HIF_GRPn_MOD_count g
      let t := s.get 0 HIF_GRPn_MOD_time_us g
      if x.unsig ≠ 0 ∧ (x.unsigNow = true ∨ n ≤ x.unsig ∨ s.due (x.unsigSince + t * Config.tUs) = true) then
        (s.setGrp g { x with unsig := 0, unsigNow := false }).signal (s.groupPort g) (s.get 0 HIF_GRPn_MOD_vector g)
      else s

/-- MSI_X_UNMASK (R221): the mask of vector `v` of port `p` is cleared; a pending vector signals once. -/
def execMsiXUnmask (p v : Nat) (s : State) : Res :=
  onPort s p <|
    if 64 ≤ v then s
    else
      let k := 256 * p + 4 * v + 3
      let s := { s with hif := { s.hif with msixTable := smSet s.hif.msixTable 1 k (s.msixWord p v 3 / 2 * 2) } }
      if smGetD s.hif.msixPend false (64 * p + v) then
        { s with hif := { s.hif with msixPend := smDel s.hif.msixPend (64 * p + v) } }.signal p v
      else s

/-- HOST_MEMORY_ACCESS_FAIL (R210): `kind` 0: the entry fetch of SQ `g`; 1: a completion write to CQ `g`; 2: a buffer of
command `id`. A long operation ends under its own rules, with its final progress entry, and completes with 0x0105 (R220). -/
def execHostMemoryAccessFail (kind g id : Nat) (s : State) : Res :=
  onPort s (s.groupPort g) <|
    let s := s.inc 0 HIF_DMA_ERR_CNT
    if kind = 0 then (if g < 256 ∧ s.get 0 HIF_GRPn_STAT_sq_state g ≠ 0 then s.ringStop g true 0x05 else s)
    else if kind = 1 then (if g < 256 ∧ s.get 0 HIF_GRPn_STAT_cq_state g ≠ 0 then (s.ringStop g false 0x05).evtMerge else s)
    else if s.hif.longOps.any (fun o => o.cmd == id) then
      { s with hif := { s.hif with longOps := s.hif.longOps.map (fun o =>
        if o.cmd = id then { o with aborted := true, abortStatus := 0x0105 } else o) } }
    else s.complete id 0x0105

/-! ### Enabling and disabling (R223, R224) -/

/-- RING_ENABLE (R224): setting sq_enable (`sq`) or cq_enable of group `g`. -/
def execRingEnable (g : Nat) (sq : Bool) (s : State) : Res :=
  onPort s 0 <|
    let stat := if sq then HIF_GRPn_STAT_sq_state else HIF_GRPn_STAT_cq_state
    let log := if sq then s.get 0 HIF_GRPn_SIZE_sq_log2 g else s.get 0 HIF_GRPn_SIZE_cq_log2 g
    let base := if sq then s.sqBase g else s.cqBase g
    if 256 ≤ g ∨ s.get 0 stat g ≠ 0 then s
    else if log < 6 ∨ 16 < log ∨ base % 4096 ≠ 0 ∨ (sq = true ∧ s.get 0 HIF_GRPn_CTRL_sq_kind g = 0) then
      (s.putB 0 HIF_GRPn_STAT_cfg_error true g).put 0 HIF_GRPn_STAT_error 0x0C g
    else
      let s := ((s.putB 0 HIF_GRPn_STAT_cfg_error false g).put 0 HIF_GRPn_STAT_error 0 g).put 0 stat 1 g
      if sq then ((s.putB 0 HIF_GRPn_CTRL_sq_enable true g).put 0 HIF_GRPn_SQ_HEAD_head 0 g).setGrp g { s.grp g with sqTail := 0 }
      else
        (((s.putB 0 HIF_GRPn_CTRL_cq_enable true g).put 0 HIF_GRPn_CQ_TAIL_tail 0 g).put 0 HIF_GRPn_CQ_TAIL_phase 1 g).setGrp g
          { s.grp g with cqHead := 0, unconf := [] }

/-- SQ_DISABLE (R223): entries of a Stopped SQ are returned without being read. -/
def execSqDisable (g : Nat) (s : State) : Res :=
  onPort s 0 <|
    let st := s.get 0 HIF_GRPn_STAT_sq_state g
    if 256 ≤ g ∨ (st ≠ 1 ∧ st ≠ 3) then s
    else
      let s := (s.putB 0 HIF_GRPn_CTRL_sq_enable false g).put 0 HIF_GRPn_STAT_sq_state 2 g
      (if st = 3 then s.put 0 HIF_GRPn_SQ_HEAD_head (s.grp g).sqTail g else s).sqIdle g

/-- CQ_DISABLE (R224). -/
def execCqDisable (g : Nat) (s : State) : Res :=
  onPort s 0 <|
    if 256 ≤ g ∨ s.get 0 HIF_GRPn_STAT_cq_state g = 0 then s
    else if s.get 0 HIF_GRPn_STAT_sq_state g ≠ 0 then s.putB 0 HIF_GRPn_STAT_cfg_error true g
    else
      let s := ((s.putB 0 HIF_GRPn_CTRL_cq_enable false g).put 0 HIF_GRPn_STAT_cq_state 0 g).putB 0 HIF_GRPn_STAT_cfg_error false g
      (s.raise (s.groupPort g) 104 (arg 0 g + arg 1 1)).evtMerge

/-- Every ring of every group is Idle. -/
def State.ringsIdle (s : State) : Bool :=
  (List.range 256).all (fun g => s.get 0 HIF_GRPn_STAT_sq_state g == 0 && s.get 0 HIF_GRPn_STAT_cq_state g == 0)

/-- HIF_PORT_WRITE (R201). -/
def execHifPortWrite (v : Nat) (s : State) : Res :=
  onPort s 0 <|
    if !s.ringsIdle || (s.nL == 1 && (v % 4 == 1 || v % 4 == 2)) then s.putB 0 HIF_STAT_cfg_error true
    else ((s.put 0 HIF_PORT_mode (v % 4)).put 0 HIF_PORT_admin_port (v / 4 % 2)).putB 0 HIF_STAT_cfg_error false

/-! ### Ports and failover (R225, R226) -/

/-- The groups move to port `p` with exact positions. -/
def State.moveGroups (s : State) (p : Nat) : State := (s.put 0 HIF_STAT_active p).raise p 106 (arg 0 p)

/-- Void entries in the positions a completion had reserved (R226); positions already freed by the host are skipped. -/
def State.voidEntries (s : State) (g pos phase : Nat) (c : Cpl) : State :=
  let n := s.cqSize g
  (List.range (1 + c.exts.length)).foldl (fun s i =>
    let at_ := (pos + i) % n
    let live := decide ((at_ + n - (s.grp g).cqHead) % n < s.cqUsed g)
    if live then (s.cqEntry g (pos + i) phase (leBytes 1 0x01 ++ leBytes 62 0)).inc 0 HIF_VOID_CNT else s) s

/-- A completion that is written again after a die failure: a submission with 0x010A, an item as a redelivery (left to
its queue where that failed with the die), others as they were. -/
def State.rewrite (s : State) (failed g : Nat) (c : Cpl) : State :=
  if c.isSub then s.pushCpl g { c with first := putBytes c.first 2 (leBytes 2 0x010A), atOnce := true }
  else match c.item with
    | some (d, cls, _) =>
      if d = failed then s
      else (s.inc d QUE_n_REDELIV_CNT 1 cls).pushCpl g { c with first := putBytes c.first 14 (leBytes 1 (leField c.first 14 1 ||| 2)) }
    | none => s.pushCpl g c

/-- The port die `d` has failed (R226): the groups it served move to the other port with void entries. SQs resume at the mirrored
heads: what was fetched after the last mirror is fetched again. Commands known to the new port whose completion is not confirmed
complete with 0x010A. -/
def State.portFailover (s : State) (d : Nat) : State :=
  let p := 1 - d
  if d ≥ 2 ∨ s.portMode ≠ 1 ∨ s.get 0 HIF_STAT_active ≠ d ∨ s.portPresent p = false then s
  else
    let groups := s.hif.groups
    let heads := s.hif.mirHeads
    let known := s.hif.mirNext
    let cmds := s.hif.inflight.filter (fun c => decide (c.id < known))
    let s : State := { s with hif := { s.hif with
      inflight := [], longOps := [], evtWait := s.hif.evtWait.filter (fun w => w.port != d) } }
    let s := (s.put 0 HIF_STAT_active p).inc 0 HIF_FAILOVER_CNT
    let s := (List.range 256).foldl (fun s g =>
      if s.get 0 HIF_GRPn_STAT_sq_state g = 0 then s else s.put 0 HIF_GRPn_SQ_HEAD_head (smGetD heads 0 g) g) s
    let s := groups.foldl (fun s x =>
      let g := x.1
      let lost := x.2.waiting.filter (fun c => c.isSub && c.id.all (fun i => decide (i < known)))
      let s := x.2.unconf.foldl (fun s u => s.voidEntries g u.1 u.2.1 u.2.2) s
      let s := s.setGrp g { s.grp g with waiting := [], unconf := [] }
      let s := x.2.unconf.foldl (fun s u => s.rewrite d g u.2.2) s
      lost.foldl (fun s c => s.rewrite d g c) s) s
    let s := cmds.foldl (fun s c =>
      s.pushCpl c.group { subCpl 0x010A c.tag c.opcode c.group (if c.opcode = 0x81 then noHandle else c.target) [] with id := some c.id }) s
    (s.raise p 106 (arg 0 p)).evtMerge

/-- Failback takes place once port A is up and L0 is active again (R226). -/
def State.tryFailback (s : State) : State :=
  if s.hif.failback && s.portMode == 1 && s.get 0 HIF_STAT_active == 1 && s.linkUp 0 && s.serving 0 then
    { s with hif := { s.hif with failback := false } }.moveGroups 0
  else s

/-- PORT_LINK_DOWN (R225): in active-standby mode the groups leave the active port as its link goes down. -/
def execPortLinkDown (p : Nat) (s : State) : Res :=
  onPort s p <|
    if !s.linkUp p then s
    else
      let s := if p = 0 then ((s.putB 0 HIF_STAT_a_up false).put 0 HIF_STAT_a_speed 0).put 0 HIF_STAT_a_width 0
        else ((s.putB 0 HIF_STAT_b_up false).put 0 HIF_STAT_b_speed 0).put 0 HIF_STAT_b_width 0
      let s := if s.linkUp 0 || s.linkUp 1 then s else { s with hif := { s.hif with portsDown := some s.now } }
      let s := s.raise p 107 (arg 0 p)
      let s := if s.portMode = 1 ∧ s.get 0 HIF_STAT_active = p ∧ s.portPresent (1 - p) = true then
          (s.inc 0 HIF_FAILOVER_CNT).moveGroups (1 - p) else s
      s.evtMerge

/-- A speed code and a width of R200. -/
def linkOk (speed width : Nat) : Bool := decide (1 ≤ speed ∧ speed ≤ 4) && (width == 1 || width == 2 || width == 4)

/-- PORT_LINK_UP (R200): the link of port `p` trains at a speed (codes 1 to 4) and width; others are not supported, and no link comes
up with them. -/
def execPortLinkUp (p speed width : Nat) (s : State) : Res :=
  onPort s p <|
    if s.linkUp p || !linkOk speed width then s
    else
      let s := if p = 0 then ((s.putB 0 HIF_STAT_a_up true).put 0 HIF_STAT_a_speed speed).put 0 HIF_STAT_a_width width
        else ((s.putB 0 HIF_STAT_b_up true).put 0 HIF_STAT_b_speed speed).put 0 HIF_STAT_b_width width
      let s := { s with hif := { s.hif with portsDown := none } }
      ((s.raise p 108 (arg 0 p)).tryFailback).alarmCheck

/-- FAILBACK (R226): asked for while port B serves the groups; on port A there is nothing to return. -/
def execFailback (s : State) : Res :=
  onPort s 0 (if s.portMode = 1 ∧ s.get 0 HIF_STAT_active = 1 then { s with hif := { s.hif with failback := true } }.tryFailback else s)

/-! ### Downlinks (R213, R214) -/

/-- A host downlink goes to the transmit path or the modem of its F-die. A SUN frame goes uncoded: the downlink entry has no field that asks
for FEC (DESIGN CHOICE, assumption log 63). -/
def State.dlLaunch (s : State) (f : Nat) (x : HostDl) (dl : Dl) : State :=
  if bit x.path 3 then
    s.plcQueue f { kind := .downlink, high := bit x.flags 2, bytes := dl.bytes,
                   gmk := if bit x.flags 4 then some (b2n (bit x.flags 5)) else none, dl := some dl }
  else
    let c := txCentre x.mode (s.slotCentre f x.slot).toNat
    let b := airFrame x.mode dl.bytes
    s.txEnqueue f {
      kind := .downlink, start := if x.flags % 4 = 1 then x.time else s.devTime f + 100 * Config.tUs,
      dur := if modeIsSun x.mode then sunTicks x.mode false b.length else wmbTicks x.mode b.length,
      lo := c - txBand x.mode / 2, hi := c + (txBand x.mode + 1) / 2, bytes := b, dl := some dl, mode := x.mode,
      centre := c, asap := x.flags % 4 == 2 }

def HostDl.dl (x : HostDl) : Dl :=
  { cmd := some x.cmd, handle := x.handle, flags := x.flags, bytes := x.bytes, expires := some x.expires }

/-- A downlink at a time waits at its F-die; one as soon as possible goes at once. -/
def State.dlSend (s : State) (x : HostDl) : State :=
  if x.flags % 4 = 1 then { s with hif := { s.hif with timed := s.hif.timed ++ [x] } }
  else s.dlLaunch (x.path % 8) x x.dl

/-- The operands of a downlink entry are inconsistent (R213, R214). -/
def dlBad (x : HostDl) (len : Nat) : Bool :=
  let plc := bit x.path 3
  let none_ := x.handle == noHandle
  x.flags % 4 == 3 || (none_ && (x.flags % 4 == 0 || bit x.flags 3)) || len == 0
    || decide ((if plc = true then 400 else 255) < len)
    || (!plc && x.flags % 4 != 0 && (decide (128 ≤ x.slot) || (modeBit x.mode).isNone))

/-- A radio downlink at a time, or as soon as possible, in a mode that the slot it names is not configured for, or in mode N outside the
channels a to f (R46): refused as an inconsistent operand (DEDUCED, assumption log 63). -/
def State.dlModeBad (s : State) (x : HostDl) : Bool :=
  let f := x.path % 8
  !bit x.path 3 && x.flags % 4 != 0 && (match modeBit x.mode with
    | none => true
    | some b => !bit (s.get f CHN_SLOT_MODEn_mode_mask x.slot) b || (decide (7 ≤ b) && !nChannel (2 * s.slotCentre f x.slot)))

/-- A host downlink waits for the meter (R214): one that has been taken on and has not completed. -/
def State.dlWaiting (s : State) (h : Nat) : Bool :=
  s.hif.inflight.any (fun c => c.opcode == 0x80 && c.started && c.target == h)

/-- DOWNLINK, opcode 0x80 (R213, R214); `frame` is what the host's buffer holds. -/
def execDownlink (d : Nat) (frame : Bytes) (s : State) : Res :=
  onDie s d <| s.withCmd d 0x80 fun s c =>
    let e := c.entry
    let ex := leField e 32 4
    let x : HostDl := {
      cmd := c.id, handle := leField e 8 4, flags := leField e 1 1, path := leField e 12 1, slot := leField e 13 1,
      mode := leField e 14 1, time := leField e 16 8, bytes := slice frame 0 (leField e 2 2),
      expires := c.fetched + (if ex = 0 then 86400 else ex) * Config.tS }
    if dlBad x (leField e 2 2) then s.complete c.id 0x0103
    else if x.flags % 4 ≠ 0 ∧ s.isF (x.path % 8) = false then s.complete c.id 0x0104
    else if s.dlModeBad x then s.complete c.id 0x0103
    else if x.handle = noHandle then (s.markStarted c.id).dlSend x
    else if s.dlWaiting x.handle then s.complete c.id 0x0108
    else
      let slot := c.slot
      let r := s.fetch d slot
      match r.1 with
      | none => r.2.complete c.id 0x0102
      | some m =>
        let s := r.2
        if bit x.flags 3 && m.g rIdKind == 1 then s.complete c.id 0x0103
        else if x.flags % 4 = 0 then
          let q := s.sec d
          (s.markStarted c.id).setSec d { q with hostDls := smPut q.hostDls slot x }
        else if !bit x.flags 3 then (s.markStarted c.id).dlSend x
        else if m.g rKeyState = 0 then s.complete c.id 0x020B
        else if m.bit rSecFlags 1 then s.complete c.id 0x0206
        else
          let k := s.heldKeys d slot m
          match k.2 with
          | .busy => k.1.complete c.id (match k.1.keyCheck d 1 useUnwrap with
            | .inl e => e
            | .inr _ => 0x0201)
          | .failed => k.1.complete c.id 0x0206
          | .keys l _ =>
            let u := hostDl m (bit x.path 3) l x
            let s := ((k.1.markStarted c.id).update d slot u.1).mirSend d
            s.dlSend { x with bytes := u.2.bytes }

/-- DOWNLINK_AT_TIME (R214): the downlink for F-die `d` whose time comes first is handed over, to the transmit path 1 ms
ahead of its start and to the modem at its time. -/
def execDownlinkAtTime (d : Nat) (s : State) : Res :=
  onF s d <|
    let at_ (x : HostDl) : Bool := x.path % 8 == d
      && decide (x.time ≤ s.devTime d + (if bit x.path 3 then 0 else Config.tMs))
    match s.hif.timed.find? at_ with
    | none => s
    | some x => { s with hif := { s.hif with timed := s.hif.timed.erase x } }.dlLaunch d x x.dl

/-- DOWNLINK_EXPIRY (R213): unsent downlinks of die `d` past their expiry complete with 0x0107. -/
def execDownlinkExpiry (d : Nat) (s : State) : Res :=
  onDie s d <|
    let old (t : Nat) : Bool := s.due t
    let gone (dl : Option Dl) : Bool := match dl.bind (·.expires) with
      | some t => old t
      | none => false
    if s.isL d then
      let q := s.sec d
      let out := q.hostDls.filter (fun p => old p.2.expires)
      out.foldl (fun s p => s.complete p.2.cmd 0x0107 (leBytes 9 0))
        (s.setSec d { q with hostDls := q.hostDls.filter (fun p => !old p.2.expires) })
    else
      let mine (x : HostDl) : Bool := x.path % 8 == d && old x.expires
      let timed := s.hif.timed.filter mine
      let tx := (s.rad d).txq.filter (fun f => f.stage == .queued && gone f.dl)
      let plc := (s.plc d).queue.filter (fun t => gone t.dl)
      let s := { s with hif := { s.hif with timed := s.hif.timed.filter (fun x => !mine x) } }
      let s := s.setTxq d ((s.rad d).txq.filter (fun f => !(f.stage == .queued && gone f.dl)))
      let s := s.setPlc d { s.plc d with queue := (s.plc d).queue.filter (fun t => !gone t.dl) }
      let s := timed.foldl (fun s x => s.complete x.cmd 0x0107 (leBytes 9 0)) s
      let s := tx.foldl (fun s f => s.dlDone f.dl 0x0107 0 0) s
      (plc.foldl (fun s t => s.dlDone t.dl 0x0107 0 0) s).plcDrained d

/-! ### Long operations (R220) -/

/-- LONG_OPERATION_COMPLETE: the operation of opcode `op` at die `d` has ended; the final progress entry, then the
submission completion with its counts. -/
def execLongOperationComplete (d op : Nat) (s : State) : Res :=
  onDie s d <|
    match s.longOp d op with
    | none => s
    | some o =>
      match o.done with
      | none => s
      | some status =>
        let s := s.progress o (if o.aborted then 2 else 1)
        let s := s.complete o.cmd status (leBytes 4 o.countA ++ leBytes 4 o.countB)
        s.dropLong d op

/-- LONG_OPERATION_PROGRESS: percent has increased, and 100 ms have passed since the last entry. -/
def execLongOperationProgress (d op : Nat) (s : State) : Res :=
  onDie s d <|
    match s.longOp d op with
    | none => s
    | some o => if o.repPct < o.percent ∧ s.due (o.repTime + 100 * Config.tMs) = true then s.progress o 0 else s

end Sys2Proof.Machine
end

