-- ==== Sys2Proof/Machine/Save.lean ====
section
/-! DEFINITION. The brown-out save of an L-die (15_power_clocks_ageing R335; R198, R237): what it writes, and its commit. -/

namespace Sys2Proof.Machine

def State.pwr (s : State) (d : Nat) : Pwr := (s.com1 d).pwr
def State.setPwr (s : State) (d : Nat) (p : Pwr) : State := s.setCom d { s.com1 d with pwr := p }

/-- SYS_BOOT.stage of a die. -/
def State.stage (s : State) (d : Nat) : Nat := s.get d SYS_BOOT_stage

/-- The die runs and takes part in saves. -/
def State.powered (s : State) (d : Nat) : Bool := s.stage d != 0

/-- The die holds restored records: a warning before that saves nothing new, and the next start restores from the same journal
(R349). -/
def State.hasRecords (s : State) (d : Nat) : Bool := decide (5 ≤ s.stage d) && s.stage d != 15

/-- A save of the die is in progress. -/
def State.saving (s : State) (d : Nat) : Bool :=
  s.isL d && s.flag d PWR_STAT_bo_warn && !s.flag d PWR_STAT_saved && !(s.pwr d).noJournal && s.powered d

/-- A write that the journal holds as a page: a started program of a column, a host sector or a checkpoint page that is not confirmed. -/
def Prog.saved (p : Prog) : Bool :=
  p.src.isNone && (match p.keys.head? with
    | some k => keyKind k == 1 || keyKind k == 2 || keyKind k == 3
    | none => false)

/-- Columns not on NAND of which every page is being written. -/
def Arc.savedColumns (a : Arc) : List Column :=
  a.columns.filter (fun c => !a.columnStands c.no [] && a.columnStands c.no (a.progs ++ a.blocked))

/-- What the save writes (R198, R237). A queue copy in progress completes first. -/
def State.saveOf (s : State) (d : Nat) (blocks : List Nat) : Save :=
  let x := s.l d
  let a := x.arc
  let queue (c : Nat) : List Packet :=
    (s.que d c).packets.map (fun p => { p.rebase (s.heldTicks d c) 0 with committed := true })
  { blocks := blocks, queues := [0, 1, 2, 3].map queue,
    seqs := [0, 1, 2, 3].map (fun c => s.get d QUE_n_SEQ_next_seq c),
    delivered := [0, 1, 2, 3].map (fun c => s.get d QUE_n_DELIV_delivered c),
    ledger := x.led, ltState := s.ltState d, hold := s.holdLt d, sweep := s.get d LEDG_SWEEP_boundary,
    entries := a.entries.filter (fun e => decide (a.onNand ≤ e.seq)), amends := a.amends.drop a.amendNand, amendFrom := a.amendNand,
    columns := a.savedColumns, progs := (a.progs ++ a.blocked).filter Prog.saved }

/-- The journal block of an L-die is written, and its commit marker after it (R335 step 6). -/
def State.commitSave (s : State) (d : Nat) : State :=
  match (s.arc d).jrn with
  | [] => s
  | b :: bs =>
    let s := s.setArc d { s.arc d with saves := s.saveOf d b :: (s.arc d).saves }
    ((s.putJrn d bs).jrnCheck d).putB d PWR_STAT_saved true

/-- The newest journal is superseded: its blocks go back for erasure (R336, R237). -/
def State.dropSave (s : State) (d : Nat) : State :=
  match (s.arc d).saves with
  | [] => s
  | v :: vs => (s.setArc d { s.arc d with saves := vs }).jrnReturn d v.blocks

/-- The journals of a die are consumed (R349). -/
def State.consumeSaves (s : State) (d : Nat) : State :=
  let l := (s.arc d).saves
  l.foldl (fun s v => s.jrnReturn d v.blocks) (s.setArc d { s.arc d with saves := [] })

end Sys2Proof.Machine
end

