-- ==== Sys2Proof/Machine/Slate.lean ====
section
/-! DEFINITION. The panel driver of an F-die (14_slate_panel R308 to R320). -/

namespace Sys2Proof.Machine

def State.slate (s : State) (d : Nat) : Slate := (s.f d).slate
def State.setSlate (s : State) (d : Nat) (x : Slate) : State := s.setFd d { s.f d with slate := x }

/-- SLATE_STAT.state. -/
def State.slateState (s : State) (d : Nat) : Nat := s.get d SLATE_STAT_state
/-- The panel is electrophoretic (R308). -/
def State.isEpd (s : State) (d : Nat) : Bool := s.get d SLATE_CFG_type == 1

/-- A die of the package is in a switchover gap (R261, R320): a pair has no serving die. -/
def State.switchGap (s : State) : Bool :=
  s.paired && (List.range (s.nL / 2)).any (fun k => !s.serving (2 * k) && !s.serving (2 * k + 1))

/-! ### Journal, image and retention store (R318) -/

/-- The journal bytes. -/
def State.slateJrn (s : State) (d : Nat) : Bytes := ((List.range 8).map (fun w => leBytes 4 (s.get d SLATE_JRNw w))).flatten
def State.putJournal (s : State) (d : Nat) (b : Bytes) : State :=
  let s := (List.range 8).foldl (fun s w => s.put d SLATE_JRNw (leField b (4 * w) 4) w) s
  s.putB d SLATE_STAT_jrn_valid (leField b 0 1 == 1)

/-- The words of SLATE_SHOWN, of SLATE_IMG. -/
def State.slateShown (s : State) (d : Nat) : List Nat := (List.range 5).map (fun w => s.get d SLATE_SHOWNw_bits w)
def State.slateImg (s : State) (d : Nat) : List Nat := (List.range 5).map (fun w => s.get d SLATE_IMGw_bits w)
def State.putShown (s : State) (d : Nat) (l : List Nat) : State :=
  (List.range 5).foldl (fun s w => s.put d SLATE_SHOWNw_bits (l.getD w 0) w) s

/-- The levels of the 56 segments held in image words, and back. -/
def levelsOf (l : List Nat) : Nat := (l.zipIdx.foldl (fun a e => a + e.1 * 2 ^ (32 * e.2)) 0) % 2 ^ 112
def wordsOf (n : Nat) : List Nat := (List.range 5).map (fun w => n / 2 ^ (32 * w) % 2 ^ 32)
def levelAt (n k : Nat) : Nat := n / 4 ^ k % 4

/-- The journal of a run (R318). -/
def jrnBytes (r : SlateRun) (elapsed : Nat) : Bytes :=
  leBytes 1 1 ++ leBytes 1 r.band ++ leBytes 1 r.phase ++ leBytes 1 0 ++ leBytes 2 elapsed ++ leBytes 2 0 ++ leBytes 8 r.mask
    ++ leBytes 14 r.target ++ leBytes 2 0

/-- Milliseconds elapsed in the phase of an update or refresh, rounded up. -/
def State.slateElapsed (s : State) (r : SlateRun) : Nat := (s.now - r.since + Config.tMs - 1) / Config.tMs

/-- A run of an update or refresh is journalled; one of the clearing leaves the journal as the interruption left it. -/
def SlateRun.journalled (r : SlateRun) : Bool := r.step == .update || r.step == .refresh

/-- The elapsed time in the journal is brought up to date, as it is to 1 ms (R318). -/
def State.slateKeep (s : State) (d : Nat) : State :=
  match (s.slate d).run with
  | some r => if r.journalled then s.putJournal d (jrnBytes r (s.slateElapsed r)) else s
  | none => s

/-- The retention store takes the journal and SLATE_SHOWN. -/
def State.slateStore (s : State) (d : Nat) : State := s.setSlate d { s.slate d with store := some (s.slateJrn d, s.slateShown d) }

/-! ### Waveforms (R311, R312) -/

def Slate.word (x : Slate) (band w : Nat) : Nat := smGetD x.wave 0 (128 * band + w)
def Slate.phases (x : Slate) (band : Nat) : Nat := x.word band 0 % 64
/-- Duration of a phase in ms. -/
def Slate.duration (x : Slate) (band p : Nat) : Nat := x.word band (1 + 2 * p) % 65536
/-- Drive code of a phase for transition `a` to `b`. -/
def Slate.drive (x : Slate) (band p a b : Nat) : Nat := levelAt (x.word band (2 + 2 * p)) (4 * a + b)

/-- Signed level of a drive code. -/
def driveLevel (c : Nat) : Int := if c = 1 then 1 else if c = 2 then -1 else 0

/-- A phase pair is balanced for every transition. -/
def Slate.balanced (x : Slate) (band p : Nat) : Bool :=
  (List.range 16).all fun t =>
    driveLevel (x.drive band p (t / 4) (t % 4)) * Int.ofNat (x.duration band p)
      + driveLevel (x.drive band (p + 1) (t / 4) (t % 4)) * Int.ofNat (x.duration band (p + 1)) == 0

/-- A table meets the conditions of R312. -/
def Slate.tableOk (x : Slate) (band : Nat) : Bool :=
  let n := x.phases band
  decide (n % 2 = 0 ∧ 2 ≤ n ∧ n ≤ 32)
    && (List.range n).all (fun p => (List.range 16).all (fun t => x.drive band p (t / 4) (t % 4) != 3))
    && (List.range (n / 2)).all (fun k => x.balanced band (2 * k))

/-- WF_CHECK (R312). -/
def execWfCheck (d : Nat) (s : State) : Res :=
  onF s d (s.putB d SLATE_STAT_wf_ok ((List.range 8).all (s.slate d).tableOk))

/-- A write of word `w` of band `b`'s table (R312, register map): only while the state is Off or Running. -/
def State.slateWave (s : State) (d b w v : Nat) : State :=
  if s.slateState d = 0 ∨ s.slateState d = 2 then
    let x := s.slate d
    ((s.setSlate d { x with wave := smSet x.wave 0 (128 * b + w) (v % 2 ^ 32) }).putB d SLATE_STAT_wf_ok false).putB d SLATE_STAT_cfg_error false
  else s.putB d SLATE_STAT_cfg_error true

/-! ### Temperature (R310, R313) -/

def State.slateT (s : State) (d : Nat) : Int := s.getZ d SLATE_TEMP_temp

/-- The panel temperature as sampled now, cut to its register. -/
def State.slateSample (s : State) (d : Nat) : Int :=
  let t := if s.get d SLATE_TEMP_src = 0 then s.getZ d PWR_TEMP_tj - s.getZ d SLATE_TEMP_offset else s.getZ d SLATE_TEMP_host_temp
  max (-128) (min 127 t)

/-- Band boundary `k`. -/
def State.slateBound (s : State) (d k : Nat) : Int :=
  toSigned 8 ((s.get d SLATE_BANDS_LO_b0_b3 + 2 ^ 32 * s.get d SLATE_BANDS_HI_b4_b6) / 256 ^ k)

def State.slateBandOf (s : State) (d : Nat) (t : Int) : Nat := ((List.range 7).filter (fun k => s.slateBound d k ≤ t)).length

/-- VLCD of a temperature, mV (R310). -/
def State.vlcdOf (s : State) (d : Nat) (t : Int) : Nat :=
  (max 2500 (min 5500 (Int.ofNat (s.get d SLATE_VLCD_v25) + s.getZ d SLATE_VLCD_tc * (t - 25)))).toNat

/-- VLCD changes (shown in 25 mV units). -/
def State.putVlcd (s : State) (d mv : Nat) : State :=
  (s.setSlate d { s.slate d with vlcd := mv }).put d SLATE_VLCD_vlcd (mv / 25)

/-- The temperature lies where an update may start (R314). -/
def State.slateWarm (s : State) (d : Nat) : Bool :=
  decide (s.getZ d SLATE_EPD_t_min ≤ s.slateT d) && decide (s.slateT d ≤ s.getZ d SLATE_EPD_t_max)

/-! ### Updates (R314, R315) -/

/-- Segments whose level differs. -/
def diffMask (a b : Nat) : Nat := ((List.range 56).filter (fun k => levelAt a k != levelAt b k)).foldl (fun m k => m + 2 ^ k) 0

/-- In Recess light and dark grey are shown as white and black (R314). -/
def recessImage (n : Nat) : Nat :=
  ((List.range 56).map (fun k => if 2 ≤ levelAt n k then 3 * 4 ^ k else 0)).foldl (· + ·) 0

/-- A run starts: its band is latched and it is journalled. -/
def State.slateStart (s : State) (d : Nat) (r : SlateRun) : State :=
  let s := (s.put d SLATE_STAT_band_latched r.band).put d SLATE_STAT_state 3
  (s.setSlate d { s.slate d with run := some r }).putJournal d (jrnBytes r 0)

/-- An update that waits, or else a scheduled refresh, starts if it may now. -/
def State.slateTry (s : State) (d : Nat) : State :=
  let x := s.slate d
  if s.slateState d ≠ 2 ∨ s.isEpd d = false ∨ s.now < x.restUntil ∨ s.switchGap = true ∨ x.stopping = true then s
  else match x.next with
    | some img =>
      if !s.slateWarm d then
        if s.flag d SLATE_STAT_deferred then s else (s.putB d SLATE_STAT_deferred true).raise d 73 (arg 0 1)
      else
        let t := if s.get d PWR_STAT_recess = 0 then levelsOf img else recessImage (levelsOf img)
        let m := diffMask (levelsOf (s.slateShown d)) t ||| x.refresh
        let s := (s.putB d SLATE_STAT_deferred false).putB d SLATE_STAT_refresh_pending false
        let s := s.setSlate d { x with next := none, refresh := 0 }
        s.slateStart d { step := .update, band := s.get d SLATE_STAT_band, mask := m, target := t, since := s.now }
    | none =>
      if s.flag d SLATE_STAT_refresh_pending then
        let s := (s.putB d SLATE_STAT_refresh_pending false).inc d SLATE_REFRESH_CNT
        let s := s.setSlate d { x with refresh := 0 }
        s.slateStart d { step := .refresh, band := s.get d SLATE_STAT_band, mask := x.refresh,
                         target := levelsOf (s.slateShown d), since := s.now }
      else s

/-- SLATE_UPDATE (R312, R314). -/
def execSlateUpdate (d : Nat) (s : State) : Res :=
  onF s d <|
    let st := s.slateState d
    if st = 0 ∨ st = 5 then s
    else if s.isEpd d && !s.flag d SLATE_STAT_wf_ok then s.raise d 73 (arg 0 0)
    else (s.setSlate d { s.slate d with next := some (s.slateImg d) }).slateTry d

/-- REST_TIMER (R314, R315). -/
def execRestTimer (d : Nat) (s : State) : Res := onF s d (s.slateTry d)

/-- TEMP_SAMPLE (R313). -/
def execTempSample (d : Nat) (s : State) : Res :=
  onF s d <|
    let t := s.slateSample d
    let s := (s.putZ d SLATE_TEMP_temp t).put d SLATE_STAT_band (s.slateBandOf d t)
    let s := s.setSlate d { s.slate d with vlcdGoal := s.vlcdOf d t }
    if s.flag d SLATE_STAT_deferred then s.slateTry d else s

/-! ### Power-off (R317) -/

/-- Every pin goes to 0 V and the pumps discharge. -/
def State.slateDischarge (s : State) (d : Nat) : State :=
  let s := (s.put d SLATE_STAT_state 5).putB d SLATE_STAT_deferred false
  let s := s.putB d SLATE_STAT_refresh_pending false
  s.setSlate d { s.slate d with run := none, next := none, refresh := 0, stopping := false }

/-- The Slate powers off; a frame pair or an update in progress is finished first. -/
def State.slateOff (s : State) (d : Nat) : State :=
  let st := s.slateState d
  if st = 0 ∨ st = 5 then s
  else if st = 1 then s.slateDischarge d
  else if (s.slate d).run.isSome ∨ s.isEpd d = false then
    (((s.putB d SLATE_STAT_deferred false).putB d SLATE_STAT_refresh_pending false).setSlate d
      { s.slate d with stopping := true, next := none, refresh := 0 })
  else s.slateDischarge d

/-- SLATE_DISABLE (R317): by a write of 0 to enable. -/
def execSlateDisable (d : Nat) (s : State) : Res := onF s d ((s.putB d SLATE_CTRL_enable false).slateOff d)

/-- The Slate powers up (R316). -/
def State.slateOn (s : State) (d : Nat) : State :=
  if s.slateState d = 0 then (s.put d SLATE_STAT_state 1).setSlate d { s.slate d with brown := false, stopping := false } else s

/-- SLATE_ENABLE (R316): a Slate that still discharges powers up once it is Off. -/
def execSlateEnable (d : Nat) (s : State) : Res := onF s d ((s.putB d SLATE_CTRL_enable true).slateOn d)

/-- PUMP_DISCHARGED (R317, R318): the state becomes Off; at the end of a power-off the retention store is written and
F-076 raised, at that of a brown-out warning neither. -/
def execPumpDischarged (d : Nat) (s : State) : Res :=
  onF s d <|
    if s.slateState d ≠ 5 then s
    else
      let brown := (s.slate d).brown
      let s := (s.put d SLATE_STAT_state 0).putVlcd d 0
      let s := if brown then s else (s.slateStore d).raise d 76
      if s.flag d SLATE_CTRL_enable && !brown && s.get d PWR_STAT_recess == 0 then s.slateOn d else s

/-- The stop at a brown-out warning (R317): mid-phase, with the journal as it stands copied to the retention store. -/
def State.slateBrown (s : State) (d : Nat) : State :=
  let s := s.slateKeep d
  let s := if s.slateState d = 0 then s
    else (s.put d SLATE_STAT_state 5).setSlate d { s.slate d with run := none, brown := true, stopping := false }
  s.slateStore d

/-! ### Running (R309, R316, R318, R319) -/

/-- The Slate enters Running, with an update that waits starting if it may. -/
def State.slateRun (s : State) (d : Nat) : State := (s.put d SLATE_STAT_state 2).slateTry d

/-- INTERRUPTED_UPDATE_CLEAR (R319), step 1: the compensation for the phase the journal names. -/
def State.slateClear (s : State) (d : Nat) : State :=
  let b := s.slateJrn d
  let r : SlateRun := {
    step := .compensate, band := leField b 1 1, phase := leField b 2 1, mask := leField b 8 8,
    target := leField b 16 14, since := s.now, cut := leField b 2 1, elapsed := leField b 4 2 }
  (s.put d SLATE_STAT_state 4).setSlate d { s.slate d with run := some r }

/-- PUMP_SETTLED (R316). -/
def execPumpSettled (d : Nat) (s : State) : Res :=
  onF s d <|
    if s.slateState d ≠ 1 then s
    else if !s.isEpd d then
      let v := s.vlcdOf d (s.slateT d)
      ((s.setSlate d { s.slate d with vlcdGoal := v }).putVlcd d v).put d SLATE_STAT_state 2
    else if s.flag d SLATE_STAT_jrn_valid then s.slateClear d
    else s.slateRun d

/-- FRAME_PAIR_BOUNDARY (R309, R310, R317) of the liquid-crystal type: outside Recess a new image is taken up and VLCD
moves toward its value; a power-off that waited begins. -/
def execFramePairBoundary (d : Nat) (s : State) : Res :=
  onF s d <|
    let x := s.slate d
    if s.slateState d ≠ 2 ∨ s.isEpd d = true then s
    else if x.stopping then s.slateDischarge d
    else if s.get d PWR_STAT_recess ≠ 0 then s
    else
      let v := if x.vlcd < x.vlcdGoal then min x.vlcdGoal (x.vlcd + 50) else max x.vlcdGoal (x.vlcd - 50)
      let s := s.putVlcd d v
      match x.next with
      | none => s
      | some img =>
        if s.switchGap then s
        else (((s.putShown d img).setSlate d { s.slate d with next := none }).inc d SLATE_UPD_CNT).raise d 72

/-- Length of the phase a run is in, in ms: the compensation of an even phase repeats the elapsed time, that of an odd
one takes what remained. -/
def Slate.runMs (x : Slate) (r : SlateRun) : Nat :=
  if r.step = .compensate then
    (if r.cut % 2 = 0 then r.elapsed else x.duration r.band r.cut - r.elapsed)
  else x.duration r.band r.phase

/-- Drive code of segment `k` in a run (R314, R315, R319), `shown` being the level on the panel: 0 ground; 1 +vdrive;
2 -vdrive. -/
def Slate.segDrive (x : Slate) (shown : Nat) (r : SlateRun) (k : Nat) : Nat :=
  let a := levelAt shown k
  let b := levelAt r.target k
  if !r.mask.testBit k then 0
  else match r.step with
    | .update => x.drive r.band r.phase a b
    | .refresh => x.drive r.band r.phase a a
    | .compensate =>
      let c := x.drive r.band r.cut a b
      if r.cut % 2 = 1 ∨ c = 0 then c else 3 - c
    | .black => x.drive r.band r.phase 0 3
    | .white => x.drive r.band r.phase 3 0
    | .rewrite => x.drive r.band r.phase 0 b

/-- What segment pin `k` of an electrophoretic panel is driven to now: a drive code; 0 V while nothing runs. -/
def State.slateSeg (s : State) (d k : Nat) : Nat :=
  match (s.slate d).run with
  | none => 0
  | some r => (s.slate d).segDrive (levelsOf (s.slateShown d)) r k

/-- The denominator of the liquid-crystal bias levels (R309). -/
def State.panelBias (s : State) (d : Nat) : Nat := [1, 2, 3, 3].getD (s.get d SLATE_CFG_bias) 3

/-- What pin COM`k` (`com`) or SEG`k` of the panel is driven to (R308, R309), in phase `phase` of a liquid-crystal frame whose polarity
is inverted where `inv`. Which of the bias levels a pin takes the spec leaves to the panel's image. -/
def State.panelPin (s : State) (d : Nat) (com : Bool) (k phase : Nat) (inv : Bool) : PanelLevel :=
  if s.slateState d = 0 ∨ s.slateState d = 5 then .ground
  else if s.isEpd d then
    (if com then (if k = 0 then .ground else .highZ)
     else match s.slateSeg d k with
      | 1 => .plus
      | 2 => .minus
      | _ => .ground)
  else if com then
    (if s.get d SLATE_CFG_mux < k then .ground else if k ≠ phase then .bias (s.panelBias d) else if inv then .ground else .vlcd)
  else if k < 40 then .bias (s.panelBias d) else .ground

/-- UPDATE_END (R314, R315). -/
def State.slateEnd (s : State) (d : Nat) (r : SlateRun) : State :=
  let upd := r.step == .update
  let s := (s.putShown d (wordsOf r.target)).putJournal d (fillBytes 32 0)
  let s := if upd then s.inc d SLATE_UPD_CNT else s
  let s := s.raise d 72
  let x := s.slate d
  let s := (s.put d SLATE_STAT_state 2).setSlate d { x with
    run := none, restUntil := s.now + s.get d SLATE_EPD_rest_ms * Config.tMs }
  if x.stopping then s.slateDischarge d
  else
    let band := s.get d SLATE_STAT_band
    if upd && (decide (r.band + 2 ≤ band) || decide (band + 2 ≤ r.band)) then
      ((s.setSlate d { s.slate d with refresh := r.mask }).putB d SLATE_STAT_refresh_pending true).raise d 74 (arg 0 band)
    else s

/-- Step 4 of R319. -/
def State.slateCleared (s : State) (d : Nat) (r : SlateRun) : State :=
  let s := (s.putShown d (wordsOf r.target)).putJournal d (fillBytes 32 0)
  let x := s.slate d
  let s := s.setSlate d { x with run := none, store := x.store.map (fun p => (fillBytes 32 0, p.2)) }
  let s := (s.inc d SLATE_CLEAR_CNT).raise d 75
  if x.stopping then s.slateDischarge d else s.slateRun d

/-- The step of the clearing that follows another. -/
def State.slateNext (s : State) (d : Nat) (r : SlateRun) (step : SlateStep) : State :=
  s.setSlate d { s.slate d with run := some { r with step := step, phase := 0, since := s.now } }

/-- PHASE_BOUNDARY (R314, R318, R319): the phase in progress has run its time. -/
def execPhaseBoundary (d : Nat) (s : State) : Res :=
  onF s d <|
    let x := s.slate d
    match x.run with
    | none => s
    | some r =>
      if s.due (r.since + x.runMs r * Config.tMs) = false then s
      else if r.step = .compensate then s.slateNext d r .black
      else if r.phase + 1 < x.phases r.band then
        let r' := { r with phase := r.phase + 1, since := s.now }
        let s := s.setSlate d { x with run := some r' }
        if r'.journalled then s.putJournal d (jrnBytes r' 0) else s
      else match r.step with
        | .update => s.slateEnd d r
        | .refresh => s.slateEnd d r
        | .compensate => s
        | .black => s.slateNext d r .white
        | .white => s.slateNext d r .rewrite
        | .rewrite => s.slateCleared d r

end Sys2Proof.Machine
end

