-- ==== Sys2Proof/Machine/Reset.lean ====
section
/-! DEFINITION. Die reset and the failed start (R8 of 00_scope, R116, R120, R318, R352, R353, R360): what a reset of a die
clears and what outlives it. -/

namespace Sys2Proof.Machine

/-- The fields of a die's register blocks that a warm reset leaves alone (R8). -/
def stickyFields (isL : Bool) : List Field :=
  (fieldsSYS ++ fieldsPWR ++ fieldsCLK ++ fieldsLOCK ++ (if isL then fieldsQUE ++ fieldsMIRR else fieldsRFT ++ fieldsSLATE)).filter
    (·.sticky)

/-- The keys of those fields on a die. -/
def State.stickyKeys (s : State) (d : Nat) : List Nat :=
  (stickyFields (s.isL d)).flatMap (fun f => (List.range f.count).map (f.key d))

/-- A register key lies in the HIF block, which is one for the package and is held at die 0. -/
def isHifKey (k : Nat) : Bool := decide (k / 32 < dieWindow) && decide (0x240000 ≤ k / 32) && decide (k / 32 < 0x280000)

/-- Registers after a reset of die `d`: at a warm reset the sticky fields stay. -/
def State.resetRegs (s : State) (d : Nat) (powerOn hif : Bool) : SMap Nat :=
  let keep := if powerOn then [] else s.stickyKeys d
  s.regs.filter fun e =>
    if isHifKey e.1 && s.isL 0 then !hif
    else e.1 / 32 / dieWindow != d || keep.contains e.1

/-- A block after a reset: the accumulators of an open block are lost with the DRAM (R242), unless its rows carry parity. -/
def Blk.kept (k : Blk) : Blk :=
  { k with acc := false, accLost := k.accLost || (k.st == .opened && k.acc && !k.full) }

/-- What NAND keeps of an archive controller's state (R227 to R250): everything programmed. Health counts and totals go on. -/
def Arc.kept (a : Arc) : Arc :=
  { nand := a.nand, layout := a.layout, layout2 := a.layout2, bad := a.bad, bad2 := a.bad2,
    entries := a.entries.filter (fun e => decide (e.seq < a.onNand)), onNand := a.onNand, pages := a.pages,
    pageSeqs := a.pageSeqs.filter (fun e => decide (e.2.2 ≤ a.onNand)), pageFrom := a.onNand, columnNo := a.columnNo,
    columns := a.columns.filter (fun c => a.columnStands c.no []), amends := a.amends.take a.amendNand, amendFrom := a.amendNand,
    amendNand := a.amendNand, amendPages := a.amendPages,
    amendRanges := a.amendRanges.filter (fun e => decide (e.2.2 ≤ a.amendNand)), lostSeqs := a.lostSeqs,
    host := a.host.filter (fun h => (smGet a.map (keyHost h.1)).isSome), hostLost := a.hostLost,
    blocks := a.blocks.map (fun e => (e.1, e.2.kept)), stripeNo := a.stripeNo, failed := a.failed, map := a.map, dirty := a.dirty,
    jrn := a.jrn, closeNo := a.closeNo, ckpts := a.ckpts, ckptNext := a.ckptNext, ckptLeft := a.ckptLeft, ckptStart := a.ckptStart,
    ckptTables := a.ckptTables, patrolFrom := a.patrolFrom, govNext := a.govNext, govSummary := a.govSummary, wearNext := a.wearNext,
    saves := a.saves, health := a.health }

/-- The Locker after a reset: fuses stay; marks are zero; slots with reset_expiry are cleared, at power-on all of them, when
also a lifecycle step takes effect (R114, R116, R120). -/
def Lock.reset (k : Lock) (powerOn : Bool) : Lock :=
  { fuses := k.fuses, lc := if powerOn then Lock.lifecycleOf k.fuses else k.lc,
    slots := if powerOn then [] else k.slots.filter (fun p => !p.2.resetExpiry) }

/-- The common part of a die after a reset. Device time keeps counting in the always-on domain except at power-on. -/
def Com.reset (c : Com) (powerOn : Bool) : Com :=
  { clk := if powerOn then 0 else c.clk, lock := c.lock.reset powerOn,
    pwr := { refLost := c.pwr.refLost, tripAt := if powerOn then none else c.pwr.tripAt }, age := c.age }

/-- The Slate after a reset: the waveform memory outlives a warm reset; at power-on the journal and SLATE_SHOWN are
reloaded from the retention store (R316, R318). -/
def Slate.reset (x : Slate) (powerOn : Bool) : Slate := { wave := if powerOn then [] else x.wave, store := x.store }

/-- The commands whose downlinks an F-die holds. -/
def State.dlCmds (s : State) (d : Nat) : List Nat :=
  let r := s.rad d
  let p := (s.f d).plc
  let dls := r.txq.filterMap (·.dl) ++ r.txq.filterMap (·.follow) ++ r.acks.filterMap (·.follow) ++ r.follows.map (·.dl)
    ++ (p.cur.toList ++ p.queue).filterMap (·.dl)
  dls.filterMap (·.cmd) ++ (s.hif.timed.filter (fun x => x.path % 8 == d)).map (·.cmd)

/-- Commands that die `d` was executing, or whose downlinks it held, complete with 0x010A (R226); resync and update-die outlive
the resets they cause (R264, R273). -/
def State.failCmds (s : State) (d : Nat) : State :=
  let lives (op : Nat) : Bool := op == 0x51 || op == 0x53
  let ids := (s.hif.inflight.filter (fun c => c.die == d && !lives c.opcode)).map (·.id) ++ (if s.isF d then s.dlCmds d else [])
  let s := ids.foldl (fun s i => s.complete i 0x010A) s
  { s with hif := { s.hif with
      longOps := s.hif.longOps.filter (fun o => o.die != d || lives o.opcode), timed := s.hif.timed.filter (fun x => x.path % 8 != d) } }

/-- Messages from and to a die that is reset are lost. -/
def State.dropMsgs (s : State) (d : Nat) : State :=
  let addr := s.addrOf d
  { s with
    hand := s.hand.filter (fun m => m.src != d && m.dst != d), back := s.back.filter (fun m => m.src != d && m.dst != d),
    ttPub := s.ttPub.filter (fun m => m.1 != d), partPub := s.partPub.filter (fun m => m.1 != d),
    mirrors := s.mirrors.filter (fun m => m.src != d && m.dst != d), confirms := s.confirms.filter (fun m => m.1 != d),
    ledMsgs := s.ledMsgs.filter (fun m => m.src != addr && s.deliverDie m.dst != d),
    hif := { s.hif with evtNet := s.hif.evtNet.filter (fun m => m.die != d) } }

/-- The link of a port whose die is reset goes down. -/
def State.portGone (s : State) (d : Nat) : State :=
  if !s.isPort d then s
  else
    let s := if d = 0 then ((s.putB 0 HIF_STAT_a_up false).put 0 HIF_STAT_a_speed 0).put 0 HIF_STAT_a_width 0
      else ((s.putB 0 HIF_STAT_b_up false).put 0 HIF_STAT_b_speed 0).put 0 HIF_STAT_b_width 0
    if s.linkUp 0 || s.linkUp 1 then s else { s with hif := { s.hif with portsDown := some (s.hif.portsDown.getD s.now) } }

/-- The host interface keeps its state while a port die lives; else only what the host's memory holds is left. -/
def Hif.reset (h : Hif) (now : Nat) : Hif := { hostOut := h.hostOut, msixSent := h.msixSent, nextId := h.nextId, portsDown := some now }

/-- The other port die still runs. -/
def State.otherPort (s : State) (d : Nat) : Bool := decide (d < 2) && s.isL (1 - d) && s.alive (1 - d) && s.get (1 - d) SYS_BOOT_stage != 0

/-- The broadcast sequences after a reset of an F-die (R141): they resume at what the active L-die stores, plus 4,096. -/
def Campaign.reset (c : Campaign) : Campaign :=
  { stored := c.stored,
    counters := (List.range 8).map (fun n => (n, (smGetD c.stored 0 n + 4096) % 2 ^ 32)) }

/-- Die `d` is reset. A die that is held in reset keeps showing its role. A save that has started completes first (R335). -/
def State.dieReset (s : State) (d : Nat) (powerOn : Bool) : State :=
  let role := if s.pkg.fenced.contains d && s.isL d then s.role d else 0
  let tj := if powerOn then 0 else s.get d PWR_TEMP_tj
  let sensor := if powerOn then 0 else s.get d PWR_TEMP_sensor
  let s := if s.saving d then s.commitSave d else s
  let s := if s.isF d && !powerOn then s.slateKeep d else s
  let s := (s.failCmds d).dropMsgs d
  let hif := s.isPort d && !s.otherPort d
  let s := if hif then { s with hif := s.hif.reset s.now } else s.portGone d
  let s := { s with regs := s.resetRegs d powerOn hif }
  let s := (s.put d PWR_TEMP_tj tj).put d PWR_TEMP_sensor sensor
  let s := s.setCom d ((s.com1 d).reset powerOn)
  if s.isL d then
    let x := s.l d
    let euf : Euf := { srcs := x.euf.srcs, dsts := x.euf.dsts, waiting := x.euf.waiting, unreach := x.euf.unreach }
    (s.setL d { arc := x.arc.kept, euf := if powerOn then {} else euf }).put d MIRR_STAT_role role
  else
    let x := s.f d
    let s := s.setFd d { radio := { campaign := x.radio.campaign.reset }, slate := x.slate.reset powerOn }
    if powerOn then
      match x.slate.store with
      | some (j, w) => (s.putJournal d j).putShown d w
      | none => s
    else s

/-- Every die of the package is reset at once: of the fabric only what the journal holds is left. -/
def State.resetEvery (s : State) : State :=
  let s := (List.range s.nDies).foldl (fun s d => s.dieReset d false) s
  let s := s.setFab { runs := s.fab.runs, version := s.fab.version }
  (List.range s.nL).foldl (fun s d => s.setEuf d {}) s

/-! ### The start clock, and failed starts (R352, R353) -/

/-- The start clock, seconds. -/
def State.startClk (s : State) : Nat := s.pkg.boot.clkBase + s.now / 10 ^ 8

def State.boot (s : State) : Boot := s.pkg.boot
def State.setBoot (s : State) (b : Boot) : State := { s with pkg := { s.pkg with boot := b } }
def State.bootDie (s : State) (d : Nat) : BootDie := (s.com1 d).boot
def State.setBootDie (s : State) (d : Nat) (b : BootDie) : State := s.setCom d { s.com1 d with boot := b }

/-- Every die of the package. -/
def State.dies (s : State) : List Nat := List.range s.nDies

/-- Put an entry into the start log, which keeps the last 16. -/
def Boot.logPut (b : Boot) (e : StartEnt) : Boot :=
  let l := b.log.filter (fun x => x.seq != e.seq) ++ [e]
  { b with log := l.drop (l.length - 16) }

/-- A failed start counts (R353): the third within 600 s of the first of those three brings Remedial mode. -/
def Boot.countFail (b : Boot) (clock : Nat) : Boot :=
  let l := (clock :: b.fails).take 16
  let third : Bool := match l[2]? with
    | some t => decide (clock ≤ t + 600)
    | none => false
  { b with fails := l, remedial := if third && b.remedial == 0 then 7 else b.remedial }

/-- The bank on trial has failed: the other is preferred again if its security version permits (R353). -/
def Boot.trialFailed (b : Boot) (svn : Nat) : Boot :=
  match b.trial with
  | none => b
  | some t =>
    let other := if t = 2 then b.preferred else 1 - t
    let ok := match smGet b.images other with
      | some i => decide (svn ≤ i.svn)
      | none => false
    { b with trial := none, preferred := if t = 2 then b.preferred else if ok then other else t }

/-- The start in progress fails with a status at a die (R352): its log entry, SYS_BOOT.reason, the counts, and a reset of
every die. A failure that counts as a failed start after its start succeeded is only counted. -/
def State.failStart (s : State) (status die : Nat) : State :=
  let b := s.boot
  let s := (s.dies).foldl (fun s d => s.put d SYS_BOOT_reason (status % 256)) s
  match b.current with
  | none =>
    let b := b.countFail s.startClk
    s.setBoot { b with report := some (status % 256, b.seqNext - 1) }
  | some e =>
    let time := if s.get die CLK_STAT_quality = 2 then 0 else s.devTime die
    let low := (s.dies.map s.stage).foldl min 7
    let e := { e with result := 1, stage := max e.stage low, reason := status % 256, die := die, time := time }
    let b := (b.logPut e).countFail e.clock
    let rej := if status = 0x0901 then b.rejected + 1 else 0
    let b := { b with current := none, report := some (status % 256, e.seq), rejected := rej,
                      remedial := if 2 ≤ rej ∧ b.remedial = 0 then 1 else b.remedial }
    let s := s.setBoot (if b.trial = some e.bank then b.trialFailed (s.lock 0).fuses.svn else b)
    s.resetEvery

/-- HB_OUT (R348, R360): toggles per second, 0 while held low: driven by L0, or by L1 while L0 is neither Active nor
Single. -/
def State.hbOut (s : State) : Nat :=
  let d := if s.stage 0 = 15 ∨ (s.isL 1 = true ∧ s.stage 1 = 15) then (if s.stage 0 = 15 then 0 else 1)
    else if s.serving 0 ∨ s.isL 1 = false then 0 else 1
  if s.stage d = 15 then 1 else if 2 ≤ s.stage d then 1000 else 0

end Sys2Proof.Machine
end

