-- ==== Sys2Proof/Machine/Timetable.lean ====
section
/-! DEFINITION. The timetable MAC of an F-die: enabling, bells, broadcast campaigns (03_timetable_mac R61 to R65,
R79 to R81; R141). -/

namespace Sys2Proof.Machine

/-- TT_n_STAT.no_key: the bell key or the broadcast key is absent (R141). -/
def State.ttNoKey (s : State) (d n : Nat) : Bool := (s.lockKey d (16 + n)).isNone || (s.lockKey d (24 + n)).isNone

/-- The mode code of the single SUN mode of a slot, if it has one. -/
def State.slotSun (s : State) (d c : Nat) : Option Nat :=
  match s.get d CHN_SLOT_MODEn_mode_mask c with
  | 1 => some 1
  | 2 => some 2
  | 4 => some 3
  | 8 => some 4
  | _ => none

/-- The published parameters of a timetable (R63). -/
def State.ttParams (s : State) (d n : Nat) (running : Bool) : TtParams :=
  { die := d, num := n, chan := s.get d TT_n_CHAN_slot n, running := running, follow := s.flag d TT_n_CTRL_follow n,
    slotLen := s.get d TT_n_FRAME_slot_len n, slots := s.get d TT_n_FRAME_slots n,
    txLead := s.get d TT_n_TIMING_tx_lead n, ackDelay := s.get d TT_n_TIMING_ack_delay n,
    guardMin := s.get d TT_n_WIN_guard_min n, winCap := s.get d TT_n_WIN_win_cap n,
    uInit := s.get d TT_n_LEARN_u_init n, joinPpm := s.get d TT_n_LEARN_join_ppm n,
    truantHold := s.get d TT_n_LEARN_truant_hold n, hpFirst := s.get d TT_n_HP_hp_first n,
    hpStride := s.get d TT_n_HP_hp_stride n, openFirst := s.get d TT_n_OPEN_open_first n,
    openStride := s.get d TT_n_OPEN_open_stride n, bcFirst := s.get d TT_n_BC_bc_first n,
    bcCount := s.get d TT_n_BC_bc_count n, periodMax := s.get d TT_n_PERIOD_period_max n,
    start := s.get2 d TT_n_START_LO_start_lo TT_n_START_HI_start_hi n,
    eui := leBytes 8 (s.get2 d TT_n_EUI_LO_eui_lo TT_n_EUI_HI_eui_hi n),
    since := smGetD (s.rad d).ttSince 0 n, till := if running then none else some (s.devTime d) }

/-- The bell's PSDU length with its 2-byte FCS (R64). -/
def bellPsdu : Nat := 65

/-- The configuration fields that a following timetable must share (R63: all but TT_n_CHAN.slot). -/
def ttShared : List Field := [TT_n_CHAN_bell_fec, TT_n_CHAN_network, TT_n_FRAME_slot_len, TT_n_FRAME_slots,
  TT_n_TIMING_tx_lead, TT_n_TIMING_ack_delay, TT_n_WIN_guard_min, TT_n_WIN_win_cap, TT_n_LEARN_u_init,
  TT_n_LEARN_join_ppm, TT_n_LEARN_truant_hold, TT_n_HP_hp_first, TT_n_HP_hp_stride, TT_n_OPEN_open_first,
  TT_n_OPEN_open_stride, TT_n_BC_bc_first, TT_n_BC_bc_count, TT_n_PERIOD_period_max, TT_n_START_LO_start_lo,
  TT_n_START_HI_start_hi, TT_n_EUI_LO_eui_lo, TT_n_EUI_HI_eui_hi]

/-- The other F-die of an SG4-F2L2. -/
def State.otherF (s : State) (d : Nat) : Option Nat :=
  if s.variant.fDies = 2 then some (if d = s.fIndex 0 then s.fIndex 1 else s.fIndex 0) else none

/-- The conditions of R63 on enabling timetable `n`. -/
def State.ttOk (s : State) (d n : Nat) : Bool :=
  let p := s.ttParams d n true
  let slotOk := match s.slotSun d p.chan with
    | none => false
    | some m =>
      s.flag d CHN_SLOT_CTRLn_enable p.chan && s.flag d CHN_SLOT_MODEn_scheduled p.chan
      && decide (sunTicks m (s.flag d TT_n_CHAN_bell_fec n) bellPsdu + 2000 * Config.tUs ≤ p.slotLen * 100 * Config.tUs)
      && decide (sunLead m + 100 * Config.tUs ≤ p.txLead * Config.tUs)
  let alone := (List.range 8).all (fun t => t = n || !s.flag d TT_n_STAT_running t || s.get d TT_n_CHAN_slot t != p.chan)
  let ranges := decide (40 ≤ p.slotLen ∧ p.slotLen ≤ 2500 ∧ 16 ≤ p.slots ∧ p.slots ≤ 4096 ∧ 1000 ≤ p.txLead
    ∧ p.txLead ≤ 10000 ∧ 1000 ≤ p.ackDelay ∧ p.ackDelay ≤ 5000 ∧ 1 ≤ p.periodMax ∧ p.periodMax ≤ 256)
  let follow := !p.follow || (match s.otherF d with
    | none => false
    | some o => s.flag o TT_n_STAT_running n && !s.flag o TT_n_CTRL_follow n
        && ttShared.all (fun f => s.get d f n == s.get o f n))
  slotOk && alone && ranges && decide (p.winCap + 500 ≤ p.txLead)
    && decide (p.periodMax * p.slots * 16 ≤ 16 * 2 ^ 20) && (s.lockKey d (16 + n)).isSome && follow

/-- Publish a timetable's parameters to every serving L-die (R63). -/
def State.ttPublish (s : State) (d n : Nat) (running : Bool) : State :=
  { s with ttPub := s.ttPub ++ s.servingDies.map (fun l => (l, s.ttParams d n running)) }

/-- Publish the running timetables of every F-die to L-die `l`, which has begun to serve (R63). -/
def State.ttRepublish (s : State) (l : Nat) : State :=
  (List.range s.variant.fDies).foldl (fun s f =>
    (List.range 8).foldl (fun (s : State) n =>
      if s.flag (s.fIndex f) TT_n_STAT_running n then { s with ttPub := s.ttPub ++ [(l, s.ttParams (s.fIndex f) n true)] } else s) s) s

/-- TT_ENABLE (R63): `follow` is written with the enable. -/
def execTtEnable (d n : Nat) (follow : Bool) (s : State) : Res :=
  onF s d <| if !s.domOn d 6 then s else
    if 8 ≤ n || s.flag d TT_n_STAT_running n then s
    else
      let s' := s.putB d TT_n_CTRL_follow follow n
      if s'.ttOk d n then
        let s := (s'.putB d TT_n_CTRL_enable true n).putB d TT_n_STAT_running true n
        let s := (s.putB d TT_n_STAT_cfg_error false n).putB d TT_n_STAT_no_key (s.ttNoKey d n) n
        let s := s.put d TT_STAT_running (s.get d TT_STAT_running ||| 2 ^ n)
        let s := s.setRad d { s.rad d with
          sfSeen := smDel (s.rad d).sfSeen n, ttSince := smPut (s.rad d).ttSince n (s.devTime d) }
        s.ttPublish d n true
      else (s'.putB d TT_n_STAT_cfg_error true n).raise d 47 (arg 0 n)

/-- TT_DISABLE (R63): bells and blocks not yet settling are not sent, the timetable's campaign ends; acknowledgements
due for frames received while it ran stay. -/
def execTtDisable (d n : Nat) (s : State) : Res :=
  onF s d <|
    if 8 ≤ n || !s.flag d TT_n_STAT_running n then s
    else
      let s := (s.putB d TT_n_CTRL_enable false n).putB d TT_n_STAT_running false n
      let s := s.put d TT_STAT_running (s.get d TT_STAT_running - (if bit (s.get d TT_STAT_running) n then 2 ^ n else 0))
      let s := s.setTxq d ((s.rad d).txq.filter (fun f =>
        !((f.kind == .bell || f.kind == .broadcast) && f.tt == n && (f.stage == .queued || f.stage == .handed))))
      let s := if s.flag d TT_CAMP_PROG_running && s.get d TT_CAMP_CFG_tt == n then s.campEnd d else s
      s.ttPublish d n false

/-! ### The bell (R64, R65) -/

/-- The MHR of a bell or broadcast block under level 5 with a key index: version 2, security, source PAN and
EUI-64 (R64). -/
def ttMhr (frameType seq pan counter keyIndex : Nat) (eui dst : Bytes) : Bytes :=
  let dm := if dst.isEmpty then 0 else 2
  let fc := frameType + 0x8 + 0x2000 + 0x400 * dm + 0xC000 + (if dst.isEmpty then 0 else 0x40)
  leBytes 2 fc ++ leBytes 1 seq ++ leBytes 2 pan ++ dst ++ eui ++ leBytes 1 (5 + 8) ++ leBytes 4 counter ++ leBytes 1 keyIndex

/-- The bell payload of R64. -/
def State.bellPayload (s : State) (d n k bellTime : Nat) : Bytes :=
  let p := s.ttParams d n true
  let q := s.get d CLK_STAT_quality
  let camp := s.flag d TT_CAMP_PROG_running && s.get d TT_CAMP_CFG_tt == n
  let flags := (if q = 0 then 1 else if q = 1 then 2 else 0) + 4 * b2n (s.flag d TT_n_CTRL_draining n) + 8 * b2n camp
    + 16 * b2n (s.flag d TT_n_CTRL_announce n)
  leBytes 1 1 ++ leBytes 1 flags ++ leBytes 2 (s.get d TT_n_CHAN_network n) ++ leBytes 4 k ++ leBytes 8 bellTime
    ++ leBytes 2 p.slotLen ++ leBytes 2 p.slots ++ leBytes 2 p.txLead ++ leBytes 2 p.ackDelay ++ leBytes 2 p.hpFirst
    ++ leBytes 1 p.hpStride ++ leBytes 1 p.openStride ++ leBytes 2 p.openFirst ++ leBytes 2 p.bcFirst
    ++ leBytes 2 p.bcCount ++ leBytes 2 (if camp then s.get d TT_CAMP_CFG_camp_id else 0)
    ++ leBytes 2 (if camp then s.get d TT_CAMP_BLOCKS_blocks else 0) ++ leBytes 2 0

/-- The bell's PSDU (R64, R141). -/
def State.bellFrame (s : State) (d n k bellTime : Nat) (key : Bytes) : Bytes :=
  let eui := leBytes 8 (s.get2 d TT_n_EUI_LO_eui_lo TT_n_EUI_HI_eui_hi n)
  let mhr := ttMhr 0 k (s.get d TT_n_CHAN_network n) k (n + 1) eui []
  withFcs (mhr ++ ccmSeal key (stdNonce eui k 5) mhr (s.bellPayload d n k bellTime) 4)

/-- The superframe number at device time `t` (R61), once the first superframe has begun. -/
def TtParams.sf (p : TtParams) (t : Nat) : Option Nat :=
  let len := p.slots * p.slotLen * 100 * Config.tUs
  if t < p.start ∨ len = 0 then none else some ((t - p.start) / len)

def TtParams.sfStart (p : TtParams) (k : Nat) : Nat := p.start + k * p.slots * p.slotLen * 100 * Config.tUs

/-- How long before its superframe a bell is built: it must be handed over 100 µs before its ramp-up, which at the least tx_lead of
R63 falls within a ramp time after those 100 µs. -/
def State.bellAhead (s : State) (d : Nat) : Nat := 100 * Config.tUs + s.ramp d

/-- SUPERFRAME_START (R64, R65): a superframe of timetable `n` begins; its bell is built and handed to the scheduler
for slot 0, or omitted. The command may come as early as `bellAhead`, without which R63's "always handed over in time" could not hold
(DEDUCED, assumption log 64). -/
def execSuperframeStart (d n : Nat) (s : State) : Res :=
  onF s d <|
    if 8 ≤ n || !s.flag d TT_n_STAT_running n then s
    else
      let p := s.ttParams d n true
      match p.sf (s.devTime d + s.bellAhead d) with
      | none => s
      | some k =>
        if smGet (s.rad d).sfSeen n = some k then s
        else
          let s := s.setRad d { s.rad d with sfSeen := smPut (s.rad d).sfSeen n k }
          let s := (s.put d TT_n_SF_superframe k n).putB d TT_n_STAT_no_key (s.ttNoKey d n) n
          if p.follow || decide (p.sfStart k < smGetD (s.rad d).bellFrom 0 n) then s
          else match s.sealCheck d (16 + n), s.slotSun d p.chan with
            | .inr x, some m =>
              let key := x.key
              let s := s.keyUsed d (16 + n) x
              let c := (s.slotCentre d p.chan).toNat
              let bellTime := p.sfStart k + p.txLead * Config.tUs
              s.txEnqueue d { kind := .bell, start := bellTime - sunLead m - s.ramp d,
                              dur := sunTicks m (s.flag d TT_n_CHAN_bell_fec n) bellPsdu, lo := c - txBand m / 2,
                              hi := c + (txBand m + 1) / 2, bytes := s.bellFrame d n k bellTime key, tt := n,
                              mode := m, centre := c }
            | .inl e, _ => (if e = 0x0201 then s else s.lockRefuse d (16 + n) e).bellMiss d n
            | .inr _, none => s.bellMiss d n

/-! ### Campaigns (R79 to R81) -/

/-- CAMP_START (R79). -/
def execCampStart (d : Nat) (s : State) : Res :=
  onF s d <|
    let n := s.get d TT_CAMP_CFG_tt
    if s.flag d TT_CAMP_PROG_running || !s.flag d TT_n_STAT_running n || s.flag d TT_n_CTRL_follow n
        || (s.lockKey d (24 + n)).isNone then
      (s.put d TT_CAMP_PROG_error 0x0E).raise d 48 (arg 0 (s.get d TT_CAMP_CFG_camp_id) + arg 2 0x050E)
    else
      let s := (s.putB d TT_CAMP_PROG_running true).putB d TT_CAMP_PROG_done false
      let s := (s.put d TT_CAMP_PROG_error 0).put d TT_CAMP_PROG_percent 0
      let s := (s.put d TT_CAMP_POS_block 0).put d TT_CAMP_POS_round 0
      s.setRad d { s.rad d with campaign := { (s.rad d).campaign with abort := false, sent := 0, lastEnd := 0 } }

/-- CAMP_ABORT (R81): takes effect at the next block boundary, at once when no block is under way. -/
def execCampAbort (d : Nat) (s : State) : Res :=
  onF s d <|
    if !s.flag d TT_CAMP_PROG_running then s
    else if (s.rad d).txq.any (fun f => f.kind == .broadcast) then
      s.setRad d { s.rad d with campaign := { (s.rad d).campaign with abort := true } }
    else s.campEnd d

/-- Image bytes per block (TT_CAMP_BLOCKS.block_len; values outside 16 to 200 act as 192). -/
def State.blockLen (s : State) (d : Nat) : Nat :=
  let n := s.get d TT_CAMP_BLOCKS_block_len
  if 16 ≤ n ∧ n ≤ 200 then n else 192

/-- A broadcast block's PSDU (R80, R141). -/
def State.blockFrame (s : State) (d n ctr : Nat) (key image : Bytes) : Bytes :=
  let eui := leBytes 8 (s.get2 d TT_n_EUI_LO_eui_lo TT_n_EUI_HI_eui_hi n)
  let mhr := ttMhr 1 ctr (s.get d TT_n_CHAN_network n) ctr (n + 1) eui [0xFF#8, 0xFF#8]
  let pay := leBytes 2 (s.get d TT_CAMP_CFG_camp_id) ++ leBytes 2 (s.get d TT_CAMP_POS_block)
    ++ leBytes 1 (s.get d TT_CAMP_POS_round) ++ leBytes 1 0 ++ slice image 0 (s.blockLen d)
  withFcs (mhr ++ ccmSeal key (stdNonce eui ctr 5) mhr pay 4)

/-- The bytes of the next block (R79, R80): from the DRAM of the active L-die, at the image's offset. -/
def State.campImage (s : State) (d : Nat) : Bytes :=
  let l := s.servingDies.headD 0
  let at_ := s.get d TT_CAMP_SRC_LO_src_lo + 2 ^ 32 * s.get d TT_CAMP_SRC_HI_src_hi + s.get d TT_CAMP_POS_block * s.blockLen d
  (List.range (s.blockLen d)).map (fun i => s.dramByte l (at_ + i))

/-- BROADCAST_BLOCK (R80): inside the broadcast slots of timetable `n`, the campaign's, the next block is handed to the scheduler. Blocks are back to back with 1,000 µs
between them, and none may end after the last broadcast slot. A campaign that has no block left to send, or whose abort waits, ends
instead (R81). -/
def execBroadcastBlock (d n : Nat) (s : State) : Res :=
  onF s d <|
    let p := s.ttParams d n true
    let image := s.campImage d
    if !s.flag d TT_CAMP_PROG_running || s.get d TT_CAMP_CFG_tt ≠ n || (s.rad d).txq.any (fun f => f.kind == .broadcast) then s
    else if (s.rad d).campaign.abort || s.get d TT_CAMP_BLOCKS_blocks = 0 then s.campCheck d
    else if p.bcCount = 0 then s
    else match p.sf (s.devTime d), s.sealCheck d (24 + n), s.slotSun d p.chan with
      | some k, .inr x, some m =>
        let key := x.key
        let slot := p.slotLen * 100 * Config.tUs
        let first := p.sfStart k + p.bcFirst * slot
        let last := first + p.bcCount * slot
        let ctr := smGetD (s.rad d).campaign.counters 0 n
        let b := s.blockFrame d n ctr key image
        let dur := sunTicks m (s.flag d TT_n_CHAN_bell_fec n) b.length
        let start := max (max first ((s.rad d).campaign.lastEnd + 1000 * Config.tUs)) (s.devTime d + 100 * Config.tUs)
        let c := (s.slotCentre d p.chan).toNat
        if last < start + dur + 2 * s.ramp d || s.devTime d + slot < first then s
        else (s.keyUsed d (24 + n) x).txEnqueue d
          { kind := .broadcast, start := start, dur := dur, lo := c - txBand m / 2, hi := c + (txBand m + 1) / 2, bytes := b, tt := n,
            mode := m, centre := c }
      | _, .inl e, _ => if e = 0x0201 then s else s.lockRefuse d (24 + n) e
      | _, _, _ => s

end Sys2Proof.Machine
end

