-- ==== Sys2Proof/Machine/Mirror.lean ====
section
/-! DEFINITION. The substitute die (11_substitute_redundancy R252 to R275): mirror messages, heartbeats, fences, switchover,
resynchronisation, the Invigilator, and the redundancy commands. -/

namespace Sys2Proof.Machine

def State.mir (s : State) (d : Nat) : Mirror := (s.l d).mir

/-- The die has a partner: paired mode. -/
def State.inPair (s : State) (d : Nat) : Bool := s.paired && s.isL d && s.isL (partnerOf d)

/-- Set the pair state on both dies of a pair (0 Single; 1 Protected; 2 Unprotected; 3 Resync). -/
def State.putPair (s : State) (d v : Nat) : State :=
  (s.put d MIRR_STAT_pair_state v).put (partnerOf d) MIRR_STAT_pair_state v

/-! ### Mirror messages (R27, R256) -/

/-- The last sequence number of the discontinuity log, as LEDG_DISC_IDX shows it. -/
def discNext (l : List Bytes) : Nat :=
  match l.getLast? with
  | some e => leField e 0 4 + 1
  | none => 0

/-- The die holding the mirror takes one item (R255). -/
def State.mirApply (s : State) (d : Nat) (i : MirItem) : State :=
  match i with
  | .record slot m => s.setRecs d (smPut (s.l d).recs slot m)
  | .keys slot k =>
    let q := s.l d
    let w := match k with
      | some x => smPut q.sec.wrapped slot x
      | none => smDel q.sec.wrapped slot
    s.setL d { q with sec := { q.sec with wrapped := w, cache := q.sec.cache.filter (fun e => e.slot != slot) } }
  | .packet p =>
    let q := s.que d p.cls
    let s := s.setQue d p.cls { q with packets := q.packets.filter (fun x => x.seq != p.seq) ++ [p.rebase p.heldAt (s.heldTicks d p.cls)] }
    s.put d QUE_n_SEQ_next_seq (p.seq + 1) p.cls
  | .applied cls seq status =>
    let q := s.que d cls
    s.setQue d cls { q with packets := setPkt q.packets seq (fun x => { x with applied := true, status := status }) }
  | .delivered cls seq =>
    let q := s.que d cls
    (s.setQue d cls { q with packets := q.packets.filter (fun p => decide (seq < p.seq)) }).put d QUE_n_DELIV_delivered seq cls
  | .ledger st hold t =>
    let s := s.setLed d { t with lt := max (s.led d).lt t.lt }
    ((s.put d LEDG_STAT_lt_state st).put2 d LEDG_HOLD_LO_hold_lo LEDG_HOLD_HI_hold_hi hold).put d LEDG_DISC_IDX_next_seq (discNext t.disc)
  | .timetable t => s.setL d { s.l d with tt := t }
  | .balance t => s.setL d { s.l d with bal := t }
  | .archive e =>
    if e.seq = s.arcNext d then s.arcPut d e
    else if s.arcNext d < e.seq then s.put d MIRR_ARC_LAG_entries (min 0xFFFFFFFF (e.seq + 1 - s.arcNext d))
    else s
  | .amend a => s.amendPut d a

/-- Take the first mirror message for a die, store it and confirm it. -/
def State.mirTake (s : State) (d : Nat) : State :=
  match s.mirrors.find? (fun m => m.dst == d) with
  | none => s
  | some m =>
    let s := { s with mirrors := s.mirrors.erase m }
    let s := m.items.foldl (fun s i => s.mirApply d i) s
    { s with confirms := s.confirms ++ [(m.src, m.seq)] }

/-- MIRROR_MESSAGE (R255, R256): the substitute, or a resyncing die, stores and confirms. -/
def execMirrorMessage (d : Nat) (s : State) : Res :=
  onL s d (if (s.role d = 2 ∨ s.role d = 3) ∧ s.arcFull d = false then s.mirTake d else s)

/-- What waited for mirror message `n` and those before it is done: release messages go out (R27). -/
def State.mirRelease (s : State) (d : Nat) (ok : Nat → Bool) : State :=
  let m := s.mir d
  let out := m.waits.filter (fun w => ok w.1)
  let s := s.setMir d { m with waits := m.waits.filter (fun w => !ok w.1) }
  out.foldl (fun s w => match w.2 with
    | .release f ctx hold => { s with back := s.back ++ [⟨d, f, ctx, hold, .release⟩] }) s

/-- The first confirmation for a die arrives. -/
def State.confirmTake (s : State) (d : Nat) : State :=
  match s.confirms.find? (fun c => c.1 == d) with
  | none => s
  | some c =>
    let s := { s with confirms := s.confirms.erase c }
    let m := s.mir d
    let sent := match m.outstanding.find? (fun o => o.1 == c.2) with
      | some o => o.2
      | none => s.now
    let s := s.setMir d { m with
      outstanding := m.outstanding.filter (fun o => decide (c.2 < o.1)), unconf := m.unconf.filter (fun u => decide (c.2 < u.1)) }
    let s := s.inc d MIRR_CONF_CNT
    let s := s.put d MIRR_LAT_max (max (s.get d MIRR_LAT_max) (min 0xFFFF ((s.now - sent) / 10)))
    s.mirRelease d (fun n => decide (n ≤ c.2))

/-- MIRROR_CONFIRM (R27). -/
def execMirrorConfirm (d : Nat) (s : State) : Res := onL s d (s.confirmTake d)

/-- MIRR_CFG.confirm_us in ticks. -/
def State.confirmTicks (s : State) (d : Nat) : Nat :=
  let v := s.get d MIRR_CFG_confirm_us
  (if 20 ≤ v ∧ v ≤ 200 then v else 50) * Config.tUs

/-- Packets of mirror messages that the partner has not confirmed are unprotected (R28, R256). -/
def State.markUnprotected (s : State) (d : Nat) : State :=
  (s.mir d).unconf.foldl (fun s u =>
    let q := s.que d u.2.1
    s.setQue d u.2.1 { q with packets := setPkt q.packets u.2.2 (fun x => { x with unprotected := true }) }) s

/-- Die `d` declares its partner failed, for reason 1 both paths silent, 2 fault reported, 3 mirror timeout (R258, R256): it
asks for the fence before any other step (R259). -/
def State.declareFailed (s : State) (d reason : Nat) : State :=
  if (s.mir d).fencing then s else (s.setMir d { s.mir d with fencing := true }).raise d 129 (arg 0 reason)

/-- MIRROR_CONFIRM_TIMEOUT (R256; with the link alone silent too, R258). -/
def execMirrorConfirmTimeout (d : Nat) (s : State) : Res :=
  onL s d <|
    let m := s.mir d
    match m.outstanding with
    | [] => s
    | (_, t) :: _ =>
      if s.mirroring d = false ∨ m.wireFault = true ∨ s.due (t + s.confirmTicks d) = false then s
      else
        let s := (s.markUnprotected d).mirRelease d (fun _ => true)
        let s := s.setMir d { s.mir d with outstanding := [], unconf := [] }
        let s := ((s.putPair d 2).inc d MIRR_TIMEOUT_CNT).declareFailed d 3
        s.raise d 131

/-! ### Heartbeats (R257, R258) -/

def State.silenceTicks (s : State) (d : Nat) : Nat :=
  let v := s.get d MIRR_HB_silence_us
  (if 100 ≤ v ∧ v ≤ 150 then v else 150) * Config.tUs
def State.faultQuiet (s : State) (d : Nat) : Nat :=
  let v := s.get d MIRR_HB_fault_quiet_us
  (if 10 ≤ v ∧ v ≤ 50 then v else 20) * Config.tUs

/-- The partner of a die runs and can send. -/
def State.partnerUp (s : State) (d : Nat) : Bool := s.inPair d && s.alive (partnerOf d)

/-- A path has come to life. -/
def State.pathSeen (s : State) (d : Nat) (wire : Bool) : State :=
  let m := s.mir d
  if wire then
    (if m.wireFault then s.setMir d { m with wireSeen := s.now, wireLive := some (m.wireLive.getD s.now) }
     else (s.setMir d { m with wireSeen := s.now }).putB d MIRR_STAT_wire_ok true)
  else
    (if m.linkFault then s.setMir d { m with linkSeen := s.now, linkLive := some (m.linkLive.getD s.now) }
     else (s.setMir d { m with linkSeen := s.now }).putB d MIRR_STAT_link_ok true)

/-- HEARTBEAT_MESSAGE (R257): a message of the partner's arrives on the link with its fault flag; its wire is seen with it. A
die that reports a fault sends none after 10 us. -/
def execHeartbeatMessage (d : Nat) (s : State) : Res :=
  onL s d <|
    let p := s.mir (partnerOf d)
    if s.partnerUp d = false ∨ (p.ownFault = true ∧ s.due (p.ownFaultAt + 10 * Config.tUs) = true) then s
    else
      let s := s.setMir d { s.mir d with partnerFault := p.ownFault }
      let s := s.pathSeen d false
      if (s.mir d).wireFault then s else s.pathSeen d true

/-- PATH_SILENCE (R258): nothing has arrived on the link (or wire) for silence_us; or, where the partner reports a fault, for
fault_quiet_us. -/
def execPathSilence (d : Nat) (wire : Bool) (s : State) : Res :=
  onL s d <|
    let m := s.mir d
    let fault := (s.mir (partnerOf d)).ownFault
    let seen := if wire then m.wireSeen else m.linkSeen
    let mine := if wire then m.wireFault else m.linkFault
    let other := if wire then m.linkFault else m.wireFault
    if s.inPair d = false ∨ m.fencing = true ∨ s.pkg.fenced.contains (partnerOf d) = true ∨ s.role d = 0 ∨ 4 ≤ s.role d
        ∨ s.role (partnerOf d) = 6 then s
    else if fault = true ∧ s.due (seen + s.faultQuiet d) = true then s.declareFailed d 2
    else if mine = true ∨ s.due (seen + s.silenceTicks d) = false then s
    else
      let s := s.setMir d (if wire then { m with wireFault := true, wireLive := none } else { m with linkFault := true, linkLive := none })
      let s := s.putB d (if wire then MIRR_STAT_wire_ok else MIRR_STAT_link_ok) false
      if other then s.declareFailed d 1
      else (s.inc d MIRR_PATHFAULT_CNT).raise d 130 (arg 0 (b2n wire))

/-- PATH_RESTORED (R258): a faulted path has been live for 10 ms. -/
def execPathRestored (d : Nat) (wire : Bool) (s : State) : Res :=
  onL s d <|
    let m := s.mir d
    if wire then
      (if m.wireFault = true ∧ s.partnerUp d = true then
        ((s.setMir d { m with wireFault := false, wireLive := none, wireSeen := s.now }).putB d MIRR_STAT_wire_ok true).raise d 130
          (arg 0 1 + arg 1 1)
       else s)
    else match m.linkFault, m.linkLive with
      | true, some t =>
        if s.due (t + 10 * Config.tMs) then
          ((s.setMir d { m with linkFault := false, linkLive := none }).putB d MIRR_STAT_link_ok true).raise d 130 (arg 1 1)
        else s
      | _, _ => s

/-! ### Fences (R259) -/

/-- Long operations of the pair's resync or update end with 0x0807. -/
def State.failResync (s : State) (d : Nat) : State :=
  let s := { s with hif := { s.hif with
    longOps := s.hif.longOps.map (fun (o : LongOp) =>
      if o.die = d ∧ (o.opcode = 0x51 ∨ o.opcode = 0x53) ∧ o.done = none then { o with done := some 0x0807 } else o) } }
  let s := if s.flag d MIRR_RS_PROG_running then
      ((s.putB d MIRR_RS_PROG_running false).putB d MIRR_RS_PROG_done true).put d MIRR_RS_PROG_error 0x07 else s
  if s.flag d MIRR_FW_PROG_running then
    ((s.putB d MIRR_FW_PROG_running false).putB d MIRR_FW_PROG_done true).put d MIRR_FW_PROG_error 0x07 else s

/-- The package reset controller holds die `d` in die reset: Fenced, or Failed the second time within 24 h. -/
def State.fenceDie (s : State) (d : Nat) : State :=
  if s.pkg.fenced.contains d then s
  else
    let day := 86400 * Config.tS
    let again := s.pkg.failures.any (fun f => f.1 == d && decide (s.now < f.2 + day))
    let s := s.failResync d
    let s := { s with pkg := { s.pkg with fenced := s.pkg.fenced ++ [d], failures := (d, s.now) :: s.pkg.failures } }
    let s := if s.isL d then s.put d MIRR_STAT_role (if again then 5 else 4) else s
    let s := (s.portFailover d).dieReset d false
    if again then s.failStart 0x0906 d else s

/-- The trip's condition for a restart (R339): the junction has fallen below 95 degrees. -/
def State.coolEnough (s : State) (d : Nat) : Bool := (s.com1 d).pwr.tripAt.isNone || decide (s.getZ d PWR_TEMP_tj < 95)

/-- Release a die from die reset: it restarts through bring-up on its own, which is no start of the package. -/
def State.unfence (s : State) (d : Nat) : State :=
  let s := { s with pkg := { s.pkg with fenced := s.pkg.fenced.filter (· != d) } }
  let s := s.setCom d { s.com1 d with pwr := { (s.com1 d).pwr with tripAt := none } }
  s.setBootDie d { since := s.now, alone := true }

/-- FENCED_DIE_RESTART (R259, R265): a Fenced die is restarted once: with auto_resync of the surviving die set, or where no
die serves in its place. -/
def execFencedDieRestart (d : Nat) (s : State) : Res :=
  onL s d <|
    let p := partnerOf d
    let auto := !s.inPair d || !s.serving p || s.flag p MIRR_CTRL_auto_resync
    if s.pkg.fenced.contains d && s.role d == 4 && auto && s.coolEnough d then s.unfence d else s

/-! ### Publishing the partition (R20) -/

/-- The partition as the F-dies of a package see it: the one die that decides their frames, if one serves. -/
def State.partRuns (s : State) : List (Nat × Nat) :=
  match s.handleDie 0 with
  | some d => [(0, d)]
  | none => []

def State.publishPart (s : State) : State :=
  { s with partPub := s.partPub ++ (List.range s.variant.fDies).map (fun f => (s.fIndex f, s.partRuns)) }

/-! ### Switchover (R260, R263, R197) -/

/-- The units of the new Active die run as those of the old one did. -/
def runFields : List Field :=
  [SEC_CTRL_enable, SEC_STAT_running, LEDG_CTRL_enable, LEDG_STAT_running, BAL_CTRL_enable, BAL_STAT_state]

def State.copyRun (s : State) (frm dst : Nat) : State :=
  let s1 := runFields.foldl (fun s f => s.put dst f (s.get frm f)) s
  [0, 1, 2, 3].foldl (fun s c =>
    (s.put dst QUE_n_CTRL_enable (s.get frm QUE_n_CTRL_enable c) c).put dst QUE_n_STAT_state (s.get frm QUE_n_STAT_state c) c) s1

/-- A packet of an adopted copy: whole, and rebuilt at the switchover (R194, R197). -/
def Packet.adopted (p : Packet) (red : Bool) : Packet :=
  { p with committed := true, flags := p.flags ||| 2, redelivered := p.redelivered || red }

/-- A die's copies become its queues; `red` are the items that are delivered again. Impostor detection begins anew (R180). -/
def State.adoptQueues (s : State) (d : Nat) (red : Nat → Packet → Bool) : State :=
  let x := s.l d
  let qs := x.ques.zipIdx.map (fun e => { e.1 with packets := e.1.packets.map (fun p => p.adopted (red e.2 p)) })
  let top := qs.foldl (fun a q => q.packets.foldl (fun a p => max a (p.order + 1)) a) 0
  s.setL d { x with ques := qs, orderNext := max x.orderNext top, watch := [] }

/-- QUEUE_ADOPTION (R197): the copies become the queues; items the other die had delivered after the last position are
marked as redelivered. `had` are the packets the other die still held, by class. -/
def State.adopt (s : State) (d : Nat) (had : List (List Nat)) : State :=
  let red (c : Nat) (p : Packet) : Bool := !((had.getD c []).contains p.seq)
  let n := [0, 1, 2, 3].foldl (fun a c => a + ((s.que d c).packets.filter (red c)).length) 0
  (s.adoptQueues d red).raise d 102 (arg 0 n)

/-- Sequence numbers of the packets in a die's queues. -/
def State.queSeqs (s : State) (d : Nat) : List (List Nat) := (s.l d).ques.map (fun q => q.packets.map (·.seq))

/-- Head-end submissions at a die that has not decided them go to its partner (R260). -/
def State.reroute (s : State) (frm dst : Nat) : State :=
  { s with hif := { s.hif with
    inflight := s.hif.inflight.map (fun c => if c.die = frm ∧ c.opcode = 0x81 then { c with die := dst, sent := false } else c) } }

/-- Report online as Active (R260 step 4): L-128, the switchover counted and its time recorded. -/
def State.reportOnline (s : State) (d : Nat) : State :=
  let s := (s.inc d MIRR_SWITCH_CNT).put2 d MIRR_LAST_SW_LO_sw_lo MIRR_LAST_SW_HI_sw_hi (s.devTime d)
  s.raise d 128

/-- The F-dies' Slates may start updates again (R320). -/
def State.slateResume (s : State) : State := ((List.range s.variant.fDies).map s.fIndex).foldl (fun s f => s.slateTry f) s

/-- PPS_OUT after a gap (R261): the survivor drives it on, and an edge omitted meanwhile raises L-135. -/
def State.ppsAfter (s : State) (d : Nat) (wasMaster : Bool) (lastSec : Nat) : State :=
  if !wasMaster then s
  else
    let s := s.setMaster d
    let sec := s.devTime d / 10 ^ 8
    let s := s.setDisc d { s.disc d with ppsSec := sec }
    if s.flag d CLK_CTRL_pps_out_en && decide (lastSec < sec) then s.raise d 135 else s

/-- TAKEOVER (R260): the Substitute `d` takes over from the die it has fenced. -/
def State.takeover (s : State) (d : Nat) (had : List (List Nat)) : State :=
  let s := (s.put d MIRR_STAT_role 1).putPair d 2
  let s := ((s.publishPart.ttRepublish d).reportOnline d).raise d 131
  let s := s.adopt d had
  let s := s.setMir d { s.mir d with outstanding := [], unconf := [], waits := [], opened := [] }
  (s.tryFailback).slateResume

/-- FENCE_CONFIRMED (R259, R260, R265): the fence that die `d` has asked for is granted, unless its partner is Active and
asks as well. -/
def execFenceConfirmed (d : Nat) (s : State) : Res :=
  onL s d <|
    let p := partnerOf d
    if (s.mir d).fencing = false then s
    else
      let both := (s.mir p).fencing
      let s := s.setMir d { s.mir d with fencing := false }
      if both = true ∧ s.role p = 1 then s
      else
        let had := s.queSeqs p
        let master := s.flag p CLK_STAT_master
        let lastSec := (s.disc p).ppsSec
        if s.role d = 2 ∧ s.role p = 1 then
          let s := ((s.copyRun p d).reroute p d).fenceDie p
          if s.stage d = 0 then s else (s.takeover d had).ppsAfter d master lastSec
        else if s.role p = 1 then ((s.failResync d).fenceDie p).publishPart
        else
          let s := (s.markUnprotected d).mirRelease d (fun _ => true)
          let s := s.setMir d { s.mir d with outstanding := [], unconf := [], opened := [] }
          let was := s.get d MIRR_STAT_pair_state
          let s := (s.fenceDie p).putPair d 2
          if was = 2 then s else s.raise d 131

/-- A die reports a fatal fault of its own (R257): fault flag and 25 kHz pattern. A Single die is fenced by the package reset
controller (R259); during its start it fails the start (R352). -/
def State.ownFault (s : State) (d : Nat) : State :=
  if s.isL d then
    let s := s.setMir d { s.mir d with ownFault := true, ownFaultAt := s.now }
    if s.boot.current.isSome && decide (s.stage d < 6) && !(s.bootDie d).alone then s.failStart 0x0906 d
    else if s.inPair d && s.serving (partnerOf d) || (s.inPair d && s.role d == 1 && decide (s.role (partnerOf d) = 2 ∨ s.role (partnerOf d) = 3)) then s
    else (s.fenceDie d).publishPart
  else s

/-- OWN_FATAL_FAULT (R257, R259). -/
def execOwnFatalFault (d : Nat) (s : State) : Res := onL s d (s.ownFault d)

/-! ### Planned switchover (R263) -/

/-- Bring every mirror message of die `d` to its partner, and the confirmations back. -/
def State.drainMirror (s : State) (d : Nat) : State :=
  let s := (List.range s.mirrors.length).foldl (fun s _ => s.mirTake (partnerOf d)) s
  (List.range s.confirms.length).foldl (fun s _ => s.confirmTake d) s

/-- Commands for meters and serving dies that have not begun at a die go to its partner. -/
def State.moveCmds (s : State) (frm dst : Nat) : State :=
  let served (op : Nat) : Bool := handleOps.contains op || servingOps.contains op || op == 0x80 || op == 0x81
  { s with hif := { s.hif with
    inflight := s.hif.inflight.map (fun c =>
      if c.die = frm ∧ served c.opcode = true ∧ c.opcode ≠ 0x50 ∧ (c.started = false ∨ c.opcode = 0x80) then { c with die := dst, sent := false }
      else c) } }

/-- The roles of a Protected pair swap: `d` becomes Substitute, its partner Active. -/
def State.swapRoles (s : State) (d : Nat) : State :=
  let p := partnerOf d
  let s := [0, 1, 2, 3].foldl (fun s c => s.mirAdd d (.delivered c (s.get d QUE_n_DELIV_delivered c))) s
  let s := ((s.mirSend d).drainMirror d).copyRun d p
  let x := s.sec d
  let s := { s with hand := s.hand.filter (fun m => m.dst != d) }
  let s := (s.setSec d { x with frames := [], headEnd := [], hostDls := [] }).setSec p { s.sec p with hostDls := x.hostDls }
  let s := (s.moveCmds d p).reroute d p
  let s := (s.put d MIRR_STAT_role 2).put p MIRR_STAT_role 1
  let s := s.adoptQueues p (fun _ _ => false)
  let s := if s.flag d CLK_STAT_master then s.setDisc p { s.disc p with ppsSec := (s.disc d).ppsSec } else s
  ((s.publishPart.ttRepublish p).reportOnline p).slateResume

/-- The pair of a die has a long redundancy operation running (0x0801). -/
def State.pairBusy (s : State) (d : Nat) : Bool :=
  s.hif.longOps.any (fun o => (o.opcode == 0x51 || o.opcode == 0x53) && o.done.isNone && (o.die == d || o.die == partnerOf d))

/-- SWITCHOVER, opcode 0x50. -/
def execSwitchover (d : Nat) (s : State) : Res :=
  onL s d <| s.withCmd d 0x50 fun s c =>
    if s.inPair d = false ∨ s.role d ≠ 1 then s.complete c.id 0x0803
    else if s.get d MIRR_STAT_pair_state ≠ 1 then s.complete c.id 0x0802
    else
      let s := s.swapRoles d
      s.complete c.id 0 (leBytes 8 (s.devTime (partnerOf d)))

/-! ### Repair and resynchronisation (R264 to R266) -/

/-- A die that has come back begins to resynchronise from its Active partner. -/
def State.resyncStart (s : State) (d : Nat) : State :=
  let s := (s.put d MIRR_STAT_role 3).putPair d 3
  let s := ((s.putB d MIRR_RS_PROG_running true).putB d MIRR_RS_PROG_done false).put d MIRR_RS_PROG_error 0
  let s := (s.put d MIRR_RS_PROG_percent 0).put d MIRR_RS_POS_slot 0
  let m := s.mir d
  s.setMir d { m with linkSeen := s.now, wireSeen := s.now, linkFault := false, wireFault := false, ownFault := false, fencing := false }

/-- A queue of the Active die as a resynchronised die holds it: every packet with the host-held time it has, under the hold that the
die itself counts. -/
def Queue.copyFrom (mine theirs : Queue) (held own : Nat) : Queue :=
  { mine with packets := theirs.packets.map (fun p => { p.rebase held own with committed := true }) }

/-- The whole mirror set of the Active die `a` is at `d` (R255). -/
def State.bulkCopy (s : State) (a d : Nat) : State :=
  let x := s.l a
  let y := s.l d
  let s := s.setL d { y with
    sec := { y.sec with wrapped := x.sec.wrapped, cache := [] }, recs := x.recs, led := { x.led with lt := max y.led.lt x.led.lt },
    ques := [0, 1, 2, 3].map (fun c => (s.que d c).copyFrom (s.que a c) (s.heldTicks a c) (s.heldTicks d c)), bal := x.bal, tt := x.tt }
  let s := (s.put d LEDG_STAT_lt_state (s.ltState a)).put2 d LEDG_HOLD_LO_hold_lo LEDG_HOLD_HI_hold_hi (s.holdLt a)
  let s := s.put d LEDG_DISC_IDX_next_seq (discNext x.led.disc)
  [0, 1, 2, 3].foldl (fun s c =>
    (s.put d QUE_n_SEQ_next_seq (s.get a QUE_n_SEQ_next_seq c) c).put d QUE_n_DELIV_delivered (s.get a QUE_n_DELIV_delivered c) c) s

/-- Entries of the Active die's archive that a die lacks. -/
def State.arcLag (s : State) (d : Nat) : Nat := min 0xFFFFFFFF (s.arcNext (partnerOf d) - s.arcNext d)

/-- The resync or update operation of a die ends well. -/
def State.resyncDone (s : State) (d : Nat) : State :=
  let n := (s.l (partnerOf d)).recs.length
  let s := { s with hif := { s.hif with
    longOps := s.hif.longOps.map (fun (o : LongOp) =>
      if o.die = d ∧ o.done = none then
        (if o.opcode = 0x51 then { o with done := some 0, percent := 100, countA := n, countB := s.arcLag d }
         else if o.opcode = 0x53 then { o with done := some 0, percent := 100, countA := (s.bootDie d).version } else o)
      else o) } }
  if s.flag d MIRR_FW_PROG_running then
    (((s.putB d MIRR_FW_PROG_running false).putB d MIRR_FW_PROG_done true).put d MIRR_FW_PROG_error 0).raise d 134 (arg 0 5)
  else s

/-- RESYNC_COMPLETE (R264): the bulk copy ends. -/
def execResyncComplete (d : Nat) (s : State) : Res :=
  onL s d <|
    let a := partnerOf d
    if s.role d ≠ 3 ∨ s.role a ≠ 1 ∨ s.flag d MIRR_RS_PROG_running = false then s
    else
      let s := (s.drainMirror a).bulkCopy a d
      let s := (s.put d MIRR_STAT_role 2).putPair d 1
      let s := ((s.putB d MIRR_RS_PROG_running false).putB d MIRR_RS_PROG_done true).put d MIRR_RS_PROG_percent 100
      let s := (s.inc d MIRR_RESYNC_CNT).put d MIRR_ARC_LAG_entries (s.arcLag d)
      (s.resyncDone d).raise a 132

/-- ARC_CATCHUP_COMPLETE (R266): the repaired die has copied the entries it lacked. -/
def execArcCatchupComplete (d : Nat) (s : State) : Res :=
  onL s d <|
    if s.role d ≠ 2 ∨ s.get d MIRR_ARC_LAG_entries = 0 then s
    else
      let next := s.arcNext d
      let l := (s.arc (partnerOf d)).entries.filter (fun e => decide (next ≤ e.seq))
      let s := l.foldl (fun s e => s.arcPut d e) s
      (s.put d MIRR_ARC_LAG_entries 0).raise d 137

/-- A die of opcode 0x51 or 0x55 that is held in reset; the long operation is reported through its own index. -/
def execResync (d : Nat) (s : State) : Res :=
  onL s d <| s.withCmd d 0x51 fun s c =>
    if s.inPair d = false ∨ (s.role d ≠ 4 ∧ s.role d ≠ 5) then s.complete c.id 0x0803
    else if s.pairBusy d then s.complete c.id 0x0801
    else (s.startLong { cmd := c.id, die := d, opcode := 0x51 }).unfence d

/-- RELEASE, opcode 0x55 (R259): bit 0 resynchronises after the restart; a die of a pair released without it stays held,
Fenced. -/
def execRelease (d : Nat) (s : State) : Res :=
  onL s d <| s.withCmd d 0x55 fun s c =>
    if s.role d ≠ 5 then s.complete c.id 0x0803
    else
      let s := { s with pkg := { s.pkg with failures := s.pkg.failures.filter (fun f => f.1 != d) } }
      let s := s.put d MIRR_STAT_role 4
      let s := if !s.inPair d || !s.serving (partnerOf d) || c.op 16 1 % 2 == 1 then s.unfence d else s
      s.complete c.id 0

/-! ### Field dies (R267, R268) -/

/-- FOLLOW_TAKEOVER (R268): timetables of F-die `o` that follow one of the lost die send bells 2 ms from now on. -/
def State.followTakeover (s : State) (o : Nat) : State :=
  (List.range 8).foldl (fun s n =>
    if s.flag o TT_n_STAT_running n && s.flag o TT_n_CTRL_follow n then
      let s := s.putB o TT_n_CTRL_follow false n
      let r := s.rad o
      (s.setRad o { r with bellFrom := smPut r.bellFrom n (s.devTime o + 2 * Config.tMs) }).raise o 65 (arg 0 n)
    else s) s

/-- An answer that waits for its mirror message frees a hold entry of F-die `f` (R265). -/
def MirWait.releases (w : MirWait) (f : Nat) : Bool :=
  match w with
  | .release x _ _ => x == f

/-- FDIE_LOST (R267): L-die `d` finds F-die `f` silent. -/
def execFdieLost (d f : Nat) (s : State) : Res :=
  onL s d <|
    if s.isF f = false ∨ s.serving d = false ∨ s.pkg.fenced.contains f = true then s
    else
      let s := { s with pkg := { s.pkg with fenced := s.pkg.fenced ++ [f] } }
      let s := (s.dieReset f false).raise d 136 (arg 0 f)
      let s := s.setMir d { s.mir d with waits := (s.mir d).waits.filter (fun w => !w.2.releases f) }
      let others := ((List.range s.variant.fDies).map s.fIndex).filter (fun o => o != f && s.alive o)
      others.foldl (fun s o => s.followTakeover o) s

/-! ### The Invigilator (R269 to R271) -/

/-- Test `id` exists on a die's type. -/
def testOf (isL : Bool) (id : Nat) : Bool :=
  if isL then decide (1 ≤ id ∧ id ≤ 9) else [5, 6, 8, 10, 11, 12].contains id

def State.testCount (s : State) (d id corrected : Nat) (failed : Bool) : State :=
  let c := s.com1 d
  let t := smGetD c.tests (0, 0, 0) id
  let t := (satAdd32 t.1 1, min 0xFFFF (t.2.1 + corrected), min 0xFFFF (t.2.2 + b2n failed))
  s.setCom d { c with tests := smPut c.tests id t }

/-- INVIGILATOR_TEST (R269, R270): a pass of a test with its corrected errors, and whether it failed uncorrected. -/
def execInvigilatorTest (d id corrected : Nat) (failed : Bool) (s : State) : Res :=
  onDie s d <|
    if !testOf (s.isL d) id || !s.alive d then s
    else
      let s := s.testCount d id corrected failed
      if !failed then s
      else if s.isF d then s.raise d 66 (arg 0 id)
      else
        let s := (s.inc d MIRR_INVIG_FAIL_CNT).raise d 133 (arg 0 id)
        if s.role d = 2 then s.ownFault d
        else if s.role d = 1 ∧ s.get d MIRR_STAT_pair_state = 1 then (s.swapRoles d).ownFault d
        else s

/-- The report card of R271. -/
def State.reportCard (s : State) (d : Nat) : Bytes :=
  let l := s.isL d
  let c := s.com1 d
  let m := s.mir d
  let g (f : Field) : Nat := if l then s.get d f else 0
  let fl := if l then b2n (s.flag d MIRR_STAT_meas_pending) + 2 * b2n (m.linkFault || m.wireFault)
      + 4 * b2n (s.get d MIRR_ARC_LAG_entries != 0) else 0
  let tests := (List.range 12).flatMap (fun k =>
    let t := smGetD c.tests (0, 0, 0) (k + 1)
    leBytes 4 t.1 ++ leBytes 2 t.2.1 ++ leBytes 2 t.2.2)
  leBytes 1 1 ++ leBytes 1 (g MIRR_STAT_role) ++ leBytes 1 (g MIRR_STAT_pair_state) ++ leBytes 1 fl
    ++ slice c.lock.fuses.dieId 0 8 ++ leBytes 4 c.boot.version ++ leBytes 8 (s.devTime d) ++ leBytes 4 (c.lock.fuses.svn % 256)
    ++ leBytes 4 (s.get d AGE_LIFE_days) ++ tests ++ leBytes 4 (g MIRR_SWITCH_CNT) ++ leBytes 4 (g MIRR_TIMEOUT_CNT)
    ++ leBytes 4 (g MIRR_PATHFAULT_CNT) ++ leBytes 2 (g MIRR_LAT_max) ++ leBytes 2 0
    ++ leBytes 8 (if l then s.get2 d MIRR_LAST_SW_LO_sw_lo MIRR_LAST_SW_HI_sw_hi else 0) ++ fillBytes 104 0
    ++ (if l then slice (s.healthReport d) 0 256 else fillBytes 256 0)

/-- READ_REPORT_CARD, opcode 0x54. -/
def execReadReportCard (d : Nat) (s : State) : Res :=
  onDie s d <| s.withCmd d 0x54 fun s c => (s.toHost c.port (c.op 16 8) (s.reportCard d)).complete c.id 0

/-! ### Firmware (R272 to R274) -/

/-- The lifecycle's permitted signers (R113): 1 Tvedtil, 2 owner. -/
def signerOk (lc signer : Nat) : Bool :=
  if lc = 0 then signer == 1 else if lc = 1 then signer == 1 || signer == 2 else if lc = 2 then signer == 2 else false

/-- STAGE_FIRMWARE, opcode 0x52: `img` is the image the host's buffer holds. -/
def execStageFirmware (d : Nat) (img : Image) (s : State) : Res :=
  onL s d <| s.withCmd d 0x52 fun s c =>
    let b := s.boot
    if c.op 24 4 = 0 ∨ 16 * 2 ^ 20 < c.op 24 4 then s.complete c.id 0x0103
    else if s.hif.longOps.any (fun o => o.opcode == 0x52 && o.done.isNone) then s.complete c.id 0x0801
    else if !signerOk (s.lock d).lc img.signer || !img.mainOk then (s.raise d 134 (arg 0 1 + arg 2 0x0805)).complete c.id 0x0805
    else if img.svn < (s.lock d).fuses.svn then (s.raise d 134 (arg 0 1 + arg 2 0x0806)).complete c.id 0x0806
    else
      let bank := if b.preferred = 0 then 1 else 0
      let s := s.setBoot { b with images := smPut b.images bank img, preferred := bank, trial := some bank }
      let s := s.raise d 134 (arg 0 1)
      (s.startLong { cmd := c.id, die := d, opcode := 0x52 }).setLong {
        cmd := c.id, die := d, opcode := 0x52, percent := 100, countA := img.version, done := some 0 }

/-- The image that the next start boots. -/
def Boot.nextImage (b : Boot) : Option Image := smGet b.images b.preferred

/-- UPDATE_DIE, opcode 0x53 (R273, R274): a Substitute restarts with the staged image and resynchronises; a Single die's
control cores restart with it while the data path goes on. -/
def execUpdateDie (d : Nat) (s : State) : Res :=
  onDie s d <| s.withCmd d 0x53 fun s c =>
    match s.boot.nextImage with
    | none => s.complete c.id 0x0805
    | some img =>
      if s.isF d then s.complete c.id 0x0803
      else if s.pairBusy d then s.complete c.id 0x0801
      else if !s.inPair d then
        (if s.role d ≠ 0 then s.complete c.id 0x0803
         else if (s.lock d).fuses.svn < img.svn then s.complete c.id 0x0806
         else
          let s := s.setBootDie d { s.bootDie d with pendingVersion := some img.version, version := img.version }
          let s := ((s.putB d MIRR_STAT_meas_pending true).putB d MIRR_FW_PROG_done true).raise d 134 (arg 0 3)
          (s.startLong { cmd := c.id, die := d, opcode := 0x53 }).setLong {
            cmd := c.id, die := d, opcode := 0x53, percent := 100, countA := img.version, done := some 0 })
      else if s.role d ≠ 2 then s.complete c.id 0x0803
      else if s.get d MIRR_STAT_pair_state ≠ 1 then s.complete c.id 0x0802
      else
        let s := s.startLong { cmd := c.id, die := d, opcode := 0x53, pos := 3 }
        let s := ((s.drainMirror (partnerOf d)).portFailover d).dieReset d false
        let s := (s.put d MIRR_STAT_role 6).putPair d 2
        let s := ((s.putB d MIRR_FW_PROG_running true).putB d MIRR_FW_PROG_done false).put d MIRR_FW_PROG_step 3
        (s.setBootDie d { since := s.now, alone := true }).raise (partnerOf d) 131

end Sys2Proof.Machine
end

