-- ==== Sys2Proof/Machine/Fabric.lean ====
section
/-! DEFINITION. The Eufer fabric (12_eufer_fabric R277 to R294): ports, link layer, flows, roll call, routing, the partition and
the commands 0x60 to 0x63. -/

namespace Sys2Proof.Machine

/-- The kinds of control message that the rows of this chapter take (R285, R286, R288, R290). -/
def FabCtl.isCandidacy : FabCtl → Bool
  | .candidacy _ _ => true
  | _ => false
def FabCtl.isClaim : FabCtl → Bool
  | .claim _ _ => true
  | .table _ _ => true
  | _ => false
def FabCtl.isLinkState : FabCtl → Bool
  | .linkState _ => true
  | _ => false
def FabCtl.isPartition : FabCtl → Bool
  | .partition _ _ => true
  | _ => false
def FabCtl.isOnline : FabCtl → Bool
  | .online _ _ => true
  | .formed => true
  | _ => false


/-! ### The package in the fabric -/

/-- The die that acts in roll call: the lowest-index L-die that is Active or Single. -/
def State.acting (s : State) : Nat := s.servingDies.head?.getD 0

/-- Every L-die of the package. -/
def State.lDies (s : State) : List Nat := List.range s.nL

/-- Put a register of every L-die's EUF block. -/
def State.eufAll (s : State) (f : Field) (v : Nat) (i : Nat := 0) : State := s.lDies.foldl (fun s d => s.put d f v i) s

/-- EUF_STAT.rc_stage, which every L-die shows alike. -/
def State.rcStage (s : State) : Nat := s.get 0 EUF_STAT_rc_stage

/-- The package identity: die_id of L0 as the layout record holds it since the first ledger enable (R252). -/
def State.identity (s : State) : Nat :=
  match (s.arc s.acting).layout with
  | some l => l.package.getD (leNat (s.lock 0).fuses.dieId)
  | none => leNat (s.lock 0).fuses.dieId

/-- The package holds a number. -/
def State.numbered (s : State) : Bool := s.flag 0 EUF_STAT_pkg_valid

def State.isCoord (s : State) : Bool := s.flag 0 EUF_STAT_coordinator

/-- The package number recorded in the layout record (R286). -/
def State.recordedNumber (s : State) : Option Nat := (s.arc s.acting).layout.bind (·.number)

/-- Take the package number, and record it (R286). -/
def State.setNumber (s : State) (n : Nat) : State :=
  let s := (s.eufAll EUF_STAT_package n).eufAll EUF_STAT_pkg_valid 1
  s.lDies.foldl (fun s d =>
    match (s.arc d).layout with
    | some l => s.setLayout d { l with number := some n }
    | none => s) s

/-! ### Flows (R281, R282) -/

/-- Send a flow's messages again from the first unacknowledged one. -/
def State.flowResend (s : State) (d cls dst : Nat) : State :=
  let f := s.flowSrc d cls dst
  if f.unacked.isEmpty then s
  else
    let s := s.setFlowSrc d cls dst { f with since := s.now, noRoute := none }
    let s := f.unacked.foldl (fun s m => s.flowXmit d dst m.seq m.body) s
    s.inc d EUF_RETX_CNT f.unacked.length

/-- The route of a flow from die `d`. -/
def State.flowRoute (s : State) (d cls dst : Nat) : Bool := s.formed d && (s.hopFor d (s.addrOf d) dst cls).isSome

/-- The routes have changed: flows resend at once where their destination has a route, and begin to wait where it has none. -/
def State.flowsReroute (s : State) : State :=
  s.lDies.foldl (fun s d =>
    if s.flowHome d != d then s
    else (s.euf d).srcs.foldl (fun s e =>
      let cls := e.1 / 2048
      let dst := e.1 % 2048
      if s.flowRoute d cls dst then s.flowResend d cls dst
      else s.setFlowSrc d cls dst { e.2 with noRoute := some (e.2.noRoute.getD s.now) }) s) s

/-- FLOW_DELIVERY (R281): the next message of a flow that ends at die `d`. Its acknowledgement frees the retransmit buffer; the
message is delivered if it is the next of its flow, and discarded otherwise. -/
def execFlowDelivery (d : Nat) (s : State) : Res :=
  onL s d <|
    match (s.euf d).flowIn with
    | [] => s
    | m :: rest =>
      let s := s.setEuf d { s.euf d with flowIn := rest }
      let f := s.flowSrc d m.cls m.src
      let left := f.unacked.filter (fun x => decide (m.ack < x.seq))
      let moved := decide (left.length < f.unacked.length)
      let s := if moved then s.setFlowSrc d m.cls m.src { f with unacked := left, since := s.now } else s
      let s := if moved then s.drainWaiting d (s.flowWaiting d).length else s
      match m.body with
      | .led b =>
        let r := s.flowDst d m.cls m.src
        let owed := some (r.owed.getD s.now)
        if m.seq = r.expect then
          { s.setFlowDst d m.cls m.src { expect := r.expect + 1, owed := owed } with ledMsgs := s.ledMsgs ++ [⟨m.src, m.dst, b⟩] }
        else s.setFlowDst d m.cls m.src { r with owed := owed }
      | .ackOnly => s
      | .ctl _ => s

/-- ACK_ONLY_TIMER (R281): an acknowledgement has been owed for 20 us. -/
def execAckOnlyTimer (d cls src : Nat) (s : State) : Res :=
  onL s d <|
    let r := s.flowDst d cls src
    match r.owed, s.hopFor d (s.addrOf d) src cls with
    | some t, some h =>
      if s.due (t + 20 * Config.tUs) then
        (s.setFlowDst d cls src { r with owed := none }).portSend h
          { dst := src, src := s.addrOf d, cls := cls, ack := r.expect - 1, body := .ackOnly }
      else s
    | _, _ => s

/-- RETRANSMIT_TIMEOUT (R281): 200 us without acknowledgement progress. -/
def execRetransmitTimeout (d cls dst : Nat) (s : State) : Res :=
  onL s d <|
    let f := s.flowSrc d cls dst
    if f.noRoute.isSome ∨ s.due (f.since + 200 * Config.tUs) = false then s else s.flowResend d cls dst

/-- EUF_TIMING.unreach_ms in ticks: values outside 100 to 10,000 act as 1,000. -/
def State.unreachTicks (s : State) (d : Nat) : Nat :=
  let v := s.get d EUF_TIMING_unreach_ms
  (if 100 ≤ v ∧ v ≤ 10000 then v else 1000) * Config.tMs

/-- UNREACH_TIMEOUT (R282): messages that have had no route for unreach_ms are dropped; their numbers are not used again. -/
def execUnreachTimeout (d cls dst : Nat) (s : State) : Res :=
  onL s d <|
    let f := s.flowSrc d cls dst
    match f.noRoute with
    | none => s
    | some t =>
      let old (m : FlowMsg) : Bool := s.due (max t m.entered + s.unreachTicks d)
      let n := (f.unacked.filter old).length
      if n = 0 then s
      else
        let s := s.setFlowSrc d cls dst { f with unacked := f.unacked.filter (fun m => !old m) }
        let s := (s.inc d EUF_UNREACH_CNT n).drainWaiting d (s.flowWaiting d).length
        if limiterOpen (smGet (s.euf d).unreach dst) s.now (60 * Config.tS) then
          (s.setEuf d { s.euf d with unreach := smPut (s.euf d).unreach dst s.now }).raise d 141 (arg 0 dst)
        else s

/-! ### Routes (R288, R289) -/

/-- Packages at the far ends of a package's links, as the link-state records of both ends say. -/
def linkedTo (l : SMap LinkRec) (p : Nat) : List Nat :=
  match smGet l p with
  | none => []
  | some r => (r.ports.map (fun x => x.2 / 8)).filter (fun q =>
      match smGet l q with
      | none => false
      | some t => t.ports.any (fun y => y.2 / 8 == p))

/-- One hop further: the packages reached for the first time. -/
def nextRing (l : SMap LinkRec) (seen ring : List Nat) : List Nat :=
  (ring.flatMap (linkedTo l)).foldl (fun a q => if a.contains q || seen.contains q then a else a ++ [q]) []

/-- Hop counts from a package, at most `k` hops: package and hops. -/
def hopsFrom (l : SMap LinkRec) (n : Nat) (seen ring : List Nat) : Nat → List (Nat × Nat)
  | 0 => []
  | k + 1 =>
    let r := nextRing l seen ring
    if r.isEmpty then [] else r.map (fun q => (q, n + 1)) ++ hopsFrom l (n + 1) (seen ++ r) r k

/-- Hop counts of every package that `p` reaches. -/
def hopTable (l : SMap LinkRec) (p k : Nat) : List (Nat × Nat) := (p, 0) :: hopsFrom l 0 [p] [p] k

def hopsTo (t : List (Nat × Nat)) (q : Nat) : Option Nat := (t.find? (fun e => e.1 == q)).map (·.2)

/-- A route: hops, next-hop dies on shortest paths, and the loop-free alternate. -/
structure Route where
  hops : Nat
  next : List Nat
  alt : Option Nat
  deriving DecidableEq, Repr

/-- The route from package `p` to `q`: the dies of its ports whose neighbour is one hop nearer, at most four; the alternate is
another port whose neighbour does not lead back. `ns` are the package's ports with the hop tables of their neighbours. -/
def routeTo (mine : List (Nat × Nat)) (ns : List (Nat × List (Nat × Nat))) (p q : Nat) : Route :=
  match hopsTo mine q with
  | none => { hops := 31, next := [], alt := none }
  | some h =>
    if h = 0 ∨ 16 < h then { hops := if h = 0 then 0 else 31, next := [], alt := none }
    else
      let near := (ns.filter (fun n => hopsTo n.2 q == some (h - 1))).map (·.1)
      let alt := ns.find? (fun n => !near.contains n.1 && (match hopsTo n.2 q, hopsTo n.2 p with
        | some a, some b => decide (a < b + h)
        | _, _ => false))
      { hops := h, next := near.take 4, alt := alt.map (·.1) }

/-- The package's own ports that are up: die and package at the far end. -/
def State.ownPorts (s : State) : List (Nat × Nat) :=
  (s.lDies.filter (fun d => s.portUp d && s.flag d EUF_NEIGH_valid)).map (fun d => (d, s.get d EUF_NEIGH_addr))

def hopCode : Option Nat → Nat
  | none => 0
  | some d => 8 + d

/-- Put a route into a die's table. -/
def State.putRoute (s : State) (d p : Nat) (r : Route) : State :=
  let n (k : Nat) : Nat := hopCode r.next[k]?
  let s := ((s.put d EUF_ROUTEp_hops r.hops p).put d EUF_ROUTEp_nh0 (n 0) p).put d EUF_ROUTEp_nh1 (n 1) p
  ((s.put d EUF_ROUTEp_nh2 (n 2) p).put d EUF_ROUTEp_nh3 (n 3) p).put d EUF_ROUTEp_alt (hopCode r.alt) p

/-- The route a die's table holds. -/
def State.routeOf (s : State) (d p : Nat) : List Nat :=
  [s.get d EUF_ROUTEp_hops p, s.get d EUF_ROUTEp_nh0 p, s.get d EUF_ROUTEp_nh1 p, s.get d EUF_ROUTEp_nh2 p, s.get d EUF_ROUTEp_nh3 p,
    s.get d EUF_ROUTEp_alt p]

/-- Compute the routes of the package, without `EUF_REROUTE_CNT` and events. -/
def State.newRoutes (s : State) : State :=
  let l := s.fab.links
  let p := s.ownPkg 0
  let mine := hopTable l p 256
  let ns := s.ownPorts.map (fun x => (x.1, hopTable l (x.2 / 8) 256))
  (List.range 256).foldl (fun s q =>
    let r := routeTo mine ns p q
    s.lDies.foldl (fun s d => s.putRoute d q r) s) s

/-- A table entry's reachability follows the routes: hops, and member or unreachable. -/
def State.entReach (s : State) (e : FabEnt) : FabEnt :=
  match e.number with
  | none => e
  | some p =>
    let h := s.get 0 EUF_ROUTEp_hops p
    { e with hops := if h = 31 then 0xFF else h, state := if e.state = 1 ∧ h = 31 then 4 else if e.state = 4 ∧ h ≠ 31 then 1 else e.state }

/-- Packages more than 16 hops away raise L-141 once per roll call (R288). -/
def State.farPackages (s : State) : State :=
  let far := (hopTable s.fab.links (s.ownPkg 0) 256).filter (fun e => decide (16 < e.2) && !s.fab.noRoute.contains e.1)
  far.foldl (fun s e => (s.setFab { s.fab with noRoute := s.fab.noRoute ++ [e.1] }).raise s.acting 141 (arg 0 (8 * e.1))) s

/-- EUF_COORD.members. -/
def State.putMembers (s : State) : State :=
  s.eufAll EUF_COORD_members ((s.fab.table.filter (fun e => e.state == 1)).length)

/-- Recompute and install the routes in every L-die (R288, R289); where any changed, L-142, and flows take the new paths. -/
def State.reroute1 (s : State) : State :=
  let before := (List.range 256).map (s.routeOf 0)
  let s := s.newRoutes
  let s := s.setFab { s.fab with table := s.fab.table.map s.entReach }
  let s := s.putMembers.farPackages
  let s := s.lDies.foldl (fun s d => s.inc d EUF_REROUTE_CNT) s
  if (List.range 256).map (s.routeOf 0) = before then s else (s.raise s.acting 142).flowsReroute

/-- The link-state record of this package (R285). -/
def State.ownRec (s : State) : LinkRec :=
  { number := s.ownPkg 0, identity := s.identity, version := s.fab.linkVersion, ports := s.ownPorts, partVer := s.fab.version,
    dies := s.nL }

/-- The links of the package have changed: a new record is flooded, and the routes follow. -/
def State.linkChange (s : State) : State :=
  let s := s.setFab { s.fab with linkVersion := s.fab.linkVersion + 1 }
  if !s.numbered then s
  else
    let r := s.ownRec
    let s := s.setFab { s.fab with links := smPut s.fab.links r.number r }
    (s.flood (.linkState r)).reroute1

/-! ### Roll call (R285 to R287) -/

/-- A candidacy is lower than another: prio first, then the identity. -/
def candBelow (a b : Nat × Nat) : Bool := decide (a.1 < b.1) || (a.1 == b.1 && decide (a.2 < b.2))

/-- The package's own candidacy, with the acting die's EUF_CFG. -/
def State.ownCand (s : State) : Nat × Nat := (s.get s.acting EUF_CFG_prio, s.identity)

/-- The L-dies' EUF_CFG differ (R285). -/
def State.cfgDiffers (s : State) : Bool :=
  let v (d : Nat) : List Nat := [s.get d EUF_CFG_prio, s.get d EUF_CFG_pkg_req, s.get d EUF_CFG_pkg_req_en]
  s.lDies.any (fun d => v d != v s.acting)

/-- Step 1 begins: the package floods its candidacy. -/
def State.election (s : State) : State :=
  let c := s.ownCand
  let s := s.setFab { s.fab with best := some c, quietFrom := s.now }
  (s.eufAll EUF_STAT_coordinator 0).flood (.candidacy c.1 c.2)

/-- Roll call starts, or starts again before the fabric is formed (R285). -/
def State.rollCall (s : State) : State :=
  let s := s.setFab { s.fab with started := s.now, claims := [], table := [], online := [], noRoute := [] }
  let s := s.eufAll EUF_STAT_rc_stage 1
  (if s.cfgDiffers then s.raise s.acting 140 (arg 0 3) else s).election

/-- The package's claim (R286). -/
def State.ownClaim (s : State) : Option Nat :=
  match s.recordedNumber with
  | some n => some n
  | none => if s.flag s.acting EUF_CFG_pkg_req_en then some (s.get s.acting EUF_CFG_pkg_req) else none

/-- Insert a claim, ascending by identity. -/
def putClaim (id : Nat) (n : Option Nat) : List (Nat × Option Nat) → List (Nat × Option Nat)
  | [] => [(id, n)]
  | (i, m) :: t => if id = i then (id, n) :: t else if id < i then (id, n) :: (i, m) :: t else (i, m) :: putClaim id n t

/-- The lowest number not in a list. -/
def lowestFree (used : List Nat) : Option Nat := (List.range 256).find? (fun n => !used.contains n)

/-- Grant the claims of R286, which are listed by ascending identity: of two claims to one number the lower identity has it,
the other package is in Conflict; packages without a claim get the lowest free numbers; none left: Excluded. -/
def grant (claims : List (Nat × Option Nat)) : List FabEnt :=
  let held := claims.foldl (fun (a : List Nat) c => match c.2 with
    | some n => if a.contains n then a else a ++ [n]
    | none => a) []
  let one (a : List Nat × List Nat × List FabEnt) (c : Nat × Option Nat) : List Nat × List Nat × List FabEnt :=
    match c.2 with
    | some n =>
      if a.1.contains n then (a.1, a.2.1, a.2.2 ++ [{ identity := c.1, number := none, state := 2 }])
      else (a.1 ++ [n], a.2.1, a.2.2 ++ [{ identity := c.1, number := some n, state := 1 }])
    | none =>
      match lowestFree a.2.1 with
      | some n => (a.1 ++ [n], a.2.1 ++ [n], a.2.2 ++ [{ identity := c.1, number := some n, state := 1 }])
      | none => (a.1, a.2.1, a.2.2 ++ [{ identity := c.1, number := none, state := 3 }])
  (claims.foldl one ([], held, [])).2.2

/-- Report this package's L-dies to the coordinator (R285 step 5), or note it where this package is coordinator. -/
def State.reportOnlineDie (s : State) (d : Nat) : State :=
  let up := s.serving d && decide (5 ≤ s.stage d)
  let a := 8 * s.ownPkg d + d
  let s := s.setFab { s.fab with online := smPut s.fab.online a up }
  if s.isCoord then s else s.flood (.online a up)

/-- The bits of the dies whose ledger is online, by package. -/
def onlineBits (o : SMap Bool) (p : Nat) : Nat :=
  (List.range 8).foldl (fun b d => if smGetD o false (8 * p + d) then b + 2 ^ d else b) 0

/-- The fabric is formed (R285): L-139, and messages that wait leave. -/
def State.form (s : State) : State :=
  if s.rcStage = 6 then s
  else
    let ms := min 0xFFFF ((s.now - s.fab.started) / Config.tMs)
    let s := (s.eufAll EUF_STAT_rc_stage 6).eufAll EUF_RC_TIME_ms ms
    (s.raise s.acting 139 (arg 0 ms)).flowsReroute

/-- Every die of every member package has reported. -/
def State.allReported (s : State) : Bool :=
  s.fab.table.all (fun e => match e.number with
    | none => true
    | some p => e.state != 1 || (match smGet s.fab.links p with
        | some r => (List.range r.dies).all (fun d => (smGet s.fab.online (8 * p + d)).isSome)
        | none => false))

/-- The coordinator floods "formed" once every die has reported. -/
def State.formCheck (s : State) : State :=
  let s := s.setFab { s.fab with table := s.fab.table.map (fun e => match e.number with
    | some p => { e with online := onlineBits s.fab.online p }
    | none => e) }
  if s.isCoord && decide (5 ≤ s.rcStage) && s.allReported then (s.flood .formed).form else s

/-- Step 5 begins. -/
def State.step5 (s : State) : State :=
  if s.rcStage = 4 then s.eufAll EUF_STAT_rc_stage 5 else s

/-- Step 4 (R285, R290): the partition of highest version held is published; none above version 0, nothing is. -/
def State.step4 (s : State) : State :=
  let s := s.eufAll EUF_STAT_rc_stage 4
  let top := s.fab.links.foldl (fun a e => max a e.2.partVer) s.fab.version
  if top = 0 then s.step5
  else if s.fab.version = top then (s.flood (.partition s.fab.version s.fab.runs)).step5
  else s

/-- Step 3 ends when the links of every member are known. -/
def State.step3Check (s : State) : State :=
  let known := s.fab.table.all (fun e => match e.number with
    | some p => e.state != 1 || (smGet s.fab.links p).isSome
    | none => true)
  if s.rcStage = 3 && known then s.step4 else s

/-- The package's place in a fabric table: its number, or Conflict or Excluded with L-140 (R286). -/
def State.takePlace (s : State) (e : FabEnt) : State :=
  match e.number with
  | some n => ((s.setNumber n).eufAll EUF_STAT_conflict 0).eufAll EUF_STAT_excluded 0
  | none =>
    let s := s.eufAll EUF_STAT_pkg_valid 0
    if e.state = 3 then (s.eufAll EUF_STAT_excluded 1).raise s.acting 140 (arg 0 2)
    else (s.eufAll EUF_STAT_conflict 1).raise s.acting 140 (arg 0 1)

/-- A fabric table takes effect: EUF_COORD, the own place, and step 3 with the own link state (R285, R287). -/
def State.adoptTable (s : State) (coord : Nat) (t : List FabEnt) : State :=
  let old := s.fab.table
  let keep (e : FabEnt) : FabEnt := match old.find? (fun o => o.identity == e.identity) with
    | some o => { e with online := o.online, hops := o.hops, partVer := o.partVer, seen := o.seen }
    | none => e
  let s := s.setFab { s.fab with table := t.map keep }
  let s := (s.eufAll EUF_COORD_coord coord).putMembers
  match t.find? (fun e => e.identity == s.identity) with
  | none => s.flood (.claim s.identity s.ownClaim)
  | some e =>
    let s := s.takePlace e
    let s := if s.rcStage = 1 ∨ s.rcStage = 2 then s.eufAll EUF_STAT_rc_stage 3 else s
    s.linkChange.step3Check

/-- The coordinator grants the claims it holds and floods the table. -/
def State.grantAll (s : State) : State :=
  let t := grant s.fab.claims
  let own := match (t.find? (fun e => e.identity == s.identity)).bind (·.number) with
    | some n => n
    | none => s.ownPkg 0
  (s.flood (.table own t)).adoptTable own t

/-- Take the first control message that `want` accepts. -/
def State.takeCtl (s : State) (want : FabCtl → Bool) (k : State → FabCtl → State) : State :=
  match s.fab.inbox.find? want with
  | none => s
  | some c => k (s.setFab { s.fab with inbox := s.fab.inbox.erase c }) c

/-- CANDIDACY (R285 step 1): a candidacy lower than the best seen is forwarded. -/
def execCandidacy (d : Nat) (s : State) : Res :=
  onL s d <| s.takeCtl FabCtl.isCandidacy fun s c =>
      match c with
      | .candidacy p i =>
        let better := match s.fab.best with
          | none => true
          | some b => candBelow (p, i) b
        if better then (s.setFab { s.fab with best := some (p, i), quietFrom := s.now }).flood c else s
      | _ => s

/-- ELECTION_QUIET (R285 steps 1 and 2): 20 ms without a lower candidacy: the package with the lowest is coordinator and grants;
the others send it their claim. -/
def execElectionQuiet (d : Nat) (s : State) : Res :=
  onL s d <|
    if s.fab.best.isNone ∨ s.due (s.fab.quietFrom + 20 * Config.tMs) = false ∨ s.isCoord = true
        ∨ (s.rcStage ≠ 1 ∧ s.rcStage ≠ 6) then s
    else if s.fab.best = some s.ownCand then
      let s := s.eufAll EUF_STAT_coordinator 1
      if s.rcStage = 6 then s.eufAll EUF_COORD_coord (s.ownPkg 0)
      else
        let s := s.eufAll EUF_STAT_rc_stage 2
        (s.setFab { s.fab with claims := putClaim s.identity s.ownClaim s.fab.claims }).grantAll
    else if s.rcStage = 6 then
      (match s.fab.table.find? (fun e => s.fab.best.map (·.2) == some e.identity) with
        | some e => s.eufAll EUF_COORD_coord (e.number.getD (s.get 0 EUF_COORD_coord))
        | none => s)
    else (s.eufAll EUF_STAT_rc_stage 2).flood (.claim s.identity s.ownClaim)

/-- CLAIM (R286): the coordinator takes a claim, grants, and floods the table; another package forwards a claim it has not
seen, and adopts a table it has not seen. -/
def execClaim (d : Nat) (s : State) : Res :=
  onL s d <| s.takeCtl FabCtl.isClaim fun s c =>
      match c with
      | .claim i n =>
        if s.fab.claims.contains (i, n) then s
        else
          let s := s.setFab { s.fab with claims := putClaim i n s.fab.claims }
          if s.isCoord then s.grantAll else s.flood c
      | .table co t =>
        if s.isCoord then s
        else if t.map (fun e => (e.identity, e.number, e.state)) = s.fab.table.map (fun e => (e.identity, e.number, e.state))
            ∧ s.get 0 EUF_COORD_coord = co then s
        else (s.flood c).adoptTable co t
      | _ => s

/-- The coordinator's package can no longer be reached (R287): the rest elect a new one, and nothing else changes. -/
def State.coordLost (s : State) : State :=
  let c := s.get 0 EUF_COORD_coord
  if s.rcStage = 6 && !s.isCoord && c != s.ownPkg 0 && s.get 0 EUF_ROUTEp_hops c == 31 then s.election else s

/-- LINK_STATE_RECORD (R288): a newer record is stored, flooded on, and the routes recomputed. -/
def execLinkStateRecord (d : Nat) (s : State) : Res :=
  onL s d <| s.takeCtl FabCtl.isLinkState fun s c =>
      match c with
      | .linkState r =>
        let newer := match smGet s.fab.links r.number with
          | some o => decide (o.version < r.version) || o.identity != r.identity
          | none => true
        if !newer || r.number == s.ownPkg 0 then s
        else
          let seen := s.devTime s.acting
          let s := s.setFab { s.fab with
            links := smPut s.fab.links r.number r
            table := s.fab.table.map (fun e => if e.number = some r.number then { e with partVer := r.partVer, seen := seen } else e) }
          (((s.flood c).reroute1).coordLost).step3Check
      | _ => s

/-! ### The partition (R290, R291) -/

/-- A partition comes into force: EUF_PART_VER, the journal, the F-dies' tables, L-143. -/
def State.storePart (s : State) (v : Nat) (runs : List (Nat × Nat)) : State :=
  let s := s.setFab { s.fab with runs := runs, version := v }
  let s := (s.eufAll EUF_PART_VER_version v).publishPart
  s.raise s.acting 143 (arg 0 v)

/-- PARTITION_PUBLICATION (R285 step 4, R290): a partition of higher version is stored and flooded on. -/
def execPartitionPublication (d : Nat) (s : State) : Res :=
  onL s d <| s.takeCtl FabCtl.isPartition fun s c =>
      match c with
      | .partition v runs => (if s.fab.version < v then (s.storePart v runs).flood c else s).step5
      | _ => s

/-- LEDGER_ONLINE_REPORT (R285 step 5): a report reaches the coordinator, "formed" reaches a package, or die `d` makes its own
report. -/
def execLedgerOnlineReport (d : Nat) (s : State) : Res :=
  onL s d <|
    let pick := s.fab.inbox.find? FabCtl.isOnline
    match pick with
    | some (.online a up) =>
      let s := s.setFab { s.fab with inbox := s.fab.inbox.erase (.online a up) }
      if s.isCoord then (s.setFab { s.fab with online := smPut s.fab.online a up }).formCheck
      else if smGet s.fab.online a = some up then s
      else (s.setFab { s.fab with online := smPut s.fab.online a up }).flood (.online a up)
    | some .formed =>
      let s := s.setFab { s.fab with inbox := s.fab.inbox.erase .formed }
      if s.rcStage = 5 then (s.flood .formed).form else s
    | _ => if 5 ≤ s.rcStage then (s.reportOnlineDie d).formCheck else s

/-! ### Ports (R277, R278, R292, R351) -/

/-- Every L-die of the package has left Restoring, or has been declared failed (R351). -/
def State.allRestored (s : State) : Bool :=
  s.lDies.all (fun d => s.pkg.fenced.contains d || s.role d == 4 || s.role d == 5 || (decide (5 ≤ s.stage d) && s.stage d != 15))

/-- The port begins to train. -/
def State.eufTrain (s : State) (d : Nat) : State :=
  if s.get d EUF_STAT_port_state = 0 ∧ s.allRestored = true ∧ s.domOn d 11 = true then
    (s.put d EUF_STAT_port_state 1).setEuf d { s.euf d with since := s.now }
  else s

/-- EUF_PORT_ENABLE (R277, R351). -/
def execEufPortEnable (d : Nat) (s : State) : Res :=
  onL s d <| if !s.domOn d 11 then s else ((s.putB d EUF_CTRL_enable true).putB d EUF_STAT_cfg_error false).eufTrain d

/-- A port that is Draining has nothing outstanding left. -/
def State.eufDrained (s : State) (d : Nat) : State :=
  if s.get d EUF_STAT_port_state = 5 ∧ (s.euf d).out.isEmpty = true then (s.put d EUF_STAT_port_state 0).raise d 138 (arg 0 3) else s

/-- A link has come up or gone down: before the fabric is formed roll call starts again, afterwards the link state changes. -/
def State.linkEvent (s : State) : State := if s.rcStage = 6 then s.linkChange else if s.rcStage = 0 then s else s.rollCall

/-- A neighbour that comes up learns the coordinator, the table and the partition (R287). -/
def State.greet (s : State) (d : Nat) : State :=
  if s.rcStage ≠ 6 then s
  else
    let put (s : State) (c : FabCtl) : State := s.portSend d { dst := 0, src := s.addrOf d, cls := 0, body := .ctl c }
    let s := put s (.table (s.get 0 EUF_COORD_coord) s.fab.table)
    let s := s.fab.links.foldl (fun s e => put s (.linkState e.2)) s
    if s.fab.version = 0 then s else put s (.partition s.fab.version s.fab.runs)

/-- LINK_TRAINING_COMPLETE (R277): `lanes` 4 or 2 have trained, with the die of fabric address `far` at the other end; on any
other count the port stays down. -/
def execLinkTrainingComplete (d lanes far : Nat) (s : State) : Res :=
  onL s d <|
    if s.get d EUF_STAT_port_state ≠ 1 then s
    else if lanes = 4 ∨ lanes = 2 then
      let s := s.put d EUF_STAT_port_state (if lanes = 4 then 2 else 3)
      let s := (s.put d EUF_NEIGH_addr far).putB d EUF_NEIGH_valid true
      let s := s.setEuf d { s.euf d with txNext := 0, rxNext := 0, out := [], progress := s.now, replays := 0, answer := none }
      ((s.raise d 138 (arg 0 (if lanes = 4 then 1 else 2))).linkEvent).greet d
    else (s.put d EUF_STAT_port_state 4).setEuf d { s.euf d with since := s.now }

/-- LINK_RETRAIN (R277): a port that is down tries again every 100 ms. -/
def execLinkRetrain (d : Nat) (s : State) : Res :=
  onL s d <|
    if s.get d EUF_STAT_port_state = 4 ∧ s.due ((s.euf d).since + 100 * Config.tMs) = true then
      (s.put d EUF_STAT_port_state 1).setEuf d { s.euf d with since := s.now }
    else s

/-- The link of a port is lost (R278, R289): L-138; its next hops are dropped at once and the link state flooded. -/
def State.linkLost (s : State) (d : Nat) : State :=
  let st := s.get d EUF_STAT_port_state
  if st = 5 then (s.setEuf d { s.euf d with out := [] }).eufDrained d
  else if st ≠ 2 ∧ st ≠ 3 then s
  else
    let s := ((s.put d EUF_STAT_port_state 4).putB d EUF_NEIGH_valid false).inc d EUF_LINKDOWN_CNT
    let s := s.setEuf d { s.euf d with since := s.now, out := [] }
    ((s.raise d 138 (arg 0 0)).linkEvent).coordLost

/-- LINK_DOWN (R278): block lock lost, or 20 us without progress while flits are outstanding. -/
def execLinkDown (d : Nat) (s : State) : Res := onL s d (s.linkLost d)

/-- EUF_PORT_DISABLE (R292). -/
def execEufPortDisable (d : Nat) (s : State) : Res :=
  onL s d <|
    let st := s.get d EUF_STAT_port_state
    let s := s.putB d EUF_CTRL_enable false
    if st = 0 ∨ st = 5 then s
    else if st = 2 ∨ st = 3 then
      let s := (s.putB d EUF_NEIGH_valid false).linkChange
      (s.put d EUF_STAT_port_state 5).eufDrained d
    else (s.put d EUF_STAT_port_state 0).raise d 138 (arg 0 3)

/-- FLIT_RECEIVED (R278): a flit with sequence number `seq`; `crcOk` says whether its CRC holds; `ackTo` is the next flit the
far end expects, asked for again if `nack`; `m` is the message the flit completes, if any. -/
def execFlitReceived (d seq : Nat) (crcOk : Bool) (ackTo : Nat) (nack : Bool) (m : Option FabMsg) (s : State) : Res :=
  onL s d <|
    let e := s.euf d
    let st := s.get d EUF_STAT_port_state
    if st ≠ 2 ∧ st ≠ 3 ∧ st ≠ 5 then s
    else if !crcOk then s.setEuf d { e with answer := some (true, e.rxNext) }
    else
      let out := e.out.filter (fun o => decide (ackTo ≤ o.1))
      let moved := decide (out.length < e.out.length)
      let e := { e with out := out, progress := if moved then s.now else e.progress,
                        replays := if nack then (if moved then 1 else e.replays + 1) else if moved then 0 else e.replays }
      let s := if nack then s.inc d EUF_CRC_CNT else s
      let new := seq == e.rxNext && st != 5
      let e := if new then { e with rxNext := e.rxNext + 1 } else e
      let s := s.setEuf d { e with answer := some (false, e.rxNext) }
      let s : State := match new, m with
        | true, some x => (s.inc d EUF_RX_MSG_CNT).setEuf d { s.euf d with inq := (s.euf d).inq ++ [x] }
        | _, _ => s
      if 32 ≤ (s.euf d).replays then s.linkLost d else s.eufDrained d

/-- FABRIC_MESSAGE (R279, R288): the next message received on the port of die `d` is taken in, or goes on toward its package; with
ttl 0 it is discarded. An Excluded package carries no traffic (R286). -/
def execFabricMessage (d : Nat) (s : State) : Res :=
  onL s d <|
    match (s.euf d).inq with
    | [] => s
    | m :: rest =>
      let s := s.setEuf d { s.euf d with inq := rest }
      match m.body with
      | .ctl c => s.setFab { s.fab with inbox := s.fab.inbox ++ [c] }
      | _ =>
        if s.flag d EUF_STAT_excluded then s
        else if m.dst / 8 = s.ownPkg d ∧ s.numbered = true then
          let t := s.deliverDie m.dst
          if s.isL t then s.setEuf t { s.euf t with flowIn := (s.euf t).flowIn ++ [m] } else s
        else if m.ttl = 0 then s.inc d EUF_TTL_CNT
        else
          match s.hopFor d m.src m.dst m.cls with
          | none => s
          | some h => s.portSend h { m with ttl := m.ttl - 1 }

/-! ### Commands (R293) -/

/-- A fabric table entry in the layout of R293. -/
def FabEnt.bytes (e : FabEnt) : Bytes :=
  leBytes 8 e.identity ++ leBytes 1 (e.number.getD 0xFF) ++ leBytes 1 e.state ++ leBytes 1 e.online ++ leBytes 1 e.hops
    ++ leBytes 4 e.partVer ++ leBytes 8 e.seen ++ leBytes 8 0

/-- The 256 entries of read-fabric: a package with a number at that index, the others at the lowest unused ones. -/
def fabLayout (t : List FabEnt) : List (Option FabEnt) :=
  let named := (List.range 256).map (fun p => t.find? (fun e => e.number == some p))
  let rest := t.filter (fun e => e.number.isNone)
  (named.foldl (fun (a : List (Option FabEnt) × List FabEnt) x => match x, a.2 with
    | none, r :: rs => (a.1 ++ [some r], rs)
    | y, l => (a.1 ++ [y], l)) ([], rest)).1

def emptyEnt : Bytes := leBytes 8 0 ++ leBytes 1 0xFF ++ leBytes 2 0 ++ leBytes 1 0xFF ++ leBytes 20 0

/-- READ_FABRIC, opcode 0x60. -/
def execReadFabric (d : Nat) (s : State) : Res :=
  onL s d <| s.withCmd d 0x60 fun s c =>
    let b := (fabLayout s.fab.table).flatMap (fun e => match e with
      | some x => x.bytes
      | none => emptyEnt)
    (s.toHost c.port (c.op 16 8) b).complete c.id 0 (leBytes 2 (s.get d EUF_COORD_members))

/-- An entry keeps to R290. -/
def State.entryOk (s : State) (d e : Nat) : Bool :=
  decide (e < 65536) && (e &&& 0x7800) == 0 && (!e.testBit 15 ||
    (s.isMember d (e % 2048 / 8) && (e % 2048 / 8 != s.ownPkg d || s.handleDies.contains (e % 8))))

/-- The entry of a bucket in a list of runs. -/
def runAt (runs : List (Nat × Nat)) (b : Nat) : Nat := (runs.foldl (fun (a : Option Nat) r => if r.1 ≤ b then some r.2 else a) none).getD 0

/-- A bucket whose owner changes still has a record on a die of this package that is neither Free nor Closed (R291). -/
def State.orphans (s : State) (d : Nat) (runs : List (Nat × Nat)) : Bool :=
  s.servingDies.any (fun o => (s.l o).recs.any (fun r =>
    let b := idHash (r.2.gb rIdentity)
    let old := s.partEntry d b
    (old.testBit 15 && decide (s.deliverDie (old % 2048) = o) && decide (old % 2048 / 8 = s.ownPkg d))
      && decide (runAt runs b ≠ old) && r.2.g rState != 0 && r.2.g rState != 4))

/-- SET_PARTITION, opcode 0x61 (R291): `runs` are the entries in the host's buffer, as first bucket and entry of each run of equal
entries; `remote` the status of the first other package that refuses, 0x0704 or else 0x0706, and 0 if none does; `others` how many others stored it. -/
def execSetPartition (d : Nat) (runs : List (Nat × Nat)) (remote others : Nat) (s : State) : Res :=
  onL s d <| s.withCmd d 0x61 fun s c =>
    let v := c.op 24 4
    let refuse (s : State) (st : Nat) : State :=
      ((s.put d EUF_STAT_error (st % 256)).raise d 143 (arg 0 v + arg 4 st)).complete c.id st
    if s.formed d = false then (s.put d EUF_STAT_error 0x01).complete c.id 0x0701
    else if v ≤ s.fab.version ∨ runs.any (fun r => !s.entryOk d r.2) = true then refuse s 0x0704
    else if s.orphans d runs then refuse s 0x0706
    else if remote ≠ 0 then refuse s (if remote = 0x0704 then 0x0704 else 0x0706)
    else ((s.storePart v runs).flood (.partition v runs)).complete c.id 0 (leBytes 2 (1 + others))

/-- READ_PARTITION, opcode 0x62. -/
def execReadPartition (d : Nat) (s : State) : Res :=
  onL s d <| s.withCmd d 0x62 fun s c =>
    let b := (List.range 65536).flatMap (fun k => leBytes 2 (s.partEntry d k))
    (s.toHost c.port (c.op 16 8) b).complete c.id 0 (leBytes 4 s.fab.version)

/-- SET_PACKAGE_NUMBER, opcode 0x63. -/
def execSetPackageNumber (d : Nat) (s : State) : Res :=
  onL s d <| s.withCmd d 0x63 fun s c =>
    let n := c.op 16 1
    if s.formed d = false then (s.put d EUF_STAT_error 0x01).complete c.id 0x0701
    else if s.fab.table.any (fun e => e.number == some n && e.identity != s.identity) then
      (s.put d EUF_STAT_error 0x05).complete c.id 0x0705
    else
      let s := s.setFab { s.fab with links := smDel s.fab.links (s.ownPkg 0), claims := putClaim s.identity (some n) s.fab.claims }
      let s := s.setNumber n
      let s := if s.isCoord then s.grantAll
        else (s.eufAll EUF_STAT_rc_stage 2).flood (.claim s.identity (some n))
      s.complete c.id 0

end Sys2Proof.Machine
end

