-- ==== Sys2Proof/Machine/Ethernet.lean ====
section
/-! DEFINITION. The Ethernet MACs of L0 and L1 (13_ethernet_backhaul R295 to R307): frames, PTP and direct alarms. The
layouts of the named standards are PRESUMED (assumption log 6). -/

namespace Sys2Proof.Machine

/-- ETH_STAT.state and link of a die. -/
def State.ethState (s : State) (d : Nat) : Nat := s.get d ETH_STAT_state
def State.ethLink (s : State) (d : Nat) : Bool := s.flag d ETH_STAT_link
/-- The MAC can send: Running with its link up. -/
def State.ethUp (s : State) (d : Nat) : Bool := s.ethState d == 1 && s.ethLink d

/-- Nanoseconds of one byte at the MAC's speed. -/
def State.byteNs (s : State) (d : Nat) : Nat := [800, 80, 8].getD (s.get d ETH_STAT_speed) 8

/-- The MAC's own address (ETH_MAC). -/
def State.ethMac (s : State) (d : Nat) : Bytes := leBytes 4 (s.get d ETH_MAC_LO_mac_lo) ++ leBytes 2 (s.get d ETH_MAC_HI_mac_hi)

/-- The alarm template, bytes 0 to 43 (R306). -/
def State.ethTpl (s : State) (d : Nat) : Bytes := ((List.range 11).map (fun w => leBytes 4 (s.get d ETH_TPLw_bytes w))).flatten

/-- Source IPv4 address of the alarm template. -/
def State.ethIp (s : State) (d : Nat) : Bytes := slice (s.ethTpl d) 26 4

/-! ### Transmission (R299, R300) -/

/-- The tag of a queue is inserted after the addresses where its insert bit is set. -/
def State.ethTag (s : State) (d q : Nat) (b : Bytes) : Bytes :=
  if s.flag d ETH_Qn_TAG_insert q then
    b.take 12 ++ beBytes 2 0x8100
      ++ beBytes 2 (s.get d ETH_Qn_TAG_pcp q * 8192 + s.get d ETH_Qn_TAG_dei q * 4096 + s.get d ETH_Qn_TAG_vid q) ++ b.drop 12
  else b

/-- A frame as sent: padded to 60 bytes, with its FCS. -/
def etherFrame (b : Bytes) : Bytes :=
  let p := b ++ fillBytes (60 - b.length) 0
  p ++ leBytes 4 (ieee32 p)

/-- Queue a frame (its tag inserted). -/
def State.ethQueue (s : State) (d : Nat) (f : EthFrame) : State :=
  let f := { f with bytes := s.ethTag d f.queue f.bytes }
  let x := s.eth d
  s.setEth d (if f.queue = 1 then { x with q1 := x.q1 ++ [f] } else { x with q0 := x.q0 ++ [f] })

/-- Ticks from the start of a frame to the end of the gap after it: preamble, frame with FCS, inter-frame gap. -/
def State.wireTicks (s : State) (d : Nat) (f : EthFrame) : Nat := ((20 + (etherFrame f.bytes).length) * s.byteNs d + 9) / 10

/-- PAUSE holds transmission now. -/
def State.paused (s : State) (d : Nat) : Bool := (s.eth d).pauseUntil.isSome

/-- A frame goes on the wire. A Delay_Req is timestamped at the end of its SFD, corrected by tx_delay (R301). -/
def State.ethBegin (s : State) (d : Nat) (f : EthFrame) : State :=
  let f := { f with attempts := f.attempts + 1 }
  let x := s.eth d
  let t3 := s.devNs d + Int.ofNat (8 * s.byteNs d) + Int.ofNat (s.get d ETH_PTP_DLY_tx_delay)
  let sent := match f.dreq with
    | some n => some (n, t3)
    | none => x.dreqSent
  s.setEth d { x with cur := some (f, s.now, s.now + s.wireTicks d f), dreqSent := sent }

/-- A MAC that drains and has nothing on the wire is Idle (R307). -/
def State.ethIdle (s : State) (d : Nat) : State :=
  if s.ethState d = 2 ∧ (s.eth d).cur = none then
    (s.put d ETH_STAT_state 0).raise d 121
  else s

/-- The frame on the wire has ended: counted. -/
def State.ethFinish (s : State) (d : Nat) : State :=
  match (s.eth d).cur with
  | none => s
  | some (f, _, stop) =>
    if s.now < stop then s
    else
      let s := (s.setEth d { s.eth d with cur := none }).inc d ETH_TX_CNT
      (if f.alarm then s.inc d ETH_ALARM_TX_CNT else s).ethIdle d

/-- Queue 1 is served before queue 0 at each frame boundary; a frame that backs off comes first. -/
def State.ethServe (s : State) (d : Nat) : State :=
  let x := s.eth d
  if !s.ethUp d || x.cur.isSome || s.paused d then s
  else match x.backoff with
    | some _ => s
    | none =>
      match x.q1, x.q0 with
      | f :: r, _ => (s.setEth d { x with q1 := r }).ethBegin d f
      | [], f :: r => (s.setEth d { x with q0 := r }).ethBegin d f
      | [], [] => s

/-- A MAC whose link is down keeps its alarm copies for spacing_ms, then drops them (R307). -/
def State.ethSpacing (s : State) (d : Nat) : Nat := max 1 (s.get d ETH_ALARM_spacing_ms) * Config.tMs
def State.ethStale (s : State) (d : Nat) : State :=
  let x := s.eth d
  if s.ethLink d || x.q1.isEmpty || decide (s.now < x.downAt + s.ethSpacing d) then s
  else (s.setEth d { x with q1 := [] }).inc d ETH_ALARM_DROP_CNT (x.q1.filter (·.alarm)).length

/-- What the MAC does by itself as time passes. -/
def State.ethPump (s : State) (d : Nat) : State := ((s.ethFinish d).ethServe d).ethStale d

/-- COLLISION (R299) in half duplex, while a frame is on the wire: a late one drops the frame, as does the 16th attempt;
otherwise the frame backs off. -/
def execCollision (d : Nat) (s : State) : Res :=
  onPort s d <|
    match (s.eth d).cur with
    | none => s
    | some (f, start, _) =>
      if s.flag d ETH_STAT_duplex then s
      else
        let s := (s.setEth d { s.eth d with cur := none }).inc d ETH_COLL_CNT
        if 72 * s.byteNs d < 10 * (s.now - start) then ((s.inc d ETH_LATECOLL_CNT).ethIdle d).ethPump d
        else if 16 ≤ f.attempts then ((s.inc d ETH_EXCOLL_CNT).ethIdle d).ethPump d
        else
          let (r, s) := s.freeBelow (2 ^ min f.attempts 10)
          s.setEth d { s.eth d with backoff := some (f, s.now + ((4 + 64 * r) * s.byteNs d + 9) / 10) }

/-- BACKOFF_END (R299): the frame is tried again; a MAC that is draining completes it so. -/
def execBackoffEnd (d : Nat) (s : State) : Res :=
  onPort s d <|
    match (s.eth d).backoff with
    | none => s
    | some (f, t) =>
      if s.due t = false ∨ s.ethLink d = false ∨ s.ethState d = 0 then s
      else (s.setEth d { s.eth d with backoff := none }).ethBegin d f

/-! ### PAUSE (R300) -/

/-- A received PAUSE frame: its quanta of 512 bit times replace the remaining time. -/
def State.ethPause (s : State) (d quanta : Nat) : State :=
  let s := s.inc d ETH_PAUSE_RX_CNT
  let x := s.eth d
  if s.flag d ETH_STAT_duplex = false ∨ s.flag d ETH_PAUSE_honour = false ∨ x.ignoreUntil.isSome = true then s
  else if quanta = 0 then (s.setEth d { x with pauseUntil := none, heldSince := none }).ethPump d
  else
    let hold := match x.cur with
      | some (_, _, stop) => max s.now stop
      | none => s.now
    s.setEth d { x with pauseUntil := some (s.now + (quanta * 64 * s.byteNs d + 9) / 10), heldSince := some (x.heldSince.getD hold) }

/-- PAUSE_EXPIRY (R300). -/
def execPauseExpiry (d : Nat) (s : State) : Res :=
  onPort s d <|
    match (s.eth d).pauseUntil with
    | none => s
    | some t => if s.due t then (s.setEth d { s.eth d with pauseUntil := none, heldSince := none }).ethPump d else s

/-- ETH_PAUSE.wd_ms in ticks. -/
def State.pauseWd (s : State) (d : Nat) : Nat :=
  let w := s.get d ETH_PAUSE_wd_ms
  (if 10 ≤ w ∧ w ≤ 1000 then w else 100) * Config.tMs

/-- PAUSE_WATCHDOG (R300). -/
def execPauseWatchdog (d : Nat) (s : State) : Res :=
  onPort s d <|
    match (s.eth d).heldSince with
    | none => s
    | some t =>
      if s.due (t + s.pauseWd d) then
        let s := s.setEth d { s.eth d with pauseUntil := none, heldSince := none, ignoreUntil := some (s.now + Config.tS) }
        (((s.putB d ETH_STAT_pause_ignored true).inc d ETH_PAUSE_WD_CNT).raise d 123).ethPump d
      else s

/-- PAUSE_IGNORE_END (R300). -/
def execPauseIgnoreEnd (d : Nat) (s : State) : Res :=
  onPort s d <|
    match (s.eth d).ignoreUntil with
    | none => s
    | some t =>
      if s.due t then (s.setEth d { s.eth d with ignoreUntil := none }).putB d ETH_STAT_pause_ignored false else s

/-! ### PTP (R301, R302) -/

/-- Nanoseconds since 2000 (device time) of a PTP timestamp (IEEE 1588: seconds and nanoseconds since 1970, TAI). -/
def ptpNs (b : Bytes) (off : Nat) : Int :=
  (Int.ofNat (beNat (slice b off 6)) - 946684800) * 1000000000 + Int.ofNat (beNat (slice b (off + 6) 4))

/-- The correction field, in whole ns. -/
def ptpCorr (b : Bytes) : Int := toSigned 64 (beNat (slice b 8 8)) / 65536

/-- A port identity of the MAC: an EUI-64 from its address, port 1. -/
def State.ptpSelf (s : State) (d : Nat) : Bytes :=
  let m := s.ethMac d
  m.take 3 ++ beBytes 2 0xFFFE ++ m.drop 3 ++ beBytes 2 1

/-- One master is better than another by the best master clock algorithm: grandmaster data, steps removed, sender. -/
def Announce.better (a b : Announce) : Bool :=
  if a.gmIdentity = b.gmIdentity then
    decide (a.steps < b.steps) || (decide (a.steps = b.steps) && decide (beNat a.port < beNat b.port))
  else decide (a.gm < b.gm) || (decide (a.gm = b.gm) && decide (a.gmIdentity < b.gmIdentity))

/-- Four announce intervals of a foreign master, in ticks: the window in which two messages qualify it. -/
def Announce.window (a : Announce) : Nat :=
  if 0 ≤ a.logInterval then 4 * Config.tS * 2 ^ a.logInterval.toNat else 4 * Config.tS / 2 ^ (-a.logInterval).toNat

def Announce.qualified (a : Announce) (now : Nat) : Bool :=
  decide (a.steps < 255) && (match a.before with
    | some t => decide (now ≤ t + a.window)
    | none => false)

def bestOf : List Announce → Option Announce
  | [] => none
  | a :: l => match bestOf l with
    | none => some a
    | some b => if b.better a then some b else some a

/-- The master changes to one heard: L-126. -/
def State.ptpSelect (s : State) (d : Nat) : State :=
  let x := s.eth d
  match bestOf (x.foreign.filter (fun a => a.qualified s.now)) with
  | none => s
  | some a =>
    if x.master = some a.port then s
    else
      let s := s.setEth d { x with master := some a.port, syncAt := s.now, syncWait := none, dreqSent := none }
      s.raise d 126 (arg 0 (b2n x.master.isSome))

/-- An Announce message. -/
def State.ptpAnnounce (s : State) (d : Nat) (m : Bytes) : State :=
  let port := slice m 20 10
  let x := s.eth d
  let a : Announce := {
    gm := beNat (slice m 47 6), gmIdentity := beNat (slice m 53 8), steps := beNat (slice m 61 2), port := port,
    logInterval := max (-8) (min 8 (toSigned 8 (beNat (slice m 33 1)))), last := s.now,
    before := (x.foreign.find? (fun f => f.port == port)).map (·.last) }
  let l := (a :: x.foreign.filter (fun f => f.port != port)).filter (fun f => decide (s.now ≤ f.last + f.window))
  (s.setEth d { x with foreign := l }).ptpSelect d

/-- A value cut to 32 unsigned bits. -/
def sat32u (z : Int) : Nat := min 0xFFFFFFFF z.toNat

/-- A Sync with its exact send time: the offset from the master, which the steering MAC delivers to device time. -/
def State.ptpOffset (s : State) (d : Nat) (t1 t2 : Int) : State :=
  let ms := t2 - t1
  let ofs := ms - Int.ofNat (s.get d ETH_PTP_PATH_path)
  let s := (s.setEth d { s.eth d with lastMs := ms, syncWait := none }).putZ d ETH_PTP_OFS_offset (sat32z ofs)
  if s.ptpSteer = some d then s.setDisc d { s.disc d with ptp := some (-ofs) } else s

/-- A PTP message from the network, received at `t2` ns (R301). -/
def State.ptpMessage (s : State) (d : Nat) (m : Bytes) (t2 : Int) : State :=
  let s := s.inc d ETH_PTP_RX_CNT
  let typ := beNat (slice m 0 1) % 16
  let x := s.eth d
  let seq := beNat (slice m 30 2)
  let mine := x.master == some (slice m 20 10)
  if s.flag d ETH_CTRL_ptp_en = false then s
  else if typ = 11 then s.ptpAnnounce d m
  else if mine = false then s
  else if typ = 0 then
    let s := s.setEth d { x with syncAt := s.now }
    if (beNat (slice m 6 1)).testBit 1 then s.setEth d { s.eth d with syncWait := some (seq, t2 - ptpCorr m) }
    else s.ptpOffset d (ptpNs m 34 + ptpCorr m) t2
  else if typ = 8 then
    match x.syncWait with
    | some (n, t) => if n = seq then s.ptpOffset d (ptpNs m 34 + ptpCorr m) t else s
    | none => s
  else if typ = 9 then
    match x.dreqSent with
    | some (n, t3) =>
      if n = seq ∧ slice m 44 10 = s.ptpSelf d then
        let t4 := ptpNs m 34 - ptpCorr m
        (s.setEth d { x with dreqSent := none }).put d ETH_PTP_PATH_path (sat32u ((x.lastMs + (t4 - t3)) / 2))
      else s
    | none => s
  else s

/-- The sum of 16-bit words of the Internet checksum. -/
def inetSum : Bytes → Nat
  | [] => 0
  | [x] => 256 * x.toNat
  | x :: y :: r => 256 * x.toNat + y.toNat + inetSum r

def inetCheck (n : Nat) : Nat :=
  let n := n % 65536 + n / 65536
  let n := n % 65536 + n / 65536
  65535 - n

/-- The UDP checksum over pseudo header, UDP header and payload; a sum of 0 is sent as all ones. -/
def udpCheck (ip udp payload : Bytes) : Nat :=
  let c := inetCheck (inetSum (slice ip 12 8) + 17 + (8 + payload.length) + inetSum udp + inetSum payload)
  if c = 0 then 65535 else c

/-- Fill the lengths, identification and checksums of an IPv4 header and a UDP header (R306). -/
def udpFrame (eth ip udp : Bytes) (ident : Nat) (payload : Bytes) : Bytes :=
  let n := payload.length
  let ip := putBytes (putBytes (putBytes ip 2 (beBytes 2 (28 + n))) 4 (beBytes 2 ident)) 10 (beBytes 2 0)
  let ip := putBytes ip 10 (beBytes 2 (inetCheck (inetSum ip)))
  let udp := putBytes (putBytes udp 4 (beBytes 2 (8 + n))) 6 (beBytes 2 0)
  let udp := putBytes udp 6 (beBytes 2 (udpCheck ip udp payload))
  eth ++ ip ++ udp ++ payload

/-- A Delay_Req message on the configured transport. -/
def State.delayReq (s : State) (d seq : Nat) : Bytes :=
  let m : Bytes := beBytes 2 0x0112 ++ beBytes 2 44 ++ beBytes 1 (s.get d ETH_PTP_domain) ++ beBytes 3 0 ++ beBytes 8 0
    ++ beBytes 4 0 ++ s.ptpSelf d ++ beBytes 2 seq ++ beBytes 2 0x017F ++ beBytes 10 0
  if s.get d ETH_PTP_transport = 0 then beBytes 6 0x011B19000000 ++ s.ethMac d ++ beBytes 2 0x88F7 ++ m
  else
    let eth := beBytes 6 0x01005E000181 ++ s.ethMac d ++ beBytes 2 0x0800
    let ip := beBytes 8 0x4500000000000000 ++ beBytes 2 0x0111 ++ beBytes 2 0 ++ s.ethIp d ++ beBytes 4 0xE0000181
    udpFrame eth ip (beBytes 2 319 ++ beBytes 2 319 ++ beBytes 4 0) (s.eth d).ipId m

/-- The Delay_Req interval in ticks; 7 acts as 6. -/
def State.dreqTicks (s : State) (d : Nat) : Nat := 2 ^ min 6 (s.get d ETH_PTP_dreq_log) * Config.tS

/-- DELAY_REQ_TIMER (R301). -/
def execDelayReqTimer (d : Nat) (s : State) : Res :=
  onPort s d <|
    let x := s.eth d
    let early := match x.dreqAt with
      | some t => !s.due (t + s.dreqTicks d)
      | none => false
    if s.flag d ETH_CTRL_ptp_en = false ∨ s.ethState d ≠ 1 ∨ x.master = none ∨ early = true then s
    else
      let seq := (x.dreqSeq + 1) % 65536
      let b := s.delayReq d seq
      let s := s.setEth d { x with dreqSeq := seq, dreqAt := some s.now, ipId := (x.ipId + s.get d ETH_PTP_transport) % 65536 }
      (s.ethQueue d { queue := 0, bytes := b, dreq := some seq }).ethPump d

/-- The master is lost: L-126. -/
def State.ptpLose (s : State) (d : Nat) : State :=
  let x := s.eth d
  match x.master with
  | none => s
  | some p =>
    (s.setEth d { x with master := none, syncWait := none, foreign := x.foreign.filter (fun a => a.port != p) }).raise d 126 (arg 0 2)

/-- SYNC_TIMEOUT (R301). -/
def execSyncTimeout (d : Nat) (s : State) : Res :=
  onPort s d (if (s.eth d).master.isSome ∧ s.due ((s.eth d).syncAt + 3 * Config.tS) = true then s.ptpLose d else s)

/-! ### Reception (R297, R298) -/

/-- The tag of a frame: absent, or its VID and the frame without it. -/
def untag (b : Bytes) : Option Nat × Bytes :=
  if beNat (slice b 12 2) = 0x8100 then (some (beNat (slice b 14 2) % 4096), b.take 12 ++ b.drop 16) else (none, b)

/-- The PTP message a frame carries on the configured transport: event port 319, general port 320. -/
def State.ptpOf (s : State) (d : Nat) (b : Bytes) : Option Bytes :=
  let typ := beNat (slice b 12 2)
  let m :=
    if s.get d ETH_PTP_transport = 0 then (if typ = 0x88F7 then some (b.drop 14) else none)
    else if typ = 0x0800 ∧ beNat (slice b 23 1) = 17 ∧ slice b 30 4 = beBytes 4 0xE0000181
        ∧ beNat (slice b 36 2) ∈ [319, 320] ∧ beNat (slice b 14 1) = 0x45 then some (b.drop 42)
    else none
  match m with
  | none => none
  | some m => if 34 ≤ m.length ∧ beNat (slice m 4 1) = s.get d ETH_PTP_domain ∧ beNat (slice m 1 1) % 16 = 2 then some m else none

/-- The answer to an ARP request for the template's source address. -/
def State.arpReply (s : State) (d : Nat) (b : Bytes) : Option Bytes :=
  if beNat (slice b 12 2) = 0x0806 ∧ beNat (slice b 14 8) = 0x0001080006040001 ∧ slice b 38 4 = s.ethIp d then
    some (slice b 22 6 ++ s.ethMac d ++ beBytes 2 0x0806 ++ beBytes 8 0x0001080006040002 ++ s.ethMac d ++ s.ethIp d ++ slice b 22 10)
  else none

/-- The destinations the MAC accepts. -/
def State.ethForMe (s : State) (d : Nat) (b : Bytes) : Bool :=
  let a := slice b 0 6
  a == s.ethMac d || a == fillBytes 6 0xFF || a == beBytes 6 0x011B19000000 || a == beBytes 6 0x01005E000181

/-- The tags the MAC accepts. -/
def State.ethVidOk (s : State) (d : Nat) (vid : Option Nat) : Bool :=
  match vid with
  | none => true
  | some v => v == 0 || (s.flag d ETH_CFG_rx_vid_en && v == s.get d ETH_CFG_rx_vid)

/-- A frame accepted by address and tag is consumed or dropped by content. -/
def State.ethConsume (s : State) (d : Nat) (b : Bytes) (ts : Int) : State :=
  match s.ptpOf d b with
  | some m => (s.inc d ETH_RX_CNT).ptpMessage d m ts
  | none =>
    match s.arpReply d b with
    | some r => (((s.inc d ETH_RX_CNT).ethQueue d { queue := 0, bytes := r }).ethPump d)
    | none => s.inc d ETH_RX_FILT_CNT

/-- ETH_FRAME_RECEIVED (R297, R298, R300): a frame `b` with its FCS, whose SFD ended at `ts` ns of device time at the MAC's
interface; `fits` says whether the receive buffer had room for it. -/
def execEthFrameReceived (d : Nat) (b : Bytes) (ts : Nat) (fits : Bool) (s : State) : Res :=
  onPort s d <|
    if s.ethState d = 0 ∨ s.ethLink d = false then s
    else if !fits then
      let s := s.inc d ETH_RX_OVF_CNT
      if limiterOpen (s.eth d).lim125 s.now Config.tS then (s.setEth d { s.eth d with lim125 := some s.now }).raise d 125 else s
    else if b.length < 64 ∨ leNat (b.drop (b.length - 4)) ≠ ieee32 (b.take (b.length - 4)) then s.inc d ETH_RX_FCS_CNT
    else
      let f := b.take (b.length - 4)
      if beNat (slice f 12 4) = 0x88080001 ∧ (slice f 0 6 = beBytes 6 0x0180C2000001 ∨ slice f 0 6 = s.ethMac d) then
        s.ethPause d (beNat (slice f 16 2))
      else if !s.ethForMe d f || decide (1522 < b.length) then s.inc d ETH_RX_FILT_CNT
      else
        let (vid, g) := untag f
        if !s.ethVidOk d vid then s.inc d ETH_RX_VLAN_CNT
        else s.ethConsume d g (Int.ofNat ts - Int.ofNat (s.get d ETH_PTP_DLY_rx_delay))

/-! ### Direct alarms (R303 to R306) -/

/-- The path becomes active: the items waiting in every Q0 are the first to be sent. -/
def State.alarmBegin (s : State) (d : Nat) : State :=
  let s := if s.alarmOn then s else
    (List.range s.nL).foldl (fun s l =>
      let first := match (s.que l 0).packets with
        | p :: _ => p.seq
        | [] => s.get l QUE_n_SEQ_next_seq 0
      s.setEth l { s.eth l with alarmNext := some first }) s
  (s.putB d ETH_STAT_alarm_active true).raise d 124 (arg 0 1)

/-- DIRECT_ALARM_ACTIVATE (R303): the SC0 ring full, or every host's port down, for wait_ms. -/
def execDirectAlarmActivate (d : Nat) (s : State) : Res :=
  onPort s d <|
    let w := max 1 (s.get d ETH_ALARM_wait_ms) * Config.tMs
    let long (t : Option Nat) : Bool := match t with
      | some x => s.due (x + w)
      | none => false
    if s.flag d ETH_CTRL_alarm_en && !s.flag d ETH_STAT_alarm_active && (long s.scFullSince || long s.hif.portsDown) then s.alarmBegin d
    else s

/-- The die whose MAC sends direct alarms (R304). -/
def State.alarmMac (s : State) : Option Nat :=
  if s.flag 0 ETH_CTRL_alarm_en && s.ethUp 0 then some 0
  else if s.isL 1 && s.flag 1 ETH_CTRL_alarm_en && s.ethUp 1 then some 1
  else none

/-- The UDP payload of a copy (R306), with its tag under ETH_ALARM_KEY.slot of the sending die. -/
def State.alarmPayload (s : State) (d : Nat) (c : AlarmCopy) : Bytes :=
  let b := leBytes 2 1 ++ leBytes 1 c.die ++ leBytes 1 c.copy ++ leBytes 8 (s.get2 d EUF_ID_LO_id_lo EUF_ID_HI_id_hi)
    ++ leBytes 4 c.seq ++ leBytes 4 c.handle ++ leBytes 1 c.kind ++ leBytes 1 0 ++ leBytes 2 c.payload.length
    ++ c.identity ++ leBytes 8 c.start ++ leBytes 8 (s.devTime d) ++ c.payload
  let key := match s.slot d (s.get d ETH_ALARM_KEY_slot) with
    | some x => x.key
    | none => []
  b ++ (hmac key b).take 16

/-- Build and queue a copy, and schedule the next (R305). -/
def State.alarmSend (s : State) (d : Nat) (c : AlarmCopy) : State :=
  let t := s.ethTpl d
  let b := udpFrame (slice t 0 14) (slice t 14 20) (slice t 34 8) (s.eth d).ipId (s.alarmPayload d c)
  let s := match s.slot d (s.get d ETH_ALARM_KEY_slot) with
    | some x => s.keyUsed d (s.get d ETH_ALARM_KEY_slot) x
    | none => s
  let x := s.eth d
  let more := if c.copy < s.get d ETH_ALARM_repeat then [{ c with copy := c.copy + 1, due := s.now + s.ethSpacing d }] else []
  let s := s.setEth d { x with ipId := (x.ipId + 1) % 65536, copies := x.copies ++ more }
  (s.ethQueue d { queue := 1, bytes := b, alarm := true }).ethPump d

/-- DIRECT_ALARM_SEND (R303, R304): the next SC0 item of L-die `d`, in sequence order, once it has been applied. -/
def execDirectAlarmSend (d : Nat) (s : State) : Res :=
  onL s d <|
    match (s.eth d).alarmNext with
    | none => s
    | some n =>
      match (s.que d 0).packets.find? (fun p => decide (n ≤ p.seq)) with
      | none => s
      | some p =>
        if !p.applied then s
        else
          let s := s.setEth d { s.eth d with alarmNext := some (p.seq + 1) }
          match s.alarmMac with
          | none => s.inc (if s.flag 0 ETH_STAT_alarm_active then 0 else 1) ETH_ALARM_DROP_CNT
          | some m => s.alarmSend m {
              die := d, seq := p.seq, handle := p.handle, kind := p.kind, identity := p.identity, start := p.start,
              payload := p.payload, copy := 0, due := s.now }

/-- ALARM_COPY_TIMER (R305): the copy of MAC `d` that is due; where that MAC cannot send, the other one does, and where neither can it is
dropped (R304, R307). -/
def execAlarmCopyTimer (d : Nat) (s : State) : Res :=
  onPort s d <|
    match (s.eth d).copies with
    | [] => s
    | c :: r =>
      if !s.due c.due then s
      else
        let s := s.setEth d { s.eth d with copies := r }
        match if s.ethUp d then some d else s.alarmMac with
        | some m => s.alarmSend m c
        | none => s.inc d ETH_ALARM_DROP_CNT

/-- The template keeps the layout of R306: EtherType 0x0800, version 4 with IHL 5, protocol 17. -/
def tplOk (t : Bytes) : Bool := beNat (slice t 12 2) == 0x0800 && beNat (slice t 14 1) == 0x45 && beNat (slice t 23 1) == 17

/-- The slot of ETH_ALARM_KEY can tag alarms: 64 or above, valid, HMAC-SHA-256 with usage MAC. -/
def State.alarmKeyOk (s : State) (d : Nat) : Bool :=
  let n := s.get d ETH_ALARM_KEY_slot
  decide (64 ≤ n) && (match s.slot d n with
    | none => false
    | some x => x.alg == 2 && bit x.usage useMac)

/-- ALARM_ENABLE (R306). -/
def execAlarmEnable (d : Nat) (s : State) : Res :=
  onPort s d <|
    if tplOk (s.ethTpl d) && s.alarmKeyOk d then (s.putB d ETH_CTRL_alarm_en true).putB d ETH_STAT_cfg_error false
    else s.putB d ETH_STAT_cfg_error true

/-! ### Enabling, disabling, link and MDIO (R296, R307) -/

/-- Speed and duplex come from ETH_CFG while auto is 0. -/
def State.ethSetting (s : State) (d : Nat) : State :=
  if s.flag d ETH_CFG_auto then s
  else (s.put d ETH_STAT_speed (min 2 (s.get d ETH_CFG_speed))).put d ETH_STAT_duplex (s.get d ETH_CFG_duplex)

/-- ETH_ENABLE (R296). -/
def execEthEnable (d : Nat) (s : State) : Res :=
  onPort s d <| if !s.domOn d 13 then s else
    if s.ethState d ≠ 0 then s
    else if s.flag d ETH_CFG_auto = false ∧ s.flag d ETH_CFG_duplex = false ∧ 2 ≤ s.get d ETH_CFG_speed then
      s.putB d ETH_STAT_cfg_error true
    else
      let s := (s.putB d ETH_CTRL_enable true).putB d ETH_STAT_cfg_error false
      ((s.put d ETH_STAT_state 1).ethSetting d).ethPump d

/-- ETH_DISABLE (R307). -/
def execEthDisable (d : Nat) (s : State) : Res :=
  onPort s d <|
    let s := s.putB d ETH_CTRL_enable false
    if s.ethState d ≠ 1 then s
    else
      let x := s.eth d
      let n := (x.q1.filter (·.alarm)).length + x.copies.length + (match x.backoff with
        | some (f, _) => b2n f.alarm
        | none => 0)
      let s := s.setEth d { x with
        q0 := [], q1 := [], copies := [], backoff := none, foreign := [], master := none, syncWait := none, dreqSent := none,
        pauseUntil := none, heldSince := none }
      (((s.inc d ETH_ALARM_DROP_CNT n).put d ETH_STAT_state 2).ethFinish d).ethIdle d

/-- ETH_LINK_CHANGE (R307): the link goes up or down, with the PHY's in-band speed (code of ETH_STAT) and duplex. -/
def execEthLinkChange (d : Nat) (up : Bool) (speed : Nat) (full : Bool) (s : State) : Res :=
  onPort s d <|
    let s := if up && s.flag d ETH_CFG_auto then (s.put d ETH_STAT_speed (min 2 speed)).putB d ETH_STAT_duplex full else s
    if s.ethLink d = up then s
    else
      let s := (s.putB d ETH_STAT_link up).raise d 122 (arg 0 (b2n up))
      (s.setEth d { s.eth d with downAt := s.now }).ethPump d

/-- MDIO_ACCESS (R296): a clause 22 access runs; `v` is what the PHY answers to a read. -/
def execMdioAccess (d v : Nat) (s : State) : Res :=
  onPort s d <|
    let s := s.putB d ETH_MDIO_go false
    if s.flag d ETH_MDIO_op then
      s.setEth d { s.eth d with mdio := some (s.get d ETH_MDIO_phy, s.get d ETH_MDIO_reg, s.get d ETH_MDIO_data) }
    else s.put d ETH_MDIO_data v

end Sys2Proof.Machine
end

