-- ==== Sys2Proof/Machine/Power.lean ====
section
/-! DEFINITION. Power domains, Recess, brown-out, heat, PLLs and ageing (15_power_clocks_ageing R321 to R328, R334 to R344;
R366, R369). -/

namespace Sys2Proof.Machine

def State.age (s : State) (d : Nat) : Age := (s.com1 d).age
def State.setAge (s : State) (d : Nat) (a : Age) : State := s.setCom d { s.com1 d with age := a }

/-! ### Domains (R321, R322) -/

/-- A block of domain `n` of an L-die is enabled or not Idle. -/
def State.busyL (s : State) (d n : Nat) : Bool :=
  match n with
  | 3 => s.flag d SEC_STAT_running || [0, 1, 2, 3].any (fun c => s.get d QUE_n_STAT_state c != 0)
  | 4 => s.flag d LEDG_STAT_running
  | 5 => s.flag d LEDG_STAT_running
  | 6 => s.get d BAL_STAT_state != 0
  | 7 => s.get d ARC_STAT_state != 0
  | 11 => s.get d EUF_STAT_port_state != 0
  | 12 => s.isPort d && (List.range 256).any (fun g =>
      s.groupPort g == d && (s.get 0 HIF_GRPn_STAT_sq_state g != 0 || s.get 0 HIF_GRPn_STAT_cq_state g != 0))
  | 13 => s.isPort d && s.ethState d != 0
  | _ => false

/-- A block of domain `n` of an F-die is enabled or not Idle. -/
def State.busyF (s : State) (d n : Nat) : Bool :=
  let r := s.rad d
  match n with
  | 3 => (List.range 128).any (fun i => s.get d CHN_SLOT_STATn_state i != 0)
  | 4 => r.ctxs.any (fun c => decide (c.1 < 64))
  | 5 => r.ctxs.any (fun c => decide (64 ≤ c.1)) || !r.unpicks.isEmpty
  | 6 => (List.range 8).any (fun i => s.flag d TT_n_STAT_running i)
  | 7 => !r.hold.isEmpty
  | 8 => s.flag d RFA_CTRL_enable || r.calA.fgSince.isSome || r.calA.gainSince.isSome
  | 9 => s.flag d RFA_CTRL_enable.onB || r.calB.fgSince.isSome || r.calB.gainSince.isSome
  | 11 => s.flag d RFT_CTRL_enable || !r.txq.isEmpty
  | 12 => s.get d PLC_STAT_state != 0
  | 13 => s.get d PLC_STAT_state != 0
  | 14 => s.slateState d != 0
  | _ => false

def State.domBusy (s : State) (d n : Nat) : Bool := if s.isL d then s.busyL d n else s.busyF d n

/-- R322: domains that an L-die which serves meters, or holds a mirror, keeps. -/
def State.domKept (s : State) (d n : Nat) : Bool :=
  s.isL d && [1, 2, 8, 9, 10].contains n && (s.flag d LEDG_CTRL_enable || s.role d == 2 || s.role d == 3)

/-- A refused domain change or Recess entry. -/
def State.pwrRefuse (s : State) (d v : Nat) : State := (s.putB d PWR_STAT_cfg_error true).raise d 20 (arg 0 v)

/-- The value of a write to PWR_DOM_EN: bit 0 reads 1; bits 12 to 14 of an L-die without a port read 0. -/
def State.domValue (s : State) (d v : Nat) : Nat :=
  let v := (v % 65536) ||| 1
  if s.isL d && decide (2 ≤ d) then v &&& 0x8FFF else v

/-- DOMAIN_ENABLE (R322): a write to PWR_DOM_EN. -/
def execDomainEnable (d v : Nat) (s : State) : Res :=
  onDie s d <|
    let w := s.domValue d v
    let old := s.get d PWR_DOM_EN_en
    let cleared := (List.range 16).filter (fun n => old.testBit n && !w.testBit n)
    if cleared.any (fun n => s.domBusy d n || s.domKept d n) then s.pwrRefuse d v
    else
      let s := (s.put d PWR_DOM_EN_en w).putB d PWR_STAT_cfg_error false
      let on := s.get d PWR_DOM_STAT_on
      let s := s.put d PWR_DOM_STAT_on (on &&& w)
      s.setPwr d { s.pwr d with rising := w &&& (0xFFFF ^^^ on) }

/-- DOMAIN_POWER_UP_COMPLETE (R322): domains whose bit was set accept accesses. -/
def execDomainPowerUpComplete (d : Nat) (s : State) : Res :=
  onDie s d <|
    let p := s.pwr d
    let s := s.put d PWR_DOM_STAT_on (s.get d PWR_DOM_STAT_on ||| (p.rising &&& s.get d PWR_DOM_EN_en))
    s.setPwr d { p with rising := 0 }

/-! ### Recess (R325, R326) -/

/-- Every block outside CTL, LOCK, LNK and DDR is disabled or Idle. The Slate is held to none of it: R325 powers it down. -/
def State.allIdle (s : State) (d : Nat) : Bool :=
  !(List.range 16).any (fun n => n != 14 && s.domBusy d n)

/-- The condition of R325 for a level. -/
def State.recessOk (s : State) (d level : Nat) : Bool :=
  s.allIdle d && (decide (level = 1) || !s.isL d || (!s.flag d LEDG_CTRL_enable && [0, 4, 5].contains (s.role d)))

/-- The domains a level keeps. -/
def State.recessDoms (s : State) (d level : Nat) : Nat :=
  let keep := if s.isF d && s.flag d SLATE_CTRL_recess_keep then 0x4000 else 0
  (if level = 2 then 0x0407 else 0x0001) + keep

/-- Enter a Recess level. -/
def State.recessEnter (s : State) (d level : Nat) : State :=
  let s := (s.put d PWR_STAT_recess level).putB d PWR_STAT_cfg_error false
  let s := s.raise d 19 (arg 0 level)
  if level = 1 then s
  else
    let s := if s.isF d && !s.flag d SLATE_CTRL_recess_keep then s.slateOff d else s
    let s := s.put d PWR_DOM_STAT_on (s.get d PWR_DOM_STAT_on &&& s.recessDoms d level)
    if s.isF d then s.femRefresh d else s

/-- RECESS_GO (R325): PWR_CTRL.recess_go written 1. -/
def execRecessGo (d : Nat) (s : State) : Res :=
  onDie s d <|
    let level := s.get d PWR_RECESS_level
    if level = 0 then s
    else if s.recessOk d level then s.recessEnter d level
    else s.pwrRefuse d (s.get d PWR_DOM_EN_en)

/-- A wake source applies to the die and the level it is in (R326). -/
def State.wakeApplies (s : State) (d src : Nat) : Bool :=
  let r := s.get d PWR_STAT_recess
  let low := r == 1 || r == 2
  (s.get d PWR_WAKE_mask ||| 0x10).testBit src &&
    (match src with
     | 0 => low
     | 1 => s.isF d
     | 2 => low
     | 3 => low && s.isF d
     | 4 => true
     | _ => false)

/-- Leave Recess for a wake source, 5 standing for a write to PWR_RECESS. -/
def State.wake (s : State) (d src : Nat) : State :=
  if s.get d PWR_STAT_recess = 0 ∨ (src ≠ 5 ∧ s.wakeApplies d src = false) then s
  else
    let last := if src = 5 then 0 else 2 ^ src
    let s := (s.put d PWR_STAT_recess 0).put d PWR_DOM_STAT_on (s.get d PWR_DOM_EN_en)
    let s := ((s.put d PWR_WAKE_last last).inc d PWR_WAKE_CNT).raise d 19 (arg 0 0 + arg 1 last)
    let s := if s.isF d then s.femRefresh d else s
    if s.isF d && s.flag d SLATE_CTRL_enable then s.slateOn d else s

/-- WAKE (R326). -/
def execWake (d src : Nat) (s : State) : Res := onDie s d (s.wake d src)

/-! ### Brown-out (R334 to R337, R369) -/

/-- A free value among the status codes that a radio downlink, or one at the modem, can end with (R18, R60, R109). -/
def State.radioStatus (s : State) : Nat × State :=
  let r := s.freeBelow 7
  ([0x0501, 0x0502, 0x0503, 0x0504, 0x0505, 0x0506, 0x050C].getD r.1 0x0501, r.2)
def State.plcStatus (s : State) : Nat × State :=
  let r := s.freeBelow 5
  (0x0601 + r.1, r.2)

/-- The transmissions of an F-die end at once (R335 step 4). The spec names no status for a downlink cut short: a free value among the
codes of its range. -/
def State.txCut (s : State) (d : Nat) : State :=
  let cut := (s.rad d).txq.filter (fun f => f.stage == .settling || f.stage == .onAir)
  let s := cut.foldl (fun s f =>
    let r := s.radioStatus
    (r.2.txOver d f).dlDone f.dl r.1 f.start 1) s
  let p := s.plc d
  let s := s.setPlc d { p with acks := [], ackOn := false }
  match p.cur with
  | none => s
  | some t =>
    if t.stage = .onLine then
      let r := s.plcStatus
      r.2.plcEnd d t r.1
    else s

/-- The warning of one die: its save starts (R335), or, on an L-die without a journal block ready, saves nothing (R337). A start that
has not restored its records yet saves nothing new (R349). The frames an L-die holds wait for another cause than their prefetch. -/
def State.warn (s : State) (d : Nat) : State :=
  let s := s.wake d 4
  let s := s.putB d PWR_STAT_bo_warn true
  let s := s.setPwr d { s.pwr d with alertN := true, warnedAt := some s.now, recovering := false, noJournal := false }
  let s := s.raise d 16
  if s.isF d then ((s.txCut d).slateBrown d).inc d PWR_SAVE_CNT
  else
    let s := s.holdFrames d
    if s.hasRecords d = false then s.setPwr d { s.pwr d with noJournal := true }
    else if (s.arc d).jrn.isEmpty then (s.setPwr d { s.pwr d with noJournal := true }).raise d 18
    else s.inc d PWR_SAVE_CNT

/-- BROWNOUT_WARNING (R334, R335): VMON_IN reads `mv`; every die that finds it below its warn_mv starts its save. -/
def execBrownoutWarning (mv : Nat) (s : State) : Res :=
  onAll s <| s.dies.foldl (fun s d =>
    if s.powered d && !s.flag d PWR_STAT_bo_warn && decide (mv < s.get d PWR_VMON_warn_mv) then s.warn d else s) s

/-- Every die is reset; the input below its reset level keeps the device in reset (R334). -/
def State.resetAll (s : State) : State :=
  (s.setBoot { s.boot with current := none }).resetEvery

/-- Queues, journal and drives after a dip on one die (R336). -/
def State.recover (s : State) (d : Nat) : State :=
  let saved := s.flag d PWR_STAT_saved
  let s := if s.isL d && saved then s.dropSave d else s
  let s := (s.putB d PWR_STAT_bo_warn false).putB d PWR_STAT_saved false
  let s := s.setPwr d { s.pwr d with alertN := false, warnedAt := none, recovering := false, noJournal := false, resetWaits := false }
  let s := if s.isF d then (if s.flag d SLATE_CTRL_enable then s.slateOn d else s) else s.decideReady d
  (s.inc d PWR_DIP_CNT).raise d 17

/-- SAVE_COMMIT (R335 step 6): the journal block of an L-die is written and its commit marker after it. A reset or a recovery
that has come meanwhile takes effect. -/
def execSaveCommit (d : Nat) (s : State) : Res :=
  onL s d <|
    if s.saving d = false ∨ (s.arc d).jrn = [] then s
    else
      let s := s.commitSave d
      if s.dies.any (fun e => (s.pwr e).resetWaits) then (if s.dies.any s.saving then s else s.resetAll)
      else if (s.pwr d).recovering then s.recover d
      else s

/-- SUPPLY_RECOVERY (R336): VMON_IN, at `mv`, has stayed above warn_mv + hyst for 1 ms; a recovery during the save waits for
its end. -/
def execSupplyRecovery (mv : Nat) (s : State) : Res :=
  onAll s <| s.dies.foldl (fun s d =>
    if s.flag d PWR_STAT_bo_warn && decide (s.get d PWR_VMON_warn_mv + s.get d PWR_VMON_hyst < mv) then
      (if s.saving d then s.setPwr d { s.pwr d with recovering := true } else s.recover d)
    else s) s

/-- PWR_VMON.reset_mv; values at or above warn_mv act as warn_mv − 50. -/
def State.resetMv (s : State) (d : Nat) : Nat :=
  let r := s.get d PWR_VMON_reset_mv
  let w := s.get d PWR_VMON_warn_mv
  if w ≤ r then w - 50 else r

/-- A save that began less than 5 ms ago still holds the reset back (R335). -/
def State.saveHolds (s : State) (d : Nat) : Bool :=
  s.saving d && (match (s.pwr d).warnedAt with
    | some t => !s.due (t + 5 * Config.tMs)
    | none => false)

/-- VMON_RESET (R334, R369): VMON_IN, at `mv`, is below reset_mv: the device is reset, once the saves in progress have
committed, and no later than 5 ms after the warning. It is no failed start. -/
def execVmonReset (mv : Nat) (s : State) : Res :=
  onAll s <|
    let low := s.dies.filter (fun d => decide (mv < s.resetMv d))
    let wait := s.dies.any s.saveHolds
    if low.isEmpty then s
    else if wait then low.foldl (fun s d => s.setPwr d { s.pwr d with resetWaits := true }) s
    else s.resetAll

/-! ### Heat (R338, R339) -/

def State.therm1 (s : State) (d : Nat) : Int :=
  let t := s.get d PWR_THERM_t1
  if 85 ≤ t ∧ t ≤ 105 then Int.ofNat t else 105
def State.therm2 (s : State) (d : Nat) : Int :=
  let t := Int.ofNat (s.get d PWR_THERM_t2)
  if s.therm1 d + 2 ≤ t ∧ t ≤ 110 then t else 109
def State.thermHyst (s : State) (d : Nat) : Int :=
  let h := s.get d PWR_THERM_hyst
  if 2 ≤ h ∧ h ≤ 15 then Int.ofNat h else 5

/-- The stage after a sample: entered at its threshold, left at the threshold minus the hysteresis. -/
def State.thermStage (s : State) (d : Nat) (tj : Int) : Nat :=
  let st := s.get d PWR_STAT_stage
  let h := s.thermHyst d
  let in2 := decide (s.therm2 d ≤ tj) || (st == 2 && decide (s.therm2 d - h < tj))
  let in1 := decide (s.therm1 d ≤ tj) || (decide (1 ≤ st) && decide (s.therm1 d - h < tj))
  if in2 then 2 else if in1 then 1 else 0

/-- THERMAL_TRIP (R339): at 115 °C the data path halts and the die is handled as a failed one. -/
def State.trip (s : State) (d : Nat) (tj : Int) : State :=
  if (s.pwr d).tripAt.isSome then s
  else
    let s := (s.putB d PWR_STAT_trip true).setPwr d { s.pwr d with halted := true, tripAt := some s.now }
    (s.raise d 22 (arg 0 (ofSigned 8 tj))).ownFault d

/-- THERMAL_SAMPLE (R338, R339): the highest reading of the sensors, and which gives it. -/
def execThermalSample (d : Nat) (tj : Int) (sensor : Nat) (s : State) : Res :=
  onDie s d <|
    let tj := max (-128) (min 127 tj)
    let s := (s.putZ d PWR_TEMP_tj tj).put d PWR_TEMP_sensor (min 4 sensor)
    let s := if s.getZ d PWR_TEMP_MAX_max < tj then s.putZ d PWR_TEMP_MAX_max tj else s
    let st := s.thermStage d tj
    let s := if s.get d PWR_STAT_stage = st then s
      else ((s.put d PWR_STAT_stage st).raise d 21 (arg 0 st + arg 1 (ofSigned 8 tj))).wake d 4
    let s := if st = 0 then s else s.inc d PWR_THROT_CNT
    if 115 ≤ tj then s.trip d tj else s

/-! ### PLLs and CLK_REF (R327, R366) -/

/-- CLK_STAT bits [7:0]. -/
def State.clkStat8 (s : State) (d : Nat) : Nat :=
  s.get d CLK_STAT_quality + 4 * s.get d CLK_STAT_source + 16 * s.get d CLK_STAT_root_lock + 32 * s.get d CLK_STAT_ser_lock
    + 64 * s.get d CLK_STAT_eth_lock + 128 * s.get d CLK_STAT_ref_fault

/-- PLL_UNLOCK (R327): PLL 0 root, 1 SerDes, 2 Ethernet of a die loses lock. -/
def execPllUnlock (d k : Nat) (s : State) : Res :=
  onDie s d <|
    let f := if k = 0 then CLK_STAT_root_lock else if k = 1 then CLK_STAT_ser_lock else CLK_STAT_eth_lock
    if 3 ≤ k ∨ s.flag d f = false then s
    else
      let s := (s.putB d f false).inc d CLK_UNLOCK_CNT
      s.raise d 23 (arg 0 (s.clkStat8 d))

/-- CLK_REF_LOSS (R366): no edges for 10 us: every die halts its data path and invalidates its time. -/
def execClkRefLoss (s : State) : Res :=
  onAll s <| s.dies.foldl (fun s d =>
    if (s.pwr d).refLost then s
    else
      let s := s.setPwr d { s.pwr d with refLost := true, halted := true }
      let s := (s.putB d SYS_STAT_clk_lost true).setQuality d 2
      s.raise d 23 (arg 0 (s.clkStat8 d))) s

/-- CLK_REF_RESTORED (R366): stable for 2 ms: every die restarts through bring-up, warm, which is no failed start. -/
def execClkRefRestored (s : State) : Res :=
  onAll s <|
    if !s.dies.any (fun d => (s.pwr d).refLost) then s
    else
      let s := s.dies.foldl (fun s d => s.setPwr d { s.pwr d with refLost := false }) s
      s.resetAll

/-! ### Ageing (R341 to R344) -/

def State.guardPs (s : State) (d : Nat) : Nat :=
  let g := s.get d AGE_CFG_guard_ps
  if 20 ≤ g ∧ g ≤ 200 then g else 40
def State.periodH (s : State) (d : Nat) : Nat := if s.get d AGE_CFG_period_h = 0 then 24 else s.get d AGE_CFG_period_h
def State.vmax (s : State) (d : Nat) : Nat :=
  let v := s.get d AGE_VCORE_vmax_mv
  if 700 ≤ v ∧ v ≤ 850 then v else 850

/-- Rise of the VCORE target per day, uV (R344): fitted over the last 365 days, in a way the spec does not give, and taken as
at least 1 uV per day. -/
def State.drift (s : State) (d : Nat) : Nat := max 1 (Config.driftFit (s.age d).history)

/-- AGE_LIFE (R344), and LIFE_WARNING. -/
def State.lifeUpdate (s : State) (d : Nat) : State :=
  let drift := s.drift d
  let margin := s.vmax d - s.get d AGE_VCORE_target_mv - 20
  let silicon := min 0xFFFF (margin * 1000 / drift)
  let nand := if s.isL d then s.get d ARC_LIFE_days else 0xFFFF
  let life := min silicon nand
  let s := (s.put d AGE_LIFE_days life).put d AGE_LIFE_drift (min 0xFFFF drift)
  let s := s.put d AGE_STAT_limit (if nand < silicon then 1 else 0)
  let low := decide (life < s.get d AGE_CFG_warn_days)
  let was := (s.age d).warned
  let s := s.setAge d { s.age d with warned := low || (was && decide (life = s.get d AGE_CFG_warn_days)) }
  if low && !was then s.raise d 29 (arg 0 life) else s

/-- The refresh code of R342: the largest of 1, 1/2 and 1/4 of the standard interval that leaves the retention at 4 times
the interval; `ret` counts quarter intervals. -/
def refreshCode (ret : Nat) : Nat := if 16 ≤ ret then 0 else if 8 ≤ ret then 1 else 2

/-- The day of device time. -/
def State.day (s : State) (d : Nat) : Nat := s.devTime d / (86400 * Config.tS)

/-- A re-plan of the margins of a die (R342). Voltage re-planning needs AVSBus control without a fault (R343). -/
def State.replan (s : State) (d : Nat) (v : AgeView) : State :=
  let s := s.put d AGE_STAT_planning 0
  let old := s.get d AGE_VCORE_target_mv
  let target := max 650 (min (s.vmax d) (v.lowestMv + 10))
  let avs := s.flag d AGE_CTRL_avs_en && !s.flag d AGE_STAT_avs_fault
  let s := if avs then s.put d AGE_VCORE_target_mv target else s
  let s := (s.putZ d AGE_SLACK_slack v.slack).put d AGE_SLACK_monitor v.monitor
  let oldR := s.get d AGE_DRAM_refresh
  let code := if s.isL d then refreshCode v.retention else 0
  let s := s.put d AGE_DRAM_refresh code
  let s := if s.isL d then s.put d AGE_DRAM_margin (min 255 (v.retention * 2 ^ code / 4)) else s
  let derated := s.flag d AGE_STAT_clk_derated
  let back := derated && decide (Int.ofNat (s.guardPs d) ≤ v.slack)
  let s := if back then s.putB d AGE_STAT_clk_derated false else s
  let s := s.inc d AGE_PLAN_CNT
  let today := s.day d
  let h := (today, s.get d AGE_VCORE_target_mv) :: (s.age d).history.filter (fun e => decide (today ≤ e.1 + 365))
  let s := s.setAge d { s.age d with planAt := s.now, planTemp := s.getZ d PWR_TEMP_tj, history := h }
  let changed := (avs && old != target) || oldR != code || v.otherChange || back
  let s := if changed then s.raise d 28 (arg 0 (s.get d AGE_VCORE_target_mv)) else s
  s.lifeUpdate d

/-- A plan is due (R342): the period has passed, or the junction temperature has moved by 15 °C. -/
def State.planDue (s : State) (d : Nat) : Bool :=
  let a := s.age d
  s.due (a.planAt + s.periodH d * 3600 * Config.tS) || decide (15 ≤ (s.getZ d PWR_TEMP_tj - a.planTemp).natAbs)

/-- MARGIN_REPLAN (R342): a plan that is due, or one that a write to plan_now has started. -/
def execMarginReplan (d : Nat) (v : AgeView) (s : State) : Res :=
  onDie s d (if s.planDue d || s.flag d AGE_STAT_planning then s.replan d v else s)

/-- PLAN_NOW (R342): the plan starts, and MARGIN_REPLAN ends it. -/
def execPlanNow (d : Nat) (s : State) : Res := onDie s d (s.putB d AGE_STAT_planning true)

/-- SLACK_DEFICIT (R342, R343): a path monitor shows less than half the guard: VCORE rises by 10 mV, or, where the bus has
failed or the voltage is at its limit, the fall-back divider of R328 applies. -/
def execSlackDeficit (d : Nat) (slack : Int) (monitor : Nat) (s : State) : Res :=
  onDie s d <|
    let s := (s.putZ d AGE_SLACK_slack slack).put d AGE_SLACK_monitor monitor
    if Int.ofNat (s.guardPs d) ≤ 2 * slack then s
    else
      let t := s.get d AGE_VCORE_target_mv
      let fault := s.flag d AGE_STAT_avs_fault
      if s.flag d AGE_CTRL_avs_en && !fault && decide (t < s.vmax d) then
        (s.put d AGE_VCORE_target_mv (min (s.vmax d) (t + 10))).inc d AGE_VSTEP_CNT
      else if fault && !s.flag d AGE_STAT_clk_derated then
        (s.putB d AGE_STAT_clk_derated true).raise d 30 (arg 0 3)
      else s

/-- AVS_COMMAND_FAIL (R343): a command has drawn no valid response after 3 attempts. -/
def execAvsCommandFail (d : Nat) (s : State) : Res :=
  onDie s d <|
    if s.flag d AGE_CTRL_avs_en = false then s
    else
      let s := (s.putB d AGE_STAT_avs_fault true).inc d AGE_AVS_ERR_CNT
      s.raise d 30 (arg 0 (1 + 2 * s.get d AGE_STAT_clk_derated))

/-- AVS_ENABLE (R343): AGE_CTRL.avs_en written 1. -/
def execAvsEnable (d : Nat) (s : State) : Res :=
  onDie s d ((s.putB d AGE_CTRL_avs_en true).putB d AGE_STAT_avs_fault false)

end Sys2Proof.Machine
end

