-- ==== Sys2Proof/Machine/RegAccess.lean ====
section
/-! DEFINITION. Access to the register map (R6 to R9, R202, R322, R372, R373): the blocks of a die window, what a register
reads, and what a write does in each block. -/

namespace Sys2Proof.Machine

/-! ### The block base map (R372) -/

/-- The block at an offset of the window of die `d`, if the die has one there. -/
def State.blockAt (s : State) (d off : Nat) : Option Block :=
  let p := off / 0x10000
  if p = 0 then some .sys
  else if p = 1 then some .pwr
  else if p = 2 then some .clk
  else if p = 3 then some .evt
  else if p = 4 then some .lock
  else if p = 5 then some .age
  else if s.isL d then
    if p < 0x10 then none
    else if p < 0x12 then some .sec
    else if p < 0x16 then some .ledg
    else if p < 0x18 then some .bal
    else if p < 0x1C then some .que
    else if p < 0x20 then some .arc
    else if p < 0x22 then some .mirr
    else if p < 0x24 then some .ddr
    else if p < 0x28 then (if d < 2 then some .hif else none)
    else if p < 0x2A then (if d < 2 then some .eth else none)
    else if p < 0x2B then some .euf
    else none
  else if s.isF d then
    if p < 0x10 then none
    else if p < 0x11 then some .rfa
    else if p < 0x12 then some .rfb
    else if p < 0x13 then some .rft
    else if p < 0x14 then some .chn
    else if p < 0x18 then some .dmd
    else if p < 0x1A then some .tt
    else if p < 0x1C then some .wmb
    else if p < 0x20 then some .plc
    else if p < 0x22 then some .slate
    else if p < 0x24 then some .hold
    else if p < 0x25 then some .gpio
    else none
  else none

/-- Offsets in the die window of the two blocks that hold more than registers. -/
def Block.start : Block → Nat
  | .plc => 0x1C0000
  | .slate => 0x200000
  | _ => 0

/-- The power domains whose power a block's registers need, any one of them (R321). -/
def Block.domains : Block → List Nat
  | .sys => [1]
  | .pwr => [0]
  | .clk => [0]
  | .evt => [1]
  | .lock => [2]
  | .age => [1]
  | .sec => [3]
  | .ledg => [4]
  | .bal => [6]
  | .que => [3]
  | .arc => [7]
  | .mirr => [10]
  | .ddr => [8]
  | .hif => [12]
  | .eth => [13]
  | .euf => [11]
  | .rfa => [8]
  | .rfb => [9]
  | .rft => [11]
  | .chn => [3]
  | .dmd => [4, 5]
  | .tt => [6]
  | .wmb => [6]
  | .plc => [13]
  | .slate => [0]
  | .hold => [7]
  | .gpio => [15]

/-- The block accepts access: its domain is on (R322), and the stage offers it: EVT from Memory on and not in Remedial mode
(R348, R354). -/
def State.blockOn (s : State) (d : Nat) (b : Block) : Bool :=
  b.domains.any (s.domOn d) && (b != .evt || (decide (3 ≤ s.get d SYS_BOOT_stage) && s.get d SYS_BOOT_stage != 15))

/-- The register fields of a block. -/
def Block.fields : Block → List Field
  | .sys => fieldsSYS
  | .pwr => fieldsPWR
  | .clk => fieldsCLK
  | .evt => fieldsEVT
  | .lock => fieldsLOCK
  | .age => fieldsAGE
  | .sec => fieldsSEC
  | .ledg => fieldsLEDG
  | .bal => fieldsBAL
  | .que => fieldsQUE
  | .arc => fieldsARC
  | .mirr => fieldsMIRR
  | .ddr => []
  | .hif => fieldsHIF
  | .eth => fieldsETH
  | .euf => fieldsEUF
  | .rfa => fieldsRFA
  | .rfb => fieldsRFB
  | .rft => fieldsRFT
  | .chn => fieldsCHN
  | .dmd => fieldsDMD
  | .tt => fieldsTT
  | .wmb => fieldsWMB
  | .plc => fieldsPLC
  | .slate => fieldsSLATE
  | .hold => []
  | .gpio => fieldsGPIO

/-- What cnt_clear of a block clears; that of CHN clears the counters of DMD, which has no cnt_clear of its own. -/
def Block.counters : Block → List Field
  | .sys => countersSYS
  | .pwr => countersPWR
  | .clk => countersCLK
  | .evt => countersEVT
  | .lock => countersLOCK
  | .age => countersAGE
  | .sec => countersSEC
  | .ledg => countersLEDG
  | .bal => countersBAL
  | .que => countersQUE
  | .arc => countersARC
  | .mirr => countersMIRR
  | .ddr => []
  | .hif => countersHIF
  | .eth => countersETH
  | .euf => countersEUF
  | .rfa => countersRFA
  | .rfb => countersRFA.map Field.onB
  | .rft => countersRFT
  | .chn => countersDMD
  | .dmd => []
  | .tt => countersTT
  | .wmb => countersWMB
  | .plc => countersPLC
  | .slate => countersSLATE
  | .hold => []
  | .gpio => []

/-- The block is on die `d` (R372). -/
def State.hasBlock (s : State) (d : Nat) (b : Block) : Bool :=
  match b with
  | .sys | .pwr | .clk | .evt | .lock | .age => decide (d < s.nDies)
  | .sec | .ledg | .bal | .que | .arc | .mirr | .ddr | .euf => s.isL d
  | .hif | .eth => s.isPort d
  | .rfa | .rfb | .rft | .chn | .dmd | .tt | .wmb | .plc | .slate | .hold | .gpio => s.isF d

/-- The die at which the model keeps a block's registers: those of HIF stand once, at die 0 (R202). -/
def Block.home (b : Block) (d : Nat) : Nat := if b = .hif then 0 else d

/-! ### Counters and access errors -/

/-- Every copy of a counter is 0. -/
def State.zeroCounter (s : State) (d : Nat) (f : Field) : State := (List.range f.count).foldl (fun s i => s.put d f 0 i) s

/-- A counter of time that is still running starts again at 0. -/
def State.restartHeld (s : State) (d : Nat) (b : Block) : State :=
  match b with
  | .hif => { s with hif := { s.hif with groups := s.hif.groups.map (fun g =>
      (g.1, { g.2 with fullSince := g.2.fullSince.map (fun _ => s.now) })) } }
  | .que => [0, 1, 2, 3].foldl (fun s c => s.countHeld d c) s
  | _ => s

/-- cnt_clear of a block (R8). -/
def State.counterClear (s : State) (d : Nat) (b : Block) : State :=
  b.counters.foldl (fun s f => s.zeroCounter (b.home d) f) (s.restartHeld d b)

/-- COUNTER_CLEAR (R8): a block whose domain is off ignores it. -/
def execCounterClear (d : Nat) (b : Block) (s : State) : Res :=
  if s.hasBlock d b then onAll s (if s.blockOn d b then s.counterClear d b else s) else .fault .absentUnit

/-- The access-error event of a die (R6, R373), while its SYS block is powered. -/
def State.accError (s : State) (d off kind : Nat) : State :=
  if !s.domOn d 1 then s
  else
    let s := (s.putB d SYS_STAT_acc_error true).put d SYS_ACC_ADDR_offset off
    ((s.put d SYS_ACC_ADDR_kind kind).inc d SYS_ACC_ERR_CNT).raise d 0 (arg 0 off + arg 4 kind)

/-- The access error of a narrow or unaligned write in BAR0 (R6), except in the window of an absent die (R9), of a block that is
powered off, and of DDR and HOLD (R373). -/
def State.narrowError (s : State) (addr : Nat) : State :=
  let d := addr / dieWindow
  let off := addr % dieWindow
  if s.nDies ≤ d then s
  else match s.blockAt d off with
    | none => s.accError d off 0
    | some b => if !s.blockOn d b || b == .ddr || b == .hold then s else s.accError d off 0

/-- The access error of a narrow or unaligned write through BAR2 or BAR4 of port `p` (R203): the write is in no die window, so that the
offset that the port's die records is a free value (assumption log 66). -/
def State.portError (s : State) (p : Nat) : State :=
  if s.portPresent p then
    let (off, s) := s.freeBelow dieWindow
    s.accError p off 0
  else s

/-- NARROW_OR_UNALIGNED_WRITE (R6, R203): discarded, with the event of kind 0. BAR4, of which the spec does not say it, takes the
rule of the registers too (DESIGN CHOICE, assumption log 66). -/
def execNarrowOrUnalignedWrite (a : BusAddr) (s : State) : Res :=
  match a.bar with
  | .regs => onAll s (s.narrowError a.addr)
  | .doorbell p | .msix p => onAll s (s.portError p)

/-- NARROW_OR_UNALIGNED_READ (R6); a read of BAR2 returns 0 (R203). -/
def execNarrowOrUnalignedRead (a : BusAddr) (s : State) : Res :=
  onAll s { s with busRead := match a.bar with
    | .doorbell _ => 0
    | .regs | .msix _ => 0xFFFFFFFF }

/-- UNMAPPED_WRITE (R373): an aligned write to an offset that no present block occupies. -/
def execUnmappedWrite (addr : Nat) (s : State) : Res :=
  let d := addr / dieWindow
  let off := addr % dieWindow
  if s.nDies ≤ d then onAll s s
  else match s.blockAt d off with
    | none => onAll s (s.accError d off 1)
    | some _ => onAll s s

/-! ### What a register reads -/

/-- The slot of a Locker that LOCK_SLOT_SEL shows. -/
def State.shownSlot (s : State) (d : Nat) : Option Slot := s.slot d (s.get d LOCK_SLOT_SEL_slot)

/-- The fuse hash that LOCK_HASH_SEL shows. -/
def State.shownHash (s : State) (d : Nat) : Bytes :=
  let f := (s.lock d).fuses
  match s.get d LOCK_HASH_SEL_which with
  | 0 => f.vendorHash
  | 1 => f.ownerHash
  | 2 => f.debugHash
  | _ => fillBytes 32 0

/-- Signed milliseconds by which LT leads device time (LEDG_SLEW). -/
def State.slewMs (s : State) (d : Nat) : Int :=
  if s.ltState d = 0 then 0 else ((s.lt d : Int) - (s.devTime d : Int)) / 100000

/-- The line-driver enable is asserted (R108): from 50 µs before the first sample, that of a due acknowledgement too, to 20 µs after the
last. -/
def State.lineDriven (s : State) (d : Nat) : Bool :=
  let p := s.plc d
  let onLine := p.ackOn || (match p.cur with
    | some t => t.stage == .onLine
    | none => false)
  let soon := match p.acks with
    | a :: _ => p.rx.isEmpty && decide (a.due ≤ s.devTime d + plcLead)
    | [] => false
  onLine || soon || decide (s.devTime d < p.driveTill)

/-- Levels on the GPIO pins (GPIO_IN): outputs as driven, the modem's pin by its line-driver enable, inputs from outside. -/
def State.gpioIn (s : State) (d : Nat) : Nat :=
  let sending := s.lineDriven d
  let modem := s.get d PLC_TX_txen_gpio
  (List.range 16).foldl (fun a n =>
    let b := if n = modem then (sending != s.flag d PLC_TX_txen_pol)
      else if bit (s.get d GPIO_DIR_out) n then bit (s.get d GPIO_OUT_level) n else bit (s.f d).pins n
    a + b2n b * 2 ^ n) 0

/-- Whole KiB that bytes take. -/
def kibOf (n : Nat) : Nat := (n + 1023) / 1024

/-- Fields of the common blocks whose value the device works out when they are read. -/
def State.liveCommon (s : State) (d : Nat) (f : Field) (i : Nat) : Option Nat :=
  let k := s.lock d
  let b := s.boot
  if f = SYS_BOOT_bank then some (s.bootDie d).bank
  else if f = SYS_BOOT_trial then some (b2n (b.trial == some (s.bootDie d).bank && decide (2 ≤ s.stage d)))
  else if f = SYS_BOOT_remedial then some (b2n (b.remedial != 0))
  else if f = SYS_FENCE_fenced then some (s.pkg.fenced.foldl (fun a d => a ||| 2 ^ d) 0)
  else if f = SYS_START_CLK_seconds then some s.startClk
  else if f = CLK_TIME_LO_time_lo then some (s.devTime d)
  else if f = CLK_TIME_HI_time_hi then some (s.disc d).timeHi
  else if f = CLK_HOLD_seconds then some (match (s.disc d).holdFrom with
    | some t => if s.get d CLK_STAT_quality = 1 then (s.now - t) / 10 ^ 8 else 0
    | none => 0)
  else if f = EVT_STAT_waiting then some (s.hif.evtWait.filter (fun w => w.die == d)).length
  else if f = LOCK_STAT_lifecycle then some k.lc
  else if f = LOCK_STAT_svn then some k.fuses.svn
  else if f = LOCK_STAT_slots_valid then some (k.slots.length + b2n (s.slot0 d).isSome)
  else if f = LOCK_DIE_ID_LO_id_lo then some (leField k.fuses.dieId 0 4)
  else if f = LOCK_DIE_ID_HI_id_hi then some (leField k.fuses.dieId 4 4)
  else if f = LOCK_HASH_DATAw_value then some (leField (s.shownHash d) (4 * i) 4)
  else if f = LOCK_MARKm_w_value then some (leField (s.mark d (i / 8)) (4 * (i % 8)) 4)
  else if f.base = 0x40000 ∧ f.off = 0x44 then some (match s.shownSlot d with
    | some x => f.of x.attr
    | none => 0)
  else if f = LOCK_SLOT_USES_uses then some (match s.shownSlot d with
    | some x => x.uses
    | none => 0)
  else none

/-- The same for the blocks of an L-die. -/
def State.liveL (s : State) (d : Nat) (f : Field) (i : Nat) : Option Nat :=
  let q := s.que d i
  if f = SEC_STAT_mwk_ok then some (b2n (s.slot d 1).isSome)
  else if f = SEC_STAT_cache_valid then some (s.sec d).cache.length
  else if f = SEC_STAT_unwrap_busy then some (min 4 ((s.sec d).frames.filter (fun x => !x.ready)).length)
  else if f = LEDG_LT_LO_lt_lo then some (s.lt d)
  else if f = LEDG_LT_HI_lt_hi then some (s.l d).ltHi
  else if f = LEDG_SLEW_remaining then some (ofSigned 32 (s.slewMs d))
  else if f = BAL_STAT_groups then some (s.bal d).groups.length
  else if f = BAL_STAT_outq then some (s.l d).balOut.length
  else if f = BAL_POOL_used then some (s.poolUsed d)
  else if f = QUE_STAT_kib_queued then some (kibOf (s.dieQueueBytes d))
  else if f = QUE_STAT_protected then some (b2n (s.isProtected d))
  else if f = QUE_n_STAT_flush_pending then some (b2n q.marker.isSome)
  else if f = QUE_n_STAT_held then some (b2n q.heldSince.isSome)
  else if f = QUE_n_FILL_kib then some (kibOf q.bytes)
  else if f = QUE_n_FILL_items then some q.packets.length
  else if f = QUE_n_HELD_CNT then some (s.heldMs d i)
  else if f = QUE_n_HOLD_hold_now then some (match q.heldSince with
    | some t => (s.now - t) / 100000
    | none => 0)
  else if f = MIRR_STAT_partner then some (if s.inPair d then partnerOf d else 0)
  else if f = HIF_STAT_standby_ready then some (b2n (s.portMode == 1 && s.alive 0 && s.alive 1))
  else if f = HIF_GRPn_STAT_full then some (b2n (!s.cqRoom i (s.cqNeed i)))
  else if f = HIF_GRPn_HELD_CNT then some (match (s.grp i).fullSince with
    | some t => satAdd32 (s.get d f i) ((s.now - t) / Config.tMs)
    | none => s.get d f i)
  else if f = ETH_STAT_ptp_state then
    some (if (s.l d).eth.master.isNone then 0 else if s.ptpSteer = some d ∧ s.get d CLK_STAT_source = 1 then 2 else 1)
  else if f = EUF_ID_LO_id_lo then some s.identity
  else if f = EUF_ID_HI_id_hi then some (s.identity / 2 ^ 32)
  else none

/-- DMD_CTX_STAT of a context: state, slot, level and bytes. -/
def State.ctxStat (s : State) (d c : Nat) (f : Field) : Nat :=
  match s.ctx d c with
  | none => 0
  | some x =>
    if f = DMD_CTX_STATn_state then (match x.state with
      | .receiving => 1
      | .awaitVerdict => 2
      | .unpicking => 3)
    else if f = DMD_CTX_STATn_slot then x.slot
    else if f = DMD_CTX_STATn_level then x.level
    else x.bytes.length

/-- Minutes since the last gain calibration of a path, saturating; 0xFFFF before the first. -/
def State.calAge (s : State) (d : Nat) (pathB : Bool) : Nat :=
  match (if pathB then (s.rad d).calB else (s.rad d).calA).lastDone with
  | some t => min 0xFFFF ((s.now - t) / (60 * 10 ^ 8))
  | none => 0xFFFF

/-- The same for the blocks of an F-die. The gain that the AGC of an enabled path has set is a free value. -/
def State.liveF (s : State) (d : Nat) (f : Field) (i : Nat) : Option Nat :=
  let p := s.plc d
  let pathB := f.base == 0x110000
  let onPath (g : Field) : Bool := f == g || f == g.onB
  if onPath RFA_CAL_cal_age then some (s.calAge d pathB)
  else if onPath RFA_STAT_agc_gain then
    some (if s.flag d (pathField pathB RFA_CTRL_enable) then Config.freeNat s.free else 0)
  else if f = RFT_DC_USEDn_used then some (s.dcUsed d i)
  else if f = CHN_STAT_slots_enabled then
    some ((List.range 128).filter (fun n => s.get d CHN_SLOT_STATn_state n != 0)).length
  else if f = CHN_STAT_ctx_free then some (128 - (s.rad d).ctxs.length)
  else if f = CHN_SLOT_STATn_frames then some (min 3 ((s.slotCtxs d i).filter (fun c => c.2.lastBit.isNone)).length)
  else if f = DMD_STAT_ctx_busy then some (s.rad d).ctxs.length
  else if f = DMD_STAT_unpick_busy then some (s.rad d).unpicks.length
  else if f.base = 0x140000 ∧ f.off = 0x1000 then some (s.ctxStat d i f)
  else if f = TT_n_SF_superframe then
    some (if s.flag d TT_n_STAT_running i then ((s.ttParams d i true).sf (s.devTime d)).getD 0 else s.get d f i)
  else if f = TT_n_STAT_no_key then some (if s.flag d TT_n_STAT_running i then b2n (s.ttNoKey d i) else s.get d f i)
  else if f = PLC_STAT_rx_busy then some (b2n (!p.rx.isEmpty))
  else if f = PLC_STAT_tx_busy then some (b2n (p.ackOn || (match p.cur with
    | some t => t.stage != .contending
    | none => false)))
  else if f = PLC_STAT_tm_entries then some p.tones.length
  else if f = PLC_ZC_PERIOD_valid then some (s.get d PLC_STAT_zc_ok)
  else if f = SLATE_JRNw then
    some (match (s.slate d).run with
      | some r => if r.journalled then leField (jrnBytes r (s.slateElapsed r)) (4 * i) 4 else s.get d f i
      | none => s.get d f i)
  else if f = GPIO_IN_level then some (s.gpioIn d)
  else none

/-- The value a field reads: a write-only field reads 0 (R8). -/
def State.fieldRead (s : State) (d : Nat) (f : Field) (i : Nat) : Nat :=
  if f.acc = .wo then 0
  else
    let live := match s.liveCommon d f i with
      | some v => some v
      | none => if s.isL d then s.liveL d f i else s.liveF d f i
    (live.getD (s.get d f i)) % 2 ^ f.width

/-- A tone-map cache entry as its 32 bytes (04_powerline). -/
def State.toneBytes (s : State) (d e : Nat) : Bytes :=
  match smGet (s.plc d).tones e with
  | none => fillBytes 32 0
  | some t =>
    leBytes 2 t.short ++ leBytes 1 (if t.negotiated then 2 else 1)
      ++ leBytes 1 (b2n t.changed + 2 * b2n t.requested + 4 * b2n t.impulse) ++ t.eui ++ leBytes 4 t.txMap ++ leBytes 4 t.rxMap
      ++ leBytes 1 t.txMod ++ leBytes 1 t.rxMod ++ leBytes 1 t.txGain ++ leBytes 1 t.lqi ++ leBytes 1 t.badRun
      ++ leBytes 1 t.goodRun ++ leBytes 1 t.neutralRun ++ leBytes 1 0
      ++ leBytes 2 (min 0xFFFF (s.secsSince t.tmAt / 60)) ++ leBytes 2 (min 0xFFFF (s.secsSince t.heardAt))

/-- A 32-bit word of the windows that are no registers, by its offset in the block: short-address table and tone-map cache
(04_powerline), waveform memory (14_slate_panel). -/
def State.windowRead (s : State) (d : Nat) (b : Block) (o : Nat) : Nat :=
  match b with
  | .plc =>
    if o < 0x10000 then 0
    else if o < 0x20000 then
      let a := (o - 0x10000) / 8
      if o % 8 = 0 then smGetD (s.plc d).lows 0 a else leField (smGetD (s.plc d).shorts (fillBytes 8 0) a) 4 4
    else leField (s.toneBytes d ((o - 0x20000) / 32)) (o % 32) 4
  | .slate =>
    let w := (o - 0x1000) % 0x200 / 4
    if o < 0x1000 ∨ 0x2000 ≤ o ∨ 65 ≤ w then 0 else (s.slate d).word ((o - 0x1000) / 0x200) w
  | _ => 0

/-- An offset holds the register of a reserved event source, which reads 0 (R377). -/
def State.evtReserved (s : State) (d off : Nat) : Bool :=
  match EVT_SRCs_en.copyAt off with
  | some n => (s.evtDefault d n).isNone
  | none => false

/-- An aligned read of a die window (R9, R322, R373): absent dies, unmapped offsets and powered-off blocks read all ones;
DDR, HOLD and unused offsets of a block read 0. -/
def State.readWord (s : State) (d off : Nat) : Nat :=
  if s.nDies ≤ d then 0xFFFFFFFF
  else match s.blockAt d off with
    | none => 0xFFFFFFFF
    | some b =>
      if !s.blockOn d b then 0xFFFFFFFF
      else if b = .evt ∧ s.evtReserved d off = true then 0
      else
        let h := b.home d
        b.fields.foldl (fun a f => match f.copyAt off with
          | some i => a + s.fieldRead h f i * 2 ^ f.lsb
          | none => a) (s.windowRead d b (off - b.start))

/-- An aligned read of BAR4 of port `p`: the MSI-X table and the pending bits; 0 elsewhere. -/
def State.readMsix (s : State) (p addr : Nat) : Nat :=
  if !s.portPresent p then 0xFFFFFFFF
  else if addr < 0x400 then s.msixWord p (addr / 16) (addr % 16 / 4)
  else if 0x800 ≤ addr ∧ addr < 0x808 then
    (List.range 32).foldl (fun a i =>
      a + b2n (smGetD s.hif.msixPend false (64 * p + (addr - 0x800) / 4 * 32 + i)) * 2 ^ i) 0
  else 0

/-- A host read of a register of BAR0: the word, and the latches of CLK_TIME_HI and LEDG_LT_HI, which a read of the low word
takes. -/
def State.readReg (s : State) (addr : Nat) : State :=
  let d := addr / dieWindow
  let off := addr % dieWindow
  let s := { s with busRead := s.readWord d off }
  if s.nDies ≤ d then s
  else if off = CLK_TIME_LO_time_lo.dieOff 0 then s.setDisc d { s.disc d with timeHi := s.devTime d / 2 ^ 32 % 2 ^ 32 }
  else if off = LEDG_LT_LO_lt_lo.dieOff 0 ∧ s.isL d = true ∧ s.domOn d 4 = true then
    s.setL d { s.l d with ltHi := s.lt d / 2 ^ 32 % 2 ^ 32 }
  else s

/-- An aligned host read of a window (R9): BAR2 returns 0 (R203). -/
def State.read (s : State) (bar : Bar) (addr : Nat) : State :=
  match bar with
  | .regs => s.readReg addr
  | .doorbell _ => { s with busRead := 0 }
  | .msix p => { s with busRead := s.readMsix p addr }

end Sys2Proof.Machine
end

