-- ==== Sys2Proof/Machine/RegWrite.lean ====
section
/-! DEFINITION. Register writes (R7, R8, R202): the fields a write stores, the actions it starts, and the writes that a block
refuses with cfg_error. -/

namespace Sys2Proof.Machine

/-- The state a meaning answers; a meaning that finds no unit leaves the state as it was. -/
def after (s : State) (r : Res) : State :=
  match r with
  | .next t => t
  | _ => s

/-- A field takes a written value: the values outside the ranges of RFA_TUNE, RFA_BW and the WMB_RESP registers are ignored. -/
def fieldTakes (f : Field) (w : Nat) : Bool :=
  if f == RFA_TUNE_centre || f == RFA_TUNE_centre.onB then decide (1690000 ≤ w) && decide (w ≤ 9600000)
  else if f == RFA_BW_bw || f == RFA_BW_bw.onB then decide (w ≤ 4)
  else if f == WMB_RESP_S_delay || f == WMB_RESP_T_delay || f == WMB_RESP_C_delay || f == WMB_RESP_N_delay then
    decide (1000 ≤ w) && decide (w ≤ 10000)
  else true

/-- Store the written bits of one field (R8): those of a W1S field are actions, which its block takes. -/
def State.storeField (s : State) (d off v : Nat) (f : Field) : State :=
  match f.copyAt off with
  | none => s
  | some i =>
    let w := f.of v
    match f.acc with
    | .rw | .rws | .wo => if fieldTakes f w then s.put d f w i else s
    | .w1c => s.put d f (s.get d f i - (s.get d f i &&& w)) i
    | .ro | .ros | .w1s => s

/-- Store the written fields of a register (R7: bits of no field are ignored). -/
def State.store (s : State) (d : Nat) (b : Block) (off v : Nat) : State := b.fields.foldl (fun s f => s.storeField d off v f) s

/-- A write has a 1 for a W1S bit. -/
def pulse (f : Field) (v : Nat) : Bool := f.of v != 0

/-- cnt_clear, where the write sets it. -/
def State.pulseClear (s : State) (d v : Nat) (b : Block) (f : Field) : State := if pulse f v then s.counterClear d b else s

/-! ### Common blocks -/

def State.writePwr (s : State) (d off v : Nat) : State :=
  let s := s.putB d PWR_STAT_cfg_error false
  if off = PWR_CTRL_recess_go.dieOff 0 then
    let s := s.pulseClear d v .pwr PWR_CTRL_cnt_clear
    if pulse PWR_CTRL_recess_go v then after s (execRecessGo d s) else s
  else if off = PWR_DOM_EN_en.dieOff 0 then after s (execDomainEnable d v s)
  else if off = PWR_RECESS_level.dieOff 0 then (s.put d PWR_RECESS_level (PWR_RECESS_level.of v)).wake d 5
  else if off = PWR_WAKE_mask.dieOff 0 then s.put d PWR_WAKE_mask (PWR_WAKE_mask.of v ||| 0x10)
  else s.store d .pwr off v

def State.writeClk (s : State) (d off v : Nat) : State :=
  let s := s.store d .clk off v
  if off = CLK_CTRL_set_go.dieOff 0 then
    let s := s.pulseClear d v .clk CLK_CTRL_cnt_clear
    if pulse CLK_CTRL_set_go v then after s (execSetGo d s) else s
  else s

/-- EVT_PEND: a written 1 clears the pending bit, so that the next raise signals again (R379). -/
def State.pendClear (s : State) (d w mask : Nat) : State :=
  let p := s.get d EVT_PENDw_pend w
  s.put d EVT_PENDw_pend (p - (p &&& mask)) w

/-- EVT_TEST: raise a source with args 0 and no handle. -/
def State.evtTest (s : State) (d n : Nat) : State := s.raise d (n % 256)

/-- The registers of EVT: those of reserved sources ignore writes (R377), and port B is refused where no L1 is. -/
def State.writeEvt (s : State) (d off v : Nat) : State :=
  match EVT_SRCs_en.copyAt off with
  | some n =>
    if (s.evtDefault d n).isNone then s
    else if EVT_SRCs_port.of v = 1 ∧ s.nL = 1 then s.putB d EVT_SRCs_cfg_error true n
    else (s.putB d EVT_SRCs_cfg_error false n).store d .evt off v
  | none =>
    match EVT_PENDw_pend.copyAt off with
    | some w => s.pendClear d w v
    | none =>
      if off = EVT_TEST_go.dieOff 0 then (if pulse EVT_TEST_go v then s.evtTest d (EVT_TEST_source.of v) else s)
      else if off = EVT_CTRL_cnt_clear.dieOff 0 then s.pulseClear d v .evt EVT_CTRL_cnt_clear
      else s

def State.writeLock (s : State) (d off v : Nat) : State :=
  if off = LOCK_CTRL_zeroise.dieOff 0 then
    let s := s.pulseClear d v .lock LOCK_CTRL_cnt_clear
    if pulse LOCK_CTRL_zeroise v then s.zeroise d else s
  else if off = LOCK_MARK_LOCK_lock.dieOff 0 then after s (execMarkLock d (LOCK_MARK_LOCK_lock.of v) s)
  else if off = LOCK_EXT_CTRL_go.dieOff 0 ∧ pulse LOCK_EXT_CTRL_go v = true then
    after s (execMarkExtend d (LOCK_EXT_CTRL_mark.of v) s)
  else if off = LOCK_EXT_CTRL_go.dieOff 0 then s.extMark d (LOCK_EXT_CTRL_mark.of v)
  else s.store d .lock off v

def State.writeAge (s : State) (d off v : Nat) : State :=
  if off = AGE_CTRL_avs_en.dieOff 0 then
    let s := s.pulseClear d v .age AGE_CTRL_cnt_clear
    let s := if pulse AGE_CTRL_plan_now v then after s (execPlanNow d s) else s
    if AGE_CTRL_avs_en.of v = 0 then s.putB d AGE_CTRL_avs_en false
    else if s.flag d AGE_CTRL_avs_en then s else after s (execAvsEnable d s)
  else s.store d .age off v

/-! ### Blocks of an L-die -/

def State.writeSec (s : State) (d off v : Nat) : State :=
  if off = SEC_CTRL_enable.dieOff 0 then
    let s := s.pulseClear d v .sec SEC_CTRL_cnt_clear
    let s := if pulse SEC_CTRL_cache_flush v then after s (execCacheFlush d s) else s
    if SEC_CTRL_enable.of v = 1 then after s (execSecEnable d s)
    else (s.putB d SEC_CTRL_enable false).putB d SEC_STAT_running false
  else s.store d .sec off v

def State.writeLedg (s : State) (d off v : Nat) : State :=
  if off = LEDG_CTRL_enable.dieOff 0 then
    let s := s.pulseClear d v .ledg LEDG_CTRL_cnt_clear
    let s := if pulse LEDG_CTRL_hold_release v then after s (execHoldRelease d s) else s
    let s := if pulse LEDG_CTRL_rr_abort v then after s (execRrAbort d s) else s
    if LEDG_CTRL_enable.of v = 1 then after s (execLedgerEnable d s)
    else (s.putB d LEDG_CTRL_enable false).putB d LEDG_STAT_running false
  else s.store d .ledg off v

/-- BAL: an enable of an Idle engine makes it Running (R180). -/
def State.writeBal (s : State) (d off v : Nat) : State :=
  if off = BAL_CTRL_enable.dieOff 0 then
    let s := s.pulseClear d v .bal BAL_CTRL_cnt_clear
    if BAL_CTRL_enable.of v = 1 then (s.putB d BAL_CTRL_enable true).put d BAL_STAT_state 1
    else if s.flag d BAL_CTRL_enable then after s (execBalanceDisable d s) else s
  else s.store d .bal off v

/-- The queue registers that are written only while the queue is Idle (R196). -/
def queIdleOnly (off : Nat) : Option Nat :=
  match QUE_n_CFG_share.copyAt off with
  | some c => some c
  | none =>
    match QUE_n_MID_LO_base_lo.copyAt off with
    | some c => some c
    | none =>
      match QUE_n_MID_HI_base_hi.copyAt off with
      | some c => some c
      | none => QUE_n_MID_SIZE_kib.copyAt off

def State.writeQue (s : State) (d off v : Nat) : State :=
  match QUE_n_CTRL_enable.copyAt off with
  | some c =>
    let s := s.putB d QUE_n_STAT_cfg_error false c
    if QUE_n_CTRL_enable.of v = 1 ∧ s.get d QUE_n_STAT_state c = 2 then s.queRefuse d c
    else
      let s := if QUE_n_CTRL_enable.of v = 1 then after s (execQueueEnable d c s) else after s (execQueueDisable d c s)
      if pulse QUE_n_CTRL_flush v then after s (execQueueFlush d c s) else s
  | none =>
    match queIdleOnly off with
    | some c =>
      if s.get d QUE_n_STAT_state c = 0 then (s.putB d QUE_n_STAT_cfg_error false c).store d .que off v else s.queRefuse d c
    | none =>
      if off = QUE_CTRL_cnt_clear.dieOff 0 then s.pulseClear d v .que QUE_CTRL_cnt_clear else s.store d .que off v

/-- ARC_CTRL.enable set by a register write: the parameter pages are checked as they last read (R228). Where they have not been read yet,
the command ARC_ENABLE carries what they say (DESIGN CHOICE, assumption log 67). -/
def State.arcOn (s : State) (d : Nat) : State :=
  match (s.arc d).nand with
  | none => s
  | some n => if !s.domOn d 7 || s.get d ARC_STAT_state != 0 then s else s.arcStartUp d n

def arcIdleOnly (off : Nat) : Bool :=
  [ARC_NS_HOST_gib, ARC_PE_pe, ARC_MAPC_mib, ARC_JRN_ckpt_min].any (fun f => f.dieOff 0 == off)

def State.writeArc (s : State) (d off v : Nat) : State :=
  let idle := s.get d ARC_STAT_state = 0
  if off = ARC_CTRL_enable.dieOff 0 then
    let s := (s.pulseClear d v .arc ARC_CTRL_cnt_clear).putB d ARC_STAT_cfg_error false
    let s := (s.putB d ARC_CTRL_full_stripe (pulse ARC_CTRL_full_stripe v)).putB d ARC_CTRL_summary (pulse ARC_CTRL_summary v)
    let s := (s.putB d ARC_CTRL_gov_en (pulse ARC_CTRL_gov_en v)).putB d ARC_STAT_parity_full
      (pulse ARC_CTRL_full_stripe v || s.stage d != 7)
    let s := s.summaryCheck d
    if ARC_CTRL_enable.of v = 1 then s.arcOn d else after s (execArcDisable d s)
  else if arcIdleOnly off then
    (if idle then (s.putB d ARC_STAT_cfg_error false).store d .arc off v else s.arcRefuse d 0x0409)
  else (s.putB d ARC_STAT_cfg_error false).store d .arc off v

/-- MIRR_CFG.paired may be written (R252): on the SG4-L4 and SG4-L8, while no ledger is enabled and no layout has recorded
the mode. -/
def State.pairedOpen (s : State) : Bool :=
  (s.variant == .l4 || s.variant == .l8) && (List.range s.nL).all (fun d =>
    !s.flag d LEDG_CTRL_enable && (match (s.arc d).layout with
      | some l => l.paired.isNone
      | none => true))

def State.writeMirr (s : State) (d off v : Nat) : State :=
  if off = MIRR_CFG_paired.dieOff 0 then
    let s := s.put d MIRR_CFG_confirm_us (MIRR_CFG_confirm_us.of v)
    if s.pairedOpen then (List.range s.nL).foldl (fun s l => s.put l MIRR_CFG_paired (MIRR_CFG_paired.of v)) s else s
  else if off = MIRR_CTRL_auto_resync.dieOff 0 then (s.pulseClear d v .mirr MIRR_CTRL_cnt_clear).store d .mirr off v
  else s.store d .mirr off v

/-- HIF_GRPn_CTRL (R223, R224): sq_kind changes only while both rings are Idle. -/
def State.writeGrpCtrl (s : State) (g v : Nat) : State :=
  let idle : Bool := s.get 0 HIF_GRPn_STAT_sq_state g == 0 && s.get 0 HIF_GRPn_STAT_cq_state g == 0
  let kind := HIF_GRPn_CTRL_sq_kind.of v
  if !idle && kind != s.get 0 HIF_GRPn_CTRL_sq_kind g then s.putB 0 HIF_GRPn_STAT_cfg_error true g
  else
    let s := s.putB 0 HIF_GRPn_STAT_cfg_error false g
    let s := (s.put 0 HIF_GRPn_CTRL_sq_kind kind g).put 0 HIF_GRPn_CTRL_port (HIF_GRPn_CTRL_port.of v) g
    let sq := HIF_GRPn_CTRL_sq_enable.of v = 1
    let cq := HIF_GRPn_CTRL_cq_enable.of v = 1
    let s := if !sq && s.flag 0 HIF_GRPn_CTRL_sq_enable g then after s (execSqDisable g s) else s
    let s := if !cq && s.flag 0 HIF_GRPn_CTRL_cq_enable g then after s (execCqDisable g s) else s
    let s := if cq && !s.flag 0 HIF_GRPn_CTRL_cq_enable g then after s (execRingEnable g false s) else s
    if sq && !s.flag 0 HIF_GRPn_CTRL_sq_enable g then after s (execRingEnable g true s) else s

/-- The ring registers that are written only while both rings of the group are Idle (R224). -/
def grpIdleOnly (off : Nat) : Option Nat :=
  [HIF_GRPn_SIZE_sq_log2, HIF_GRPn_SQ_LO_base_lo, HIF_GRPn_SQ_HI_base_hi, HIF_GRPn_CQ_LO_base_lo,
    HIF_GRPn_CQ_HI_base_hi].findSome? (fun f => f.copyAt off)

/-- HIF through the window of port die `d` (R202): in active-standby mode only the block of the active port takes writes. -/
def State.writeHif (s : State) (d off v : Nat) : State :=
  if s.portMode = 1 ∧ d ≠ s.get 0 HIF_STAT_active then s
  else if off = HIF_CTRL_failback.dieOff 0 then
    let s := s.pulseClear 0 v .hif HIF_CTRL_cnt_clear
    if pulse HIF_CTRL_failback v then after s (execFailback s) else s
  else if off = HIF_PORT_mode.dieOff 0 then after s (execHifPortWrite v s)
  else
    match HIF_GRPn_CTRL_sq_enable.copyAt off with
    | some g => s.writeGrpCtrl g v
    | none =>
      match grpIdleOnly off with
      | some g =>
        if s.get 0 HIF_GRPn_STAT_sq_state g = 0 ∧ s.get 0 HIF_GRPn_STAT_cq_state g = 0 then
          (s.putB 0 HIF_GRPn_STAT_cfg_error false g).store 0 .hif off v
        else s.putB 0 HIF_GRPn_STAT_cfg_error true g
      | none => s.store 0 .hif off v

def ethIdleOnly (off : Nat) : Bool :=
  [ETH_CFG_iface, ETH_MAC_LO_mac_lo, ETH_MAC_HI_mac_hi, ETH_PTP_domain, ETH_PTP_DLY_tx_delay].any (fun f => f.dieOff 0 == off)

/-- ETH (R301, R303, R307). ETH_MDIO keeps go at 1 until the access is done. -/
def State.writeEth (s : State) (d off v : Nat) : State :=
  if off = ETH_CTRL_enable.dieOff 0 then
    let s := (s.pulseClear d v .eth ETH_CTRL_cnt_clear).putB d ETH_STAT_cfg_error false
    let s := s.put d ETH_CTRL_ptp_en (ETH_CTRL_ptp_en.of v)
    let s := if ETH_CTRL_alarm_en.of v = 0 then
        (if s.flag d ETH_CTRL_alarm_en then (s.putB d ETH_CTRL_alarm_en false).alarmStop d else s)
      else if s.flag d ETH_CTRL_alarm_en then s else after s (execAlarmEnable d s)
    if ETH_CTRL_enable.of v = 1 then after s (execEthEnable d s)
    else if s.flag d ETH_CTRL_enable then after s (execEthDisable d s) else s
  else if ethIdleOnly off ∧ s.get d ETH_STAT_state ≠ 0 then s.putB d ETH_STAT_cfg_error true
  else
    let s := (s.putB d ETH_STAT_cfg_error false).store d .eth off v
    if off = ETH_MDIO_go.dieOff 0 ∧ pulse ETH_MDIO_go v = true then s.putB d ETH_MDIO_go true else s

def State.writeEuf (s : State) (d off v : Nat) : State :=
  if off = EUF_CTRL_enable.dieOff 0 then
    let s := (s.pulseClear d v .euf EUF_CTRL_cnt_clear).putB d EUF_STAT_cfg_error false
    if EUF_CTRL_enable.of v = 1 then (if s.flag d EUF_CTRL_enable then s else after s (execEufPortEnable d s))
    else if s.flag d EUF_CTRL_enable then after s (execEufPortDisable d s) else s
  else if off = EUF_CFG_prio.dieOff 0 ∧ s.get d EUF_STAT_port_state ≠ 0 then
    (s.putB d EUF_STAT_cfg_error true).put d EUF_STAT_error 0x07
  else (s.putB d EUF_STAT_cfg_error false).store d .euf off v

/-! ### Blocks of an F-die -/

/-- RFA and RFB (R36, R53, R54): TUNE and BW are ignored while the path is enabled; an enable that may not be cleared leaves
the write without effect. -/
def State.writePath (s : State) (d off v : Nat) (pathB : Bool) : State :=
  let fl (f : Field) : Field := pathField pathB f
  let b : Block := if pathB then .rfb else .rfa
  let was := s.flag d (fl RFA_CTRL_enable)
  let on : Bool := RFA_CTRL_enable.of v == 1
  if off = (fl RFA_CTRL_enable).dieOff 0 then
    if was && !on && s.pathBusy d pathB then after s (execRxPathEnable d pathB false s)
    else
      let s := s.pulseClear d v b RFA_CTRL_cnt_clear
      let s := (s.lnaWrite d pathB (RFA_CTRL_lna.of v)).put d (fl RFA_CTRL_agc_freeze) (RFA_CTRL_agc_freeze.of v)
      let s := if was != on then after s (execRxPathEnable d pathB on s) else s
      let s := if pulse RFA_CTRL_cal_start v then after s (execRxCalStart d pathB s) else s
      if pulse RFA_CTRL_gain_cal_start v then after s (execGainCalStart d pathB s) else s
  else if was && (off == (fl RFA_TUNE_centre).dieOff 0 || off == (fl RFA_BW_bw).dieOff 0) then s
  else s.store d b off v

/-- RFT (R41, R57, R59): a change of blank_mask takes effect at once; the band entries are read-only once dc_lock is set, and a
written limit may put the used time above 90 % of the budget or below it again. -/
def State.writeRft (s : State) (d off v : Nat) : State :=
  if off = RFT_CTRL_enable.dieOff 0 then
    let was := s.flag d RFT_CTRL_enable
    let s := ((s.pulseClear d v .rft RFT_CTRL_cnt_clear).put d RFT_CTRL_blank_mask (RFT_CTRL_blank_mask.of v)).blankNow d
    let s := if pulse RFT_CTRL_dc_lock v then after s (execRftDcLock d s) else s
    if RFT_CTRL_enable.of v = 1 then s.putB d RFT_CTRL_enable true
    else if was then after s (execTxPathDisable d s) else s
  else if 0x120040 ≤ off ∧ s.flag d RFT_CTRL_dc_lock = true then s
  else
    let s := s.store d .rft off v
    match RFT_DC_LIMn_lim.copyAt off with
    | some n => s.dcWatch d n
    | none => s

/-- CHN (R42, R58): while a slot is not Idle, its registers take only the clearing of enable. -/
def State.writeChn (s : State) (d off v : Nat) : State :=
  if off = CHN_CTRL_cnt_clear.dieOff 0 then s.pulseClear d v .chn CHN_CTRL_cnt_clear
  else
    match CHN_SLOT_CTRLn_enable.copyAt off with
    | some n =>
      let st := s.get d CHN_SLOT_STATn_state n
      if CHN_SLOT_CTRLn_enable.of v = 1 then after s (execSlotEnable d n s)
      else if st = 0 then s.putB d CHN_SLOT_STATn_cfg_error false n
      else after s (execSlotDisable d n s)
    | none =>
      let n := match CHN_SLOT_CFGn_offset.copyAt off with
        | some n => some n
        | none => CHN_SLOT_MODEn_mode_mask.copyAt off
      match n with
      | none => s
      | some n =>
        if s.get d CHN_SLOT_STATn_state n = 0 then (s.putB d CHN_SLOT_STATn_cfg_error false n).store d .chn off v
        else s.putB d CHN_SLOT_STATn_cfg_error true n

/-- TT_n_CTRL (R63): draining and announce are bell flags, which may change while the timetable runs. -/
def State.writeTtCtrl (s : State) (d n v : Nat) : State :=
  let s := (s.put d TT_n_CTRL_draining (TT_n_CTRL_draining.of v) n).put d TT_n_CTRL_announce (TT_n_CTRL_announce.of v) n
  let follow : Bool := TT_n_CTRL_follow.of v == 1
  let runs := s.flag d TT_n_STAT_running n
  if TT_n_CTRL_enable.of v = 1 then (if runs then s else after s (execTtEnable d n follow s))
  else if runs then after s (execTtDisable d n s)
  else s.putB d TT_n_CTRL_follow follow n

/-- TT (R63, R79, R81): the other registers of a timetable are ignored while it is enabled. -/
def State.writeTt (s : State) (d off v : Nat) : State :=
  if off = TT_CTRL_camp_start.dieOff 0 then
    let s := s.pulseClear d v .tt TT_CTRL_cnt_clear
    let s := if pulse TT_CTRL_camp_start v then after s (execCampStart d s) else s
    if pulse TT_CTRL_camp_abort v then after s (execCampAbort d s) else s
  else
    match TT_n_CTRL_enable.copyAt off with
    | some n => s.writeTtCtrl d n v
    | none =>
      if 0x180100 ≤ off ∧ off < 0x180300 ∧ s.flag d TT_n_CTRL_enable ((off - 0x180100) / 0x40) = true then s
      else s.store d .tt off v

def plcIdleOnly (off : Nat) : Bool :=
  [PLC_ADDR_short, PLC_EUI_LO_eui_lo, PLC_EUI_HI_eui_hi, PLC_CSMA_min_be, PLC_CSMA_SLOT_slot_time, PLC_TIMING_rifs].any
    (fun f => f.dieOff 0 == off)

/-- PLC_CTRL (R101, R109): the band changes only while the modem is Idle, and empties the tone-map cache. -/
def State.writePlcCtrl (s : State) (d v : Nat) : State :=
  let band := PLC_CTRL_band.of v
  let change := band ≠ s.get d PLC_CTRL_band
  if change ∧ s.get d PLC_STAT_state ≠ 0 then s.plcRefuse d
  else
    let s := (s.pulseClear d v .plc PLC_CTRL_cnt_clear).putB d PLC_STAT_cfg_error false
    let s := if change then s.setPlc d { s.plc d with tones := [] } else s
    let s := (s.put d PLC_CTRL_band band).put d PLC_CTRL_tm_unsol (PLC_CTRL_tm_unsol.of v)
    if PLC_CTRL_enable.of v = 1 then after s (execPlcEnable d s)
    else if s.flag d PLC_CTRL_enable then after s (execPlcDisable d s) else s

/-- PLC, with its short-address table (R92); the tone-map cache is never written. -/
def State.writePlc (s : State) (d off v : Nat) : State :=
  let o := off - Block.plc.start
  if off = PLC_CTRL_enable.dieOff 0 then s.writePlcCtrl d v
  else if 0x20000 ≤ o then s
  else if 0x10000 ≤ o then
    let a := (o - 0x10000) / 8
    if o % 8 = 0 then s.setPlc d { s.plc d with lows := smSet (s.plc d).lows 0 a v } else s.plcHighWrite d a v
  else if plcIdleOnly off ∧ s.get d PLC_STAT_state ≠ 0 then s.plcRefuse d
  else (s.putB d PLC_STAT_cfg_error false).store d .plc off v

/-- SLATE (R308, R312, R314, R316, R317), with the waveform memory (R311). -/
def State.writeSlate (s : State) (d off v : Nat) : State :=
  let o := off - Block.slate.start
  if off = SLATE_CTRL_enable.dieOff 0 then
    let was := s.flag d SLATE_CTRL_enable
    let on : Bool := SLATE_CTRL_enable.of v == 1
    let s := (s.pulseClear d v .slate SLATE_CTRL_cnt_clear).putB d SLATE_STAT_cfg_error false
    let s := s.put d SLATE_CTRL_recess_keep (SLATE_CTRL_recess_keep.of v)
    let s := if on && !was then after s (execSlateEnable d s) else if was && !on then after s (execSlateDisable d s) else s
    let s := if pulse SLATE_CTRL_wf_check v then after s (execWfCheck d s) else s
    if pulse SLATE_CTRL_update v then after s (execSlateUpdate d s) else s
  else if 0x1000 ≤ o then
    (if o < 0x2000 ∧ (o - 0x1000) % 0x200 / 4 < 65 then s.slateWave d ((o - 0x1000) / 0x200) ((o - 0x1000) % 0x200 / 4) v else s)
  else if off = SLATE_CFG_type.dieOff 0 ∧ SLATE_CFG_type.of v ≠ s.get d SLATE_CFG_type ∧ s.slateState d ≠ 0 then
    s.putB d SLATE_STAT_cfg_error true
  else (s.putB d SLATE_STAT_cfg_error false).store d .slate off v

/-- GPIO: the bits of the modem's pin in DIR and OUT keep their value. -/
def State.writeGpio (s : State) (d off v : Nat) : State :=
  let modem := s.get d PLC_TX_txen_gpio
  let keep (f : Field) : Nat :=
    if modem < 16 then (if bit (s.get d f) modem then v ||| 2 ^ modem else v - (v &&& 2 ^ modem)) else v
  if off = GPIO_DIR_out.dieOff 0 then s.put d GPIO_DIR_out (keep GPIO_DIR_out)
  else if off = GPIO_OUT_level.dieOff 0 then s.put d GPIO_OUT_level (keep GPIO_OUT_level)
  else s.store d .gpio off v

/-! ### The write -/

/-- A write that reaches a powered block of die `d`. -/
def State.writeBlock (s : State) (d : Nat) (b : Block) (off v : Nat) : State :=
  match b with
  | .sys => (s.store d .sys off v).pulseClear d (if off = SYS_CTRL_cnt_clear.dieOff 0 then v else 0) .sys SYS_CTRL_cnt_clear
  | .pwr => s.writePwr d off v
  | .clk => s.writeClk d off v
  | .evt => s.writeEvt d off v
  | .lock => s.writeLock d off v
  | .age => s.writeAge d off v
  | .sec => s.writeSec d off v
  | .ledg => s.writeLedg d off v
  | .bal => s.writeBal d off v
  | .que => s.writeQue d off v
  | .arc => s.writeArc d off v
  | .mirr => s.writeMirr d off v
  | .ddr => s
  | .hif => s.writeHif d off v
  | .eth => s.writeEth d off v
  | .euf => s.writeEuf d off v
  | .rfa => s.writePath d off v false
  | .rfb => s.writePath d off v true
  | .rft => s.writeRft d off v
  | .chn => s.writeChn d off v
  | .dmd => s.store d .dmd off v
  | .tt => s.writeTt d off v
  | .wmb => (s.store d .wmb off v).pulseClear d (if off = WMB_CTRL_cnt_clear.dieOff 0 then v else 0) .wmb WMB_CTRL_cnt_clear
  | .plc => s.writePlc d off v
  | .slate => s.writeSlate d off v
  | .hold => s
  | .gpio => s.writeGpio d off v

/-- A write to an offset of the window of die `d`: a block whose domain is off ignores it (R322). -/
def State.regWrite (s : State) (d off v : Nat) : State :=
  match s.blockAt d off with
  | none => s
  | some b => if s.blockOn d b then s.writeBlock d b off (v % 2 ^ 32) else s

/-- The block refused the last write to this register (R347): its cfg_error is set. -/
def State.writeRefused (s : State) (d off : Nat) : Bool :=
  match s.blockAt d off with
  | some .pwr => s.flag d PWR_STAT_cfg_error
  | some .evt => (match EVT_SRCs_en.copyAt off with
    | some n => s.flag d EVT_SRCs_cfg_error n
    | none => false)
  | some .que => if 0x180100 ≤ off ∧ off < 0x180200 then s.flag d QUE_n_STAT_cfg_error ((off - 0x180100) / 0x40) else false
  | some .arc => s.flag d ARC_STAT_cfg_error
  | some .hif =>
    if off = HIF_PORT_mode.dieOff 0 then s.flag 0 HIF_STAT_cfg_error
    else if 0x241000 ≤ off ∧ off < 0x245000 then s.flag 0 HIF_GRPn_STAT_cfg_error ((off - 0x241000) / 0x40) else false
  | some .eth => s.flag d ETH_STAT_cfg_error
  | some .euf => s.flag d EUF_STAT_cfg_error
  | some .chn => if 0x131000 ≤ off ∧ off < 0x131800 then s.flag d CHN_SLOT_STATn_cfg_error ((off - 0x131000) / 0x10) else false
  | some .tt => (match TT_n_CTRL_enable.copyAt off with
    | some n => s.flag d TT_n_STAT_cfg_error n
    | none => false)
  | some .plc => s.flag d PLC_STAT_cfg_error
  | some .slate => s.flag d SLATE_STAT_cfg_error
  | _ => false

/-- An aligned write to BAR4 of port `p` (R202 layout, R221): clearing a mask bit sends what is pending. One that is not aligned does not
come here: it is discarded (R6; for BAR4 a DESIGN CHOICE, assumption log 66). -/
def State.msixWrite (s : State) (p addr v : Nat) : State :=
  if 0x400 ≤ addr ∨ s.portPresent p = false then s
  else
    let e := addr / 16
    let w := addr % 16 / 4
    if w = 3 ∧ v % 2 = 0 then after s (execMsiXUnmask p e s)
    else { s with hif := { s.hif with
      msixTable := smSet s.hif.msixTable (if w = 3 then 1 else 0) (256 * p + 4 * e + w) (if w = 3 then v % 2 else v) } }

/-- An aligned write to BAR2 of port `p` (R202 layout, R203): the two doorbells of the page of a ring group; the rest is reserved. -/
def State.doorbellWrite (s : State) (p addr v : Nat) : State :=
  if addr % 0x1000 = 0 then after s (execSqTailDoorbell p (addr / 0x1000 % 256) v s)
  else if addr % 0x1000 = 4 then after s (execCqHeadDoorbell p (addr / 0x1000 % 256) v s)
  else s

/-- REGISTER_WRITE: an aligned 32-bit host write. One at an address that is not aligned, or that no block occupies, is what
R6, R203 and R373 say of it; the window of an absent die ignores it (R9). -/
def execRegisterWrite (bar : Bar) (addr v : Nat) (s : State) : Res :=
  if addr % 4 ≠ 0 then execNarrowOrUnalignedWrite ⟨bar, addr⟩ s
  else match bar with
  | .msix p => onAll s (s.msixWrite p addr (v % 2 ^ 32))
  | .doorbell p => onAll s (s.doorbellWrite p addr (v % 2 ^ 32))
  | .regs =>
    if s.nDies ≤ addr / dieWindow then onAll s s
    else match s.blockAt (addr / dieWindow) (addr % dieWindow) with
      | none => execUnmappedWrite addr s
      | some _ => onAll s (s.regWrite (addr / dieWindow) (addr % dieWindow) v)

/-! ### Events and pins -/

/-- EVT_TEST (R378): the named source is raised with args 0 and handle 0xFFFF_FFFF; a reserved one is ignored. -/
def execEvtTest (d n : Nat) (s : State) : Res := onDie s d (if s.blockOn d .evt then s.evtTest d n else s)

/-- EVT_PEND_CLEAR (R379). -/
def execEvtPendClear (d w mask : Nat) (s : State) : Res :=
  onDie s d (if s.blockOn d .evt && decide (w < 8) then s.pendClear d w mask else s)

/-- EVENT_RAISE_MESSAGE (R378, R379): the host port die takes the oldest raise that a die without a port has sent. -/
def execEventRaiseMessage (s : State) : Res :=
  match s.hif.evtNet with
  | [] => onAll s s
  | m :: rest => onAll s ({ s with hif := { s.hif with evtNet := rest } }.evtArrive m)

/-- GPIO_EDGE (R376, R326): the level of input pin `n` has changed and persisted for 2 µs. With the edge enabled it raises
F-080 + n while the GPIO domain is powered, and wakes the die where the pin is a wake source. -/
def execGpioEdge (d n : Nat) (rising : Bool) (s : State) : Res :=
  onF s d <|
    if 16 ≤ n then s
    else
      let x := s.f d
      let old := bit x.pins n
      let s := s.setFd d { x with pins := if rising then x.pins ||| 2 ^ n else x.pins - (x.pins &&& 2 ^ n) }
      let on := bit (s.get d (if rising then GPIO_RISE_rise else GPIO_FALL_fall)) n
      if old = rising ∨ on = false ∨ bit (s.get d GPIO_DIR_out) n = true then s
      else
        let s := if s.domOn d 15 then s.raise d (80 + n) (arg 0 (b2n rising)) else s
        if bit (s.get d GPIO_WAKE_wake) n then s.wake d 1 else s

end Sys2Proof.Machine
end

