-- ==== Sys2Proof/Machine/Restore.lean ====
section
/-! DEFINITION. Restoring the records (16_bringup_rollcall R349, R351): layout, journal, checkpoints, replay of the archive
log, ledger time, and the roles of a pair. -/

namespace Sys2Proof.Machine

/-! ### Replay (R349 step 5) -/

/-- A command that an archive entry of kind 0x03 holds, as it runs again. -/
def replayCmd (d : Nat) (b : Bytes) : Cmd :=
  { id := 0, group := 0, port := 0, die := d, opcode := leField b 0 1, entry := slice b 0 64, fetched := 0 }

/-- A handle's re-rating in apply mode (R164): the registers and demands that it wrote. -/
def State.replayRerate (s : State) (d : Nat) (e : ArcEntry) : State :=
  let slot := e.handle % 2 ^ 20
  match (s.fetch d slot).1 with
  | none => s
  | some m => s.update d slot { m with bytes := putBytes m.bytes 192 (slice e.src 0 128) }

/-- The commands whose effect on records and tables replay repeats. -/
def State.replayCommand (s : State) (d : Nat) (e : ArcEntry) : State :=
  let c := replayCmd d e.body
  let s := { s with hif := { s.hif with inflight := [c], longOps := [] } }
  let r : Res :=
    match c.opcode with
    | 0x02 => execProvisionRecord d e.src s
    | 0x03 => execSetRecordState d s
    | 0x05 => execSetProgram d s
    | 0x06 => execClosePeriod d s
    | 0x07 => execTopUp d s
    | 0x08 => execAcceptEmergencyCredit d s
    | 0x09 => execDisconnect d s
    | 0x0A => execReconnect d s
    | 0x10 => execAssignSlot d s
    | 0x11 => execReleaseSlot d s
    | 0x12 => execGrantHallPass d s
    | 0x13 => execRevokeHallPass d s
    | 0x0B => onAll s (s.replayRerate d e)
    | _ => onAll s s
  after s r

/-- The items of a reading in summary form (R233). -/
def summaryItems (m : MRec) (b : Bytes) : List LItem :=
  let x := leField b 6 1
  let kinds := x % 16 + (if bit x 4 then 128 else 0)
  [LItem.reading 0 (m.g rUnit) 0 (leField b 0 6)]
    ++ (if kinds = 0 then [] else [LItem.tamper kinds 0])
    ++ (if bit x 5 then [LItem.power 1 0] else []) ++ (if bit x 6 then [LItem.power 0 0] else [])
    ++ (if bit x 7 then [LItem.emergency] else [])

/-- The mark and the key state after an Accept with a counter and its last MIC (R126, R127). -/
def MRec.accepted (m : MRec) (counter : Nat) (mic8 : Bytes) : MRec :=
  let m := (m.p rHwm counter).pb rLastMic mic8
  if m.g rKeyState = 1 then m.p rKeyState 2 else m

/-- Book a reading again: the record's boundaries up to the entry's LT, its items, the mark. -/
def State.replayReading (s : State) (d : Nat) (e : ArcEntry) : State :=
  let slot := e.handle % 2 ^ 20
  match (s.fetch d slot).1 with
  | none => s
  | some m0 =>
    let u := s.current d slot m0
    let m := u.2
    let full := e.kind == 1
    let plain := slice e.body 24 (leField e.body 2 2)
    let items :=
      if full then packetItems m { seq := 0, kind := 0, cls := 2, handle := e.handle, start := 0, cost := 1, payload := [],
                                   plain := plain, wmb := m.g rIdKind == 1 }
      else summaryItems m e.body
    let age := (items.filterMap (fun i => match i with
      | .reading _ _ a _ => some a
      | _ => none)).getLast?.getD 0
    let r := u.1.applyItems d slot m (decide (m.g rState = 0 ∨ m.g rState = 4)) (e.lt + age * 10 ^ 8) 0 items
    r.1.update d slot (r.2.1.accepted (leField e.body 8 4) (slice e.body 16 8))

/-- Keys of an entry of kind 0x04: both wrapped positions, and the key state that their kinds show (R123, R127). -/
def State.replayKeys (s : State) (d : Nat) (e : ArcEntry) : State :=
  let slot := e.handle % 2 ^ 20
  let link := slice e.body 0 64
  let spare := slice e.body 64 64
  let y := s.sec d
  let s := s.setSec d { y with wrapped := smPut y.wrapped slot (link, spare) }
  match (s.fetch d slot).1 with
  | none => s
  | some m =>
    let old := m.g rKeyState
    let k := wkKind spare
    let m1 := (m.p rLinkGen (leField link 12 4)).p rSpareGen (if k = 0 then 0 else leField spare 12 4)
    let m2 :=
      if wkKind link = 0 then m1.p rKeyState 0
      else if k = 2 then m1.p rKeyState 3
      else if k = 3 then
        (((m1.p rPrevHwm (m.g rHwm)).pb rPrevMic (m.gb rLastMic)).pb rPrevAck (m.gb rStoredAck)).p rKeyState 4
      else m1.p rKeyState (if 3 ≤ old then 2 else 1)
    s.update d slot m2

/-- Replay one entry, at the LT it carries. -/
def State.replayEntry (s : State) (d : Nat) (e : ArcEntry) : State :=
  let s := s.setLed d { s.led d with lt := max (s.led d).lt (e.lt * 10 ^ 9) }
  let s := s.putB d LEDG_STAT_default_tariff (if e.kind = 1 ∨ e.kind = 2 then e.flags.testBit 3 else s.defaultOn d)
  if e.kind = 1 ∨ e.kind = 2 then s.replayReading d e
  else if e.kind = 3 then s.replayCommand d e
  else if e.kind = 4 then s.replayKeys d e
  else if e.kind = 9 then
    let p := e.body.drop 8
    let t := leField e.body 0 8 / 10 ^ 8
    s.setLed d { s.led d with
      progs := (s.led d).progs.filter (fun v => !(v.num == leField p 1 1 && v.act == t)) ++ [⟨leField p 1 1, t, p, true⟩] }
  else if e.kind = 8 then s.setLed d { s.led d with disc := (s.led d).disc.filter (· != e.body) ++ [e.body] }
  else if e.kind = 0x0A then
    let slot := e.handle % 2 ^ 20
    match (s.fetch d slot).1 with
    | none => s
    | some m => s.update d slot (m.accepted (leField e.body 4 4) (slice e.body 8 8))
  else s

/-- The sequence numbers of an entry's checkpoint page, and of the other tables' checkpoint (R236). -/
def Arc.pageSeq (a : Arc) (e : ArcEntry) : Nat := match smGet a.ckpts (e.handle % 2 ^ 20 / 32) with
  | some c => c.seq
  | none => 0
def Arc.tabSeq (a : Arc) : Nat := match a.ckptTables with
  | some t => t.seq
  | none => 0

/-- Replay an entry on the scratch state, whose archive is empty: a record newer than the entry keeps its contents, and so do the other
tables. -/
def State.replayOne (w : State) (d : Nat) (a : Arc) (e : ArcEntry) : State :=
  let page := e.handle != noHandle && decide (a.pageSeq e ≤ e.seq)
  let tab := decide (a.tabSeq ≤ e.seq)
  if !page && !tab then w
  else
    let x := w.l d
    let w := (w.setArc d {}).replayEntry d e
    let y := w.l d
    let y := if page then y else { y with recs := x.recs, sec := x.sec }
    w.setL d (if tab then y else { y with led := { x.led with lt := y.led.lt }, bal := x.bal, tt := x.tt })

/-- Records, keys and the ledger's tables as the checkpoints and the archive log give them. What replay would deliver,
mirror, queue or raise is dropped with the state it runs on. -/
def State.replayTables (s : State) (d : Nat) : LDie :=
  let a := s.arc d
  let x := s.l d
  let t := match a.ckptTables with
    | some t => t
    | none => { seq := 0, led := {}, ltState := 0, hold := 0, bal := {}, tt := {}, active := false }
  let base : LDie := { x with
    recs := a.ckpts.foldl (fun r c => c.2.records.foldl (fun r e => smPut r e.1 e.2) r) []
    sec := { x.sec with wrapped := a.ckpts.foldl (fun r c => c.2.keys.foldl (fun r e => smPut r e.1 e.2) r) [] }
    led := t.led, bal := t.bal, tt := t.tt }
  let w := ((s.setL d base).put d LEDG_STAT_lt_state 0).put d MIRR_STAT_role 0
  let y := (a.entries.foldl (fun w e => w.replayOne d a e) w).l d
  { x with recs := y.recs, sec := { x.sec with wrapped := y.sec.wrapped }, led := y.led, bal := y.bal, tt := y.tt }

/-! ### The journal (R198, R336, R349 step 3) -/

/-- Restore the queues of a saved power loss: in their places, their sequence numbers unchanged, every item flagged. -/
def State.restoreQueues (s : State) (d : Nat) (v : Save) : State :=
  let late (p : Packet) : Packet := { p with flags := if p.flags.testBit 0 then p.flags else p.flags + 1 }
  let n := v.queues.foldl (fun a q => a + q.length) 0
  let s := [0, 1, 2, 3].foldl (fun s c =>
    let l := (v.queues.getD c []).map late
    let s := s.setQue d c { s.que d c with packets := l }
    let s := (s.put d QUE_n_SEQ_next_seq (v.seqs.getD c 0) c).put d QUE_n_DELIV_delivered (v.delivered.getD c 0) c
    s.inc d QUE_n_RESTORE_CNT l.length c) s
  let top := (s.l d).ques.foldl (fun a q => q.packets.foldl (fun a p => max a (p.order + 1)) a) 0
  let s := s.setL d { s.l d with orderNext := max (s.l d).orderNext top }
  if n = 0 then s else (s.putB d QUE_STAT_restored true).raise d 101 (arg 0 n)

/-- The program content that a record's meter uses up to a ledger second. -/
def State.gridOf (s : State) (d : Nat) (m : MRec) (sec : Nat) : Option Bytes := s.content d (m.programAt (sec - 1)) (sec - 1)

/-- The archive data of the journal is programmed, under the full-stripe parity of a start: entries, amendments, and the pages that were
being written; a started write of another column is gone with its column. -/
def State.restoreArchive (s : State) (d : Nat) (v : Save) : State :=
  let a := s.arc d
  let es := v.entries.filter (fun e => !a.entries.any (fun x => x.seq == e.seq))
  let am := v.amends.drop (a.amends.length - v.amendFrom)
  let cs := v.columns.filter (fun c => !a.columns.any (fun x => x.no == c.no))
  let ps := v.progs.filter (fun p => match p.keys.head? with
    | some k => keyKind k != 1 || cs.any (fun c => c.no == keyNo k / 1028)
    | none => false)
  let s := s.setArc d { a with
    entries := a.entries ++ es.map (fun e => { e with arrived := s.now }),
    amends := a.amends ++ am.map (fun m => { m with arrived := s.now }), columns := a.columns ++ cs }
  let s := (s.programAll d (es.length + 1)).amendAll d (am.length + 1)
  ps.foldl (fun s p => s.arcWrite d { p with cmd := none, programmed := false }) s

/-- What is left of columns that are not held is mapped no more; the values of those held leave the records (R235), and the last
interval of each grid is noted (R350). -/
def State.restoreColumns (s : State) (d due : Nat) : State :=
  let a := s.arc d
  let last := a.columns.foldl (fun (l : List (Nat × Int × Int)) c =>
    match l.find? (fun x => x.1 == c.intLen && decide (x.2.1 = c.stdOff)) with
    | none => l ++ [(c.intLen, c.stdOff, c.n)]
    | some x => if x.2.2 < c.n then l.map (fun y => if y = x then (c.intLen, c.stdOff, c.n) else y) else l) []
  let s := s.setArc d { a with
    map := a.map.filter (fun e => keyKind e.1 != 1 || a.columns.any (fun c => c.no == keyNo e.1 / 1028)),
    colLast := last, colDue := due }
  s.setRecs d ((s.l d).recs.map (fun e => (e.1, { e.2 with ivals := e.2.ivals.filter (fun x =>
    !a.columns.any (fun c => n32 c.n == x.n && (match s.gridOf d e.2 c.ltEnd with
      | some q => pIntLen q == c.intLen && decide (pStdOffset q = c.stdOff)
      | none => false))) })))

/-- ARC_NEXT and ARC_FIRST as the entries held show them. -/
def State.restoreSeqs (s : State) (d : Nat) : State :=
  let a := s.arc d
  let next := a.entries.foldl (fun n e => max n (e.seq + 1)) a.onNand
  let first := match a.entries.head? with
    | some e => e.seq
    | none => next
  (s.put2 d ARC_NEXT_LO_next_lo ARC_NEXT_HI_next_hi next).put2 d ARC_FIRST_LO_first_lo ARC_FIRST_HI_first_hi first

/-! ### Ledger time at start-up (R149) -/

/-- The highest LT that the journal, the archive log or the checkpoints hold. -/
def State.restoredTop (s : State) (d journal : Nat) : Nat :=
  let tab := match (s.arc d).ckptTables with
    | some t => t.led.lt
    | none => 0
  (s.arc d).entries.foldl (fun n e => max n (e.lt * 10 ^ 9)) (max journal tab)

/-- LT starts at the value restored: in Hold above device time, by a jump under R146 where device time is more than 2 s ahead, and else
slewing. -/
def State.restoreLt (s : State) (d : Nat) : State :=
  let top := (s.led d).lt
  let dev := (s.com1 d).clk
  let step := Int.ofNat (s.devTime d) - Int.ofNat (s.lt d)
  let log (s : State) (action : Nat) : State :=
    let s := s.discLog d action step (s.devTime d)
    if 200000000 < step.natAbs then s.raise d 72 (arg 0 (s.get d LEDG_DISC_IDX_next_seq)) else s
  if dev < top then ((log (s.enterHold d) 5).raise d 73).defaultCheck d
  else if top + 2 * 10 ^ 17 < dev then (((log s 6).put d LEDG_STAT_lt_state 0).setLed d { (log s 6).led d with lt := dev }).defaultCheck d
  else (s.ltSlew d).defaultCheck d

/-! ### Roles (R349 step 6) -/

/-- A die of a pair takes no part in the decision: it is held in reset, Fenced or Failed, or restarts on its own. -/
def State.outOfPair (s : State) (d : Nat) : Bool :=
  s.pkg.fenced.contains d || s.role d == 4 || s.role d == 5 || (s.bootDie d).alone

/-- The die was Active at its last checkpoint. -/
def State.wasActive (s : State) (d : Nat) : Bool :=
  match (s.arc d).ckptTables with
  | some t => t.active
  | none => false

/-- Die `a` becomes Active; its partner Substitute if its archive is as long, and Resyncing if not. -/
def State.pairRoles (s : State) (a : Nat) : State :=
  let p := partnerOf a
  let s := s.put a MIRR_STAT_role 1
  if s.arcNext p = s.arcNext a then (s.put p MIRR_STAT_role 2).putPair a 1 else s.resyncStart p

/-- The roles of a pair, once both dies have restored their records. -/
def State.decideRoles (s : State) (d : Nat) : State :=
  let p := partnerOf d
  if !s.inPair d then (s.put d MIRR_STAT_role 0).put d MIRR_STAT_pair_state 0
  else if (s.bootDie d).alone then s
  else if s.outOfPair p then (s.put d MIRR_STAT_role 1).putPair d 2
  else if s.stage p < 5 ∨ s.stage p = 15 then s
  else if s.arcNext p < s.arcNext d then s.pairRoles d
  else if s.arcNext d < s.arcNext p then s.pairRoles p
  else if s.wasActive p && !s.wasActive d then s.pairRoles p
  else if s.wasActive d && !s.wasActive p then s.pairRoles d
  else s.pairRoles (d - d % 2)

/-! ### Steps 1 to 5 -/

/-- The package's mode, identity and stored partition as its layout record and journal hold them (R252, R290). -/
def State.restorePackage (s : State) (d : Nat) : State :=
  let s : State := match (s.arc d).layout with
    | some l => (match l.paired with
        | some b => s.lDies.foldl (fun (s : State) e => s.putB e MIRR_CFG_paired b) s
        | none => s)
    | none => s
  s.put d EUF_PART_VER_version s.fab.version

/-- Everything that Restoring rebuilds on a die. -/
def State.restore (s : State) (d : Nat) : State :=
  let s := s.restorePackage d
  let save := (s.arc d).saves.head?
  let s := match save with
    | some v => s.restoreArchive d v
    | none => s
  let s := s.restoreSeqs d
  let s := s.setL d (s.replayTables d)
  let s := match save with
    | some v =>
      let s := (s.setLed d v.ledger).put d LEDG_SWEEP_boundary v.sweep
      (s.put d LEDG_STAT_lt_state v.ltState).put2 d LEDG_HOLD_LO_hold_lo LEDG_HOLD_HI_hold_hi v.hold
    | none => s
  let s := s.put d LEDG_DISC_IDX_next_seq (discNext (s.led d).disc)
  let s := s.setLed d { s.led d with lt := s.restoredTop d (s.led d).lt }
  let due := match save with
    | some v => v.sweep
    | none => s.sweepTarget d (s.ltSec d)
  let s := (s.restoreColumns d due).restoreLt d
  match save with
  | some v => s.restoreQueues d v
  | none => s

/-! ### Start-up recovery (R350) -/

/-- The intervals of a grid whose columns had fallen due and are not held. -/
def State.unwritten (s : State) (d : Nat) (p : Bytes) : List Int :=
  let a := s.arc d
  let delay := Int.ofNat (s.get d ARC_CFG_col_delay)
  let vals := (s.l d).recs.flatMap (fun e => e.2.ivals.map (fun x => toSigned 32 x.n))
  let last := (a.colLast.find? (fun x => x.1 == pIntLen p && decide (x.2.1 = pStdOffset p))).map (fun x => x.2.2 + 1)
  match last.toList ++ vals with
  | [] => []
  | n :: ns =>
    let lo := ns.foldl min n
    let hi := intOf p (s.tai d) (a.colDue * 10 ^ 8) - 1 - delay
    ((List.range (hi + 1 - lo).toNat).map (fun k => lo + Int.ofNat k)).filter (fun n => (s.column d p n).isNone)

/-- Open blocks whose accumulators were lost are closed and relocated under full-stripe parity; columns that had fallen due are rebuilt;
the pages of the last checkpoint pass are read again. -/
def State.recovery (s : State) (d : Nat) : State :=
  let lost := ((s.arc d).blocks.filter (fun e => e.2.st == .opened && e.2.accLost)).map (·.1)
  let s := lost.foldl (fun (s : State) b => (s.setArc d ((s.arc d).close b)).relocate d b 0) s
  let s := (s.grids d).foldl (fun s p => (s.unwritten d p).foldl (fun s n => s.writeColumn d p n true) s) s
  let a := s.arc d
  s.setArc d { a with health := { a.health with read := a.health.read + 16384 * a.ckpts.length } }

end Sys2Proof.Machine
end

