-- ==== Sys2Proof/Machine/Boot.lean ====
section
/-! DEFINITION. Bring-up, failed starts, Remedial mode and the commands 0x70 to 0x76 (16_bringup_rollcall R345 to R355). -/

namespace Sys2Proof.Machine

/-! ### The start (R352) -/

/-- Bring-up fails at a die. For a die that restarts on its own this is a failure of that die (R259), and else a failed start. -/
def State.bootFail (s : State) (d status : Nat) : State :=
  if (s.bootDie d).alone then s.fenceDie d else s.failStart status d

/-- A start begins with the release of the first die. -/
def State.startBegin (s : State) : State :=
  let b := s.boot
  if b.current.isSome then s
  else
    let e : StartEnt := { seq := b.seqNext, clock := s.startClk }
    s.setBoot { b.logPut e with current := some e, seqNext := b.seqNext + 1 }

/-- Change the entry of the start in progress. -/
def State.startSet (s : State) (f : StartEnt → StartEnt) : State :=
  match s.boot.current with
  | none => s
  | some e => s.setBoot { s.boot.logPut (f e) with current := some (f e) }

/-- Dies that meter handles may name and that count (R252, R348). -/
def State.startDies (s : State) : List Nat :=
  s.lDies.filter (fun d => !(s.paired && d % 2 == 1) && !(s.pkg.fenced.contains d || s.role d == 4 || s.role d == 5))

/-- The start succeeds once each of them is Online: the trial ends, and the counts with it (R348, R353). -/
def State.startCheck (s : State) : State :=
  match s.boot.current with
  | none => s
  | some e =>
    if s.startDies.all (fun d => decide (6 ≤ s.stage d) && s.stage d != 15) then
      let time := if s.get 0 CLK_STAT_quality = 2 then 0 else s.devTime 0
      let b := s.boot.logPut { e with result := 0, stage := 6, time := time }
      s.setBoot { b with current := none, rejected := 0, trial := if b.trial = some e.bank then none else b.trial }
    else s

/-! ### Measurement (R121, R346) -/

def State.lockMark (s : State) (d m : Nat) : State :=
  s.put d LOCK_MARK_LOCK_lock (s.get d LOCK_MARK_LOCK_lock ||| 2 ^ m)

/-- The ROM extends M0 with the digest of the key that verified the image, then with its security version. -/
def State.measure0 (s : State) (d : Nat) (i : Image) : State :=
  let f := (s.lock d).fuses
  let key := if i.signer = 1 then f.vendorHash else f.ownerHash
  ((s.extend d 0 key).extend d 0 (leBytes 32 i.svn)).lockMark d 0

/-- The first stage extends M1 with the digest of the main firmware. -/
def State.measure1 (s : State) (d : Nat) (i : Image) : State := (s.extend d 1 i.digest).lockMark d 1

/-- The image passes a die's checks (R346 step 1): a signer that the lifecycle permits, and a security version not below the
fuses. -/
def State.imageOk (s : State) (d : Nat) (i : Image) : Bool :=
  signerOk (s.lock d).lc i.signer && decide ((s.lock d).fuses.svn ≤ i.svn)

/-- The die has the image, verified by its own ROM. -/
def State.takeImage (s : State) (d bank : Nat) (i : Image) : State :=
  let s := (s.measure0 d i).put d SYS_BOOT_bank bank
  s.setBootDie d { s.bootDie d with bank := bank, version := i.version, imageIn := true }

/-! ### ROM on a boot die (R346 step 1, R353, R354) -/

/-- The bank that the ROM turns to when it rejects one. -/
def Boot.otherBank (b : Boot) (x : Nat) : Nat := if x = 2 then b.preferred else 1 - x

/-- The image in a bank, if the die's ROM accepts its first stage. -/
def State.bankImage (s : State) (d bank : Nat) : Option Image :=
  match smGet s.boot.images bank with
  | none => none
  | some i => if s.imageOk d i then some i else none

/-- Boot die `d` runs the image of a bank. -/
def State.bootBank (s : State) (d bank : Nat) (i : Image) : State :=
  let s := (s.takeImage d bank i).putB d SYS_BOOT_trial (s.boot.trial == some bank)
  if (s.bootDie d).alone then s else s.startSet (fun e => { e with bank := bank, version := i.version })

def State.romBoot (s : State) (d : Nat) : State :=
  let b := s.boot
  let x := b.named.getD b.preferred
  let y := b.otherBank x
  let s := s.setBoot { b with named := none }
  let s := if (s.bootDie d).alone then s else s.startSet (fun e => { e with bank := x })
  match s.bankImage d x with
  | some i => s.bootBank d x i
  | none =>
    match s.bankImage d y with
    | some i => (s.raise d 8 (arg 0 x)).bootBank d y i
    | none => s.bootFail d 0x0901

/-- The die whose flash the package has booted from: L0, or L1 in its place. -/
def State.bootSource (s : State) : Nat :=
  if (s.bootDie 0).imageIn then 0 else 1

/-! ### Remedial mode (R353, R354) -/

/-- The die that runs the monitor: L0, or L1 where L0 does not answer. -/
def State.monitorDie (s : State) : Nat := if s.pkg.fenced.contains 0 && s.isL 1 then 1 else 0

/-- A die that the monitor leaves in Recess. -/
def State.remedialIdle (s : State) (d : Nat) : State :=
  let level := if s.isL d then 2 else 3
  let s := (s.put d SYS_BOOT_stage 1).put d PWR_STAT_recess level
  let s := s.put d PWR_DOM_STAT_on (s.get d PWR_DOM_STAT_on &&& s.recessDoms d level)
  if s.isF d then s.femRefresh d else s

/-- REMEDIAL_ENTRY (R353, R354): the monitor runs on a die; the start's entry says so. -/
def State.remedialEnter (s : State) (d : Nat) : State :=
  let cause := s.boot.remedial
  let sg : Bytes := [0x53, 0x47, 0x34, 0x52, 0x45, 0x4D, 0x45, 0x44, 0x49, 0x41, 0x4C]
  let s := (s.extend d 0 (sha256 sg)).lockMark d 0
  let s := ((s.put d SYS_BOOT_stage 15).put d SYS_BOOT_reason cause).putB d SYS_BOOT_remedial true
  let s := s.startSet (fun e => { e with result := 2, stage := 1, reason := cause, bank := s.boot.preferred })
  let s := s.setBoot { s.boot with current := none }
  s.raise d 6 (arg 0 cause)

/-- A fuse fault or lifecycle Retired at a die: Remedial mode, whatever the package was doing. -/
def State.fuseFault (s : State) (d : Nat) : State :=
  if (s.bootDie d).alone then s.bootFail d 0x0903
  else
    let b := s.boot
    let s := s.setBoot { b with remedial := if b.remedial = 0 then 3 else b.remedial }
    let m := s.monitorDie
    s.dies.foldl (fun s e => if s.stage e = 0 then s else if e = m then s.remedialEnter e else s.remedialIdle e) s

/-! ### RESET_RELEASE (R346, R348) -/

/-- What the release of reset brings on every die: the pins and clocks of the ROM stage. -/
def State.release (s : State) (d : Nat) : State :=
  let s := (s.put d SYS_BOOT_stage 1).setBootDie d { s.bootDie d with since := s.now, imageIn := false }
  let s := (s.putB d CLK_STAT_root_lock true).putB d CLK_STAT_ser_lock true
  let s := if s.isF d then s.femRefresh d else s
  if s.isPort d then s.putB d CLK_STAT_eth_lock true else s

/-- ROOT_SECRET_GENERATE (R112): the first power-up in Factory state. -/
def State.rootSecret (s : State) (d : Nat) : State :=
  let k := s.lock d
  if k.fuses.lifecycle = 0 ∧ k.fuses.root = List.replicate 32 0 then
    let r := s.randomBytes 32
    r.2.setLock d { k with fuses := { k.fuses with root := r.1 } }
  else s

/-- RESET_RELEASE: RESET_N is released after power-on (`powerOn`), or a warm reset ends. `fuseOk`: the fuses pass their check;
`dramOk`: DRAM trains on a boot die. -/
def execResetRelease (d : Nat) (powerOn fuseOk dramOk : Bool) (s : State) : Res :=
  onDie s d <|
    if s.stage d ≠ 0 ∨ s.pkg.fenced.contains d = true then s
    else
      let s := if powerOn then s.dieReset d true else s
      let s := if powerOn && fuseOk then s.rootSecret d else s
      let alone := (s.bootDie d).alone
      let s := s.release d
      let s := if alone ∨ (s.boot.remedial ≠ 0 ∧ d ≠ s.monitorDie) then s else s.startBegin
      if !fuseOk then
        ((s.putB d LOCK_STAT_fuse_error true).raise d 12).fuseFault d
      else if (s.lock d).lc = 3 then s.fuseFault d
      else if s.boot.remedial ≠ 0 ∧ alone = false then
        (if d = s.monitorDie then s.remedialEnter d else s.remedialIdle d)
      else if d < 2 ∧ s.isL d = true ∧ dramOk = false then s.bootFail d 0x0904
      else if d = 0 ∧ (alone = false ∨ s.inPair 0 = false) then s.romBoot 0
      else s

/-! ### Images for the other dies (R346 step 3) -/

/-- The image that the boot die sends: the one it verified; to a die under update-die the staged one (R273). -/
def State.sentImage (s : State) (d : Nat) : Option (Nat × Image) :=
  let bank := if (s.bootDie d).alone && s.flag d MIRR_FW_PROG_running && s.isL d then s.boot.preferred
    else (s.bootDie s.bootSource).bank
  (smGet s.boot.images bank).map (fun i => (bank, i))

/-- BOOT_IMAGE_MESSAGE: the die's own ROM verifies the image again and measures it. -/
def execBootImageMessage (d : Nat) (s : State) : Res :=
  onDie s d <|
    let b := s.bootDie d
    let from_ := if b.alone then partnerOf d else s.bootSource
    if s.stage d ≠ 1 ∨ b.imageIn = true ∨ s.boot.remedial ≠ 0 ∨ (b.alone = false ∧ (d = s.bootSource ∨ s.stage from_ < 2)) then s
    else match s.sentImage d with
      | none => s
      | some (bank, i) =>
        if !s.imageOk d i then s.bootFail d 0x0901
        else if !i.mainOk then s.bootFail d 0x0902
        else (s.takeImage d bank i).measure1 d i

/-- BOOT_ANSWER_TIMEOUT (R346, R354): die `d` has not answered for 20 ms. L1, when L0 does not answer it, boots from its own
flash, or runs the monitor. -/
def execBootAnswerTimeout (d : Nat) (s : State) : Res :=
  onDie s d <|
    if d = 0 ∧ s.isL 1 = true ∧ s.stage 1 = 1 ∧ (s.bootDie 1).imageIn = false then
      if s.boot.remedial ≠ 0 then (if s.stage 0 = 15 then s else s.remedialEnter 1) else s.romBoot 1
    else if s.boot.current.isSome && decide (s.stage d ≤ 1) && !(s.bootDie d).alone && !s.pkg.fenced.contains d then
      s.bootFail d 0x0905
    else if (s.bootDie d).alone && decide (s.stage d ≤ 1) && !s.pkg.fenced.contains d then s.bootFail d 0x0905
    else s

/-! ### The configuration blob (R347) -/

/-- A register exists at an offset of the die's window. -/
def State.offsetOk (s : State) (d off : Nat) : Bool :=
  match s.blockAt d off with
  | none => false
  | some b => b.fields.any (fun f => (f.copyAt off).isSome) || ((b == .plc || b == .slate) && decide (b.start + 0x1000 ≤ off))

/-- The check of R347 that needs no write. -/
def State.blobOk (s : State) (l : List CfgWrite) : Bool :=
  l.all (fun w => decide (w.die < s.nDies) && decide (w.off % 4 = 0) && s.offsetOk w.die w.off)

/-- The enable bits that are held back until Online. -/
def heldFields : List Field :=
  [LEDG_CTRL_enable, SEC_CTRL_enable, QUE_n_CTRL_enable, BAL_CTRL_enable, TT_n_CTRL_enable, WMB_CTRL_resp_en, PLC_CTRL_enable,
   HIF_GRPn_CTRL_sq_enable, HIF_GRPn_CTRL_cq_enable, ETH_CTRL_enable]

/-- The write sets such a bit of its die's type. -/
def State.heldWrite (s : State) (w : CfgWrite) : Bool :=
  match s.blockAt w.die w.off with
  | none => false
  | some b => heldFields.any (fun f => b.fields.contains f && (f.copyAt w.off).isSome && f.of w.value != 0)

/-- Apply writes in list order; false at one that names a reserved offset or that its block refuses. -/
def State.applyWrites (s : State) (hold : Bool) : List CfgWrite → State × Bool
  | [] => (s, true)
  | w :: ws =>
    if hold && s.heldWrite w then
      let b := s.bootDie w.die
      (s.setBootDie w.die { b with held := b.held ++ [w] }).applyWrites hold ws
    else if !s.blobOk [w] then (s, false)
    else
      let t := s.regWrite w.die w.off w.value
      if t.writeRefused w.die w.off then (t, false) else t.applyWrites hold ws

/-- Enter a stage, and apply the writes due at it. -/
def State.enterStage (s : State) (d n : Nat) : State :=
  let s := s.put d SYS_BOOT_stage n
  let r := s.applyWrites (decide (n < 6)) (s.boot.writes.filter (fun w => w.die == d && w.stage == n))
  if s.boot.writes.all (fun w => decide (w.die < s.nDies)) && r.2 then r.1 else r.1.bootFail d 0x0909

/-- The writes held back are applied in list order. -/
def State.applyHeld (s : State) (d : Nat) : State :=
  let b := s.bootDie d
  let r := (s.setBootDie d { b with held := [] }).applyWrites false b.held
  if r.2 then r.1 else r.1.bootFail d 0x0909

/-! ### Stages (R348) -/

/-- The die is not held in reset. -/
def State.inStart (s : State) (d : Nat) : Bool := !s.pkg.fenced.contains d

/-- LOADED: the main firmware runs; the failed start before this one is reported. -/
def State.enterLoaded (s : State) (d : Nat) : State :=
  match smGet s.boot.images (s.bootDie d).bank with
  | none => s.bootFail d 0x0902
  | some i =>
    let measured := bit (s.get d LOCK_MARK_LOCK_lock) 1
    if !measured && (!i.mainOk || !s.imageOk d i) then s.bootFail d 0x0902
    else
      let s := if measured then s else s.measure1 d i
      let s := s.putB d LOCK_STAT_ready true
      let b := s.boot
      let s : State := match b.report with
        | some (reason, n) =>
          if d = s.bootSource ∧ (s.bootDie d).alone = false then
            (s.raise d 5 (arg 0 reason + arg 4 n)).setBoot { b with report := none }
          else s
        | none => s
      s.enterStage d 2

/-- MEMORY: M2 and M3 are measured, the derived slots made, the storage blobs opened, the RF calibrated. -/
def State.enterMemory (s : State) (d : Nat) : State :=
  let b := s.boot
  let s := ((s.extend d 2 (sha256 b.config)).extend d 3 b.provision)
  let s := ((s.lockMark d 2).lockMark d 3).deriveFixed d
  let s := (s.pkg.blobs.filter (fun e => e.1 / 512 == d)).foldl (fun s e => s.loadBlob d (e.1 % 512)) s
  let s := s.enterStage d 3
  if s.stage d ≠ 3 then s
  else if s.isF d then
    let s := s.raise d 4
    let s := after s (execRxCalStart d false s)
    let s := after s (execRxCalStart d true s)
    (s.setCal d 2 { s.cal d 2 with fgSince := some s.now }).femRefresh d
  else if s.flag d MIRR_FW_PROG_running ∧ (s.slot d 1).isNone = true then
    let s := (s.put d MIRR_FW_PROG_step 4).put d MIRR_FW_PROG_error 0x09
    match s.longOp d 0x53 with
    | some o => let o := { o with pos := 4, countA := 0x0809 }; (s.setLong o).progress o 0
    | none => s
  else s

/-- The die's role as it comes Online after a restart of its own (R259, R264, R265). -/
def State.returnRole (s : State) (d : Nat) : State :=
  if !(s.bootDie d).alone then s
  else
    let s := s.setBootDie d { s.bootDie d with alone := false }
    let p := partnerOf d
    if s.inPair d = false then s.put d MIRR_STAT_role 0
    else if s.role p = 1 then
      s.resyncStart d
    else
      let s := ((s.put d MIRR_STAT_role 1).putPair d 2).raise d 128
      if s.role p = 3 ∧ s.inStart p = true then s.resyncStart p else s

/-- ONLINE of an L-die (R348, R349): the writes held back, the journal consumed, the role, L-004. -/
def State.goOnline (s : State) (d : Nat) : State :=
  let s := s.enterStage d 6
  if s.stage d ≠ 6 then s
  else
    let s := s.raise d 4
    let s := s.consumeSaves d
    let s := (s.returnRole d).applyHeld d
    if s.stage d ≠ 6 then s
    else ((if s.serving d then s.ttRepublish d else s).publishPart).startCheck

/-- BOOT_STAGE_ADVANCE: a die has done a stage's work; `ok`: its DRAM trains. -/
def execBootStageAdvance (d : Nat) (ok : Bool) (s : State) : Res :=
  onDie s d <|
    let st := s.stage d
    let alone := (s.bootDie d).alone
    if st = 1 then (if (s.bootDie d).imageIn then s.enterLoaded d else s)
    else if st = 2 then
      (if !alone && s.dies.any (fun e => s.inStart e && decide (s.stage e < 2)) then s
       else if !ok then s.bootFail d 0x0904
       else s.enterMemory d)
    else if st = 3 then
      (if s.isL d then
        (if s.flag d MIRR_FW_PROG_running && (s.slot d 1).isNone then s
         else
           let s := if s.flag d MIRR_FW_PROG_running then (s.put d MIRR_FW_PROG_step 5).put d MIRR_FW_PROG_error 0 else s
           s.enterStage d 4)
       else if s.lDies.all (fun e => !s.inStart e || decide (6 ≤ s.stage e)) then
         (let s := (s.enterStage d 6).applyHeld d
          if s.stage d = 6 then s.setBootDie d { s.bootDie d with alone := false } else s)
       else s)
    else if st = 5 ∧ s.rcStage = 6 then s.goOnline d
    else s

/-- STAGE_BOUND_EXPIRY (R348): Loaded within 600 ms and Memory within 800 ms of the release. -/
def execStageBoundExpiry (d : Nat) (s : State) : Res :=
  onDie s d <|
    let t := (s.bootDie d).since
    let st := s.stage d
    if s.boot.remedial ≠ 0 ∧ (s.bootDie d).alone = false then s
    else if (st = 1 ∧ s.due (t + 600 * Config.tMs) = true) ∨ (st = 2 ∧ s.due (t + 800 * Config.tMs) = true) then s.bootFail d 0x0906
    else s

/-- RESTORING_COMPLETE (R349): `layoutOk`: a copy of the layout record can be read and the NAND meets R228. -/
def execRestoringComplete (d : Nat) (layoutOk : Bool) (s : State) : Res :=
  onL s d <|
    if s.stage d ≠ 4 then s
    else if !layoutOk || (s.arc d).layout.isNone then s.bootFail d 0x0908
    else
      let s := (s.restore d).enterStage d 5
      if s.stage d ≠ 5 then s
      else
        let s := (s.setBootDie d { s.bootDie d with joinAt := s.now }).decideRoles d
        if s.allRestored then
          let s := s.lDies.foldl (fun s e => if s.flag e EUF_CTRL_enable then s.eufTrain e else s) s
          if s.rcStage = 0 then s.rollCall else s
        else s

/-- JOINING_TIMEOUT (R351): no fabric for 60 s: Online alone. -/
def execJoiningTimeout (d : Nat) (s : State) : Res :=
  onL s d <|
    if s.stage d = 5 ∧ s.due ((s.bootDie d).joinAt + 60 * Config.tS) = true ∧ s.rcStage ≠ 6 then
      let s := s.goOnline d
      if s.stage d = 6 then s.raise d 9 else s
    else s

/-- START_UP_RECOVERY_COMPLETE (R350): what recovery does, at its end; full-stripe parity then ends unless the host asks for it. -/
def execStartUpRecoveryComplete (d : Nat) (s : State) : Res :=
  onDie s d <|
    if s.stage d ≠ 6 then s
    else if s.isF d then s.put d SYS_BOOT_stage 7
    else
      let s := (s.recovery d).putB d ARC_STAT_parity_full (s.flag d ARC_CTRL_full_stripe)
      (s.put d SYS_BOOT_stage 7).raise d 7

/-- RESET_N_ASSERTED (R352, R360): every die is reset; a start still in progress has failed. -/
def execResetNAsserted (s : State) : Res :=
  onAll s (if s.boot.current.isSome then s.failStart 0x0906 0xFF else s.resetAll)

/-! ### Opcodes 0x70 to 0x76 (R354) -/

def StartEnt.bytes (e : StartEnt) : Bytes :=
  leBytes 4 e.seq ++ leBytes 4 e.clock ++ leBytes 1 e.result ++ leBytes 1 e.stage ++ leBytes 1 e.reason ++ leBytes 1 e.bank
    ++ leBytes 4 e.version ++ leBytes 8 e.time ++ leBytes 1 e.die ++ fillBytes 7 0

/-- READ_START_LOG, opcode 0x70. -/
def execReadStartLog (d : Nat) (s : State) : Res :=
  onDie s d <| s.withCmd d 0x70 fun s c =>
    let l := s.boot.log
    let b := l.flatMap StartEnt.bytes ++ fillBytes (32 * (16 - l.length)) 0
    (s.toHost c.port (c.op 16 8) b).complete c.id 0 (leBytes 1 (s.get d SYS_BOOT_reason) ++ leBytes 1 l.length)

/-- A long operation of a die that ends with its start: both its entries are written at its completion. -/
def State.longAtOnce (s : State) (o : LongOp) (status : Nat) : State :=
  (s.startLong o).setLong { o with percent := 100, done := some status }

/-- LOAD_RECOVERY_IMAGE, opcode 0x71: `img` is the image the host's buffer holds. -/
def execLoadRecoveryImage (d : Nat) (img : Image) (s : State) : Res :=
  onDie s d <| s.withCmd d 0x71 fun s c =>
    if (s.longOp d 0x71).isSome then s
    else if c.op 24 4 = 0 ∨ 16 * 2 ^ 20 < c.op 24 4 then s.complete c.id 0x0103
    else if !s.imageOk d img || !img.mainOk then s.complete c.id 0x090C
    else
      let b := s.boot
      let s := s.setBoot { b with images := smPut b.images 2 img, trial := some 2 }
      s.longAtOnce { cmd := c.id, die := d, opcode := 0x71, countA := img.version } 0

/-- The bank that a restart command's operand names: 0 preferred, 1 A, 2 B, 3 recovery. -/
def Boot.bankOf (b : Boot) (n : Nat) : Nat := if n = 0 then b.preferred else n - 1

/-- The save of R335 before a restart: every die that runs warns, and the L-dies write their journals, those too that had begun. -/
def State.saveAll (s : State) : State :=
  s.dies.foldl (fun s e =>
    let s := if s.powered e && !s.flag e PWR_STAT_bo_warn then s.warn e else s
    if s.saving e then s.commitSave e else s) s

/-- Every completion that waits is written to its ring before the reset, as far as the ring has room. -/
def State.writeOut (s : State) (g : Nat) : Nat → State
  | 0 => s
  | k + 1 => (after s (execCompletionWrite g s)).writeOut g k

/-- RESTART, opcode 0x72. -/
def execRestart (d : Nat) (s : State) : Res :=
  onDie s d <| s.withCmd d 0x72 fun s c =>
    let n := c.op 16 1
    let bank := s.boot.bankOf n
    let svn := match smGet s.boot.images bank with
      | some i => i.svn
      | none => 0
    if 3 < n then s.complete c.id 0x0103
    else if svn < (s.lock d).fuses.svn then s.complete c.id 0x0902
    else
      let s := if s.stage d = 15 then s else s.saveAll
      let s := s.complete c.id 0
      let s := s.writeOut c.group (s.grp c.group).waiting.length
      let s := s.setBoot { s.boot with named := if n = 0 then none else some bank }
      s.resetAll

/-- CLEAR_FAILED_STARTS, opcode 0x73. -/
def execClearFailedStarts (d : Nat) (s : State) : Res :=
  onDie s d <| s.withCmd d 0x73 fun s c =>
    let b := s.boot
    if s.dies.any (fun e => s.flag e LOCK_STAT_fuse_error || (s.lock e).lc == 3) then s.complete c.id 0x0903
    else
      let s := s.setBoot { b with remedial := 0, fails := [], rejected := 0 }
      let s := s.dies.foldl (fun s e => s.putB e SYS_BOOT_remedial false) s
      s.complete c.id 0 (leBytes 1 b.fails.length)

/-- RUN_DIAGNOSTIC, opcode 0x74: `corrected` and `failed` are what the named test finds; `upOk`: the power domains of the die
come up. -/
def execRunDiagnostic (d corrected : Nat) (failed upOk : Bool) (s : State) : Res :=
  onDie s d <| s.withCmd d 0x74 fun s c =>
    let id := c.op 16 1
    if (s.longOp d 0x74).isSome then s
    else if !testOf (s.isL d) id then s.complete c.id 0x0103
    else if s.boot.remedial ≠ 0 ∧ upOk = false then s.complete c.id 0x0903
    else
      let s := s.testCount d id corrected failed
      let t := smGetD (s.com1 d).tests (0, 0, 0) id
      s.longAtOnce { cmd := c.id, die := d, opcode := 0x74, countA := t.1, countB := t.2.1 + 65536 * t.2.2 } 0

/-- WRITE_CONFIG, opcode 0x75: `blob` is the host's buffer, `writes` the register writes it lists, `crcOk` its CRC. -/
def execWriteConfig (d : Nat) (blob : Bytes) (writes : List CfgWrite) (crcOk : Bool) (s : State) : Res :=
  onDie s d <| s.withCmd d 0x75 fun s c =>
    if (s.longOp d 0x75).isSome then s
    else if 512 * 1024 < c.op 24 4 then s.complete c.id 0x0103
    else if !crcOk || !s.blobOk writes then s.complete c.id 0x0909
    else
      let b := slice blob 0 (c.op 24 4)
      let s := s.setBoot { s.boot with config := b, writes := writes }
      s.longAtOnce { cmd := c.id, die := d, opcode := 0x75, countA := ieee32 b } 0

/-- READ_CONFIG, opcode 0x76. -/
def execReadConfig (d : Nat) (s : State) : Res :=
  onDie s d <| s.withCmd d 0x76 fun s c =>
    let n := min (c.op 24 4) s.boot.config.length
    (s.toHost c.port (c.op 16 8) (s.boot.config.take n)).complete c.id 0 (leBytes 4 n)

end Sys2Proof.Machine
end

