-- ==== Sys2Proof/Machine/Dispatch.lean ====
section
/-! DEFINITION. One arm per command: the meaning it calls. -/

namespace Sys2Proof.Machine

def exec (i : Instr) (s : State) : Host.Outcome State Fault Refusal :=
  match i with
  | .registerWrite bar addr v => Sys2Proof.Machine.execRegisterWrite bar addr v s
  | .narrowOrUnalignedWrite a => Sys2Proof.Machine.execNarrowOrUnalignedWrite a s
  | .narrowOrUnalignedRead a => Sys2Proof.Machine.execNarrowOrUnalignedRead a s
  | .unmappedWrite addr => Sys2Proof.Machine.execUnmappedWrite addr s
  | .counterClear d b => Sys2Proof.Machine.execCounterClear d b s
  | .syncDetected d n mode fec rssi freq noise pre => Sys2Proof.Machine.execSyncDetected d n mode fec rssi freq noise pre s
  | .addressFieldComplete d c psduLen modeSwitch b => Sys2Proof.Machine.execAddressFieldComplete d c psduLen modeSwitch b s
  | .syncLost d c => Sys2Proof.Machine.execSyncLost d c s
  | .dataRunClose d c b => Sys2Proof.Machine.execDataRunClose d c b s
  | .lastBit d c b rssiMean fecCorrected => Sys2Proof.Machine.execLastBit d c b rssiMean fecCorrected s
  | .headerMessage d => Sys2Proof.Machine.execHeaderMessage d s
  | .dataMessage d => Sys2Proof.Machine.execDataMessage d s
  | .rewriteMessage d => Sys2Proof.Machine.execRewriteMessage d s
  | .prefetchComplete d => Sys2Proof.Machine.execPrefetchComplete d s
  | .trailerMessage d => Sys2Proof.Machine.execTrailerMessage d s
  | .abortMessage d => Sys2Proof.Machine.execAbortMessage d s
  | .verdictWaitTimeout d => Sys2Proof.Machine.execVerdictWaitTimeout d s
  | .verdictMessage d => Sys2Proof.Machine.execVerdictMessage d s
  | .releaseMessage d => Sys2Proof.Machine.execReleaseMessage d s
  | .holdTimeout d h => Sys2Proof.Machine.execHoldTimeout d h s
  | .holdNoOwnerTimeout d => Sys2Proof.Machine.execHoldNoOwnerTimeout d s
  | .partitionTablePublish d => Sys2Proof.Machine.execPartitionTablePublish d s
  | .timetableParametersPublish d => Sys2Proof.Machine.execTimetableParametersPublish d s
  | .mirrorMessage d => Sys2Proof.Machine.execMirrorMessage d s
  | .mirrorConfirm d => Sys2Proof.Machine.execMirrorConfirm d s
  | .mirrorConfirmTimeout d => Sys2Proof.Machine.execMirrorConfirmTimeout d s
  | .headEndFrameArrival d bytes => Sys2Proof.Machine.execHeadEndFrameArrival d bytes s
  | .decisionSlotGrant d g e => Sys2Proof.Machine.execDecisionSlotGrant d g e s
  | .rxPathEnable d pathB on => Sys2Proof.Machine.execRxPathEnable d pathB on s
  | .lnaAutoSwitch d pathB power => Sys2Proof.Machine.execLnaAutoSwitch d pathB power s
  | .overload d pathB power => Sys2Proof.Machine.execOverload d pathB power s
  | .txHandover d => Sys2Proof.Machine.execTxHandover d s
  | .dcBucketRoll d => Sys2Proof.Machine.execDcBucketRoll d s
  | .femSettlingStart d locked => Sys2Proof.Machine.execFemSettlingStart d locked s
  | .rampUpStart d => Sys2Proof.Machine.execRampUpStart d s
  | .txPowerCheck d measured => Sys2Proof.Machine.execTxPowerCheck d measured s
  | .rampDownEnd d => Sys2Proof.Machine.execRampDownEnd d s
  | .synthUnlock d p => Sys2Proof.Machine.execSynthUnlock d p s
  | .txPathDisable d => Sys2Proof.Machine.execTxPathDisable d s
  | .rftDcLock d => Sys2Proof.Machine.execRftDcLock d s
  | .slotEnable d n => Sys2Proof.Machine.execSlotEnable d n s
  | .slotDisable d n => Sys2Proof.Machine.execSlotDisable d n s
  | .unpickStart d weak strong slot level => Sys2Proof.Machine.execUnpickStart d weak strong slot level s
  | .unpickComplete d weak psduLen modeSwitch b rssiMean fecCorrected => Sys2Proof.Machine.execUnpickComplete d weak psduLen modeSwitch b rssiMean fecCorrected s
  | .rxCalStart d pathB => Sys2Proof.Machine.execRxCalStart d pathB s
  | .calComplete d p ok => Sys2Proof.Machine.execCalComplete d p ok s
  | .gainCalStart d pathB => Sys2Proof.Machine.execGainCalStart d pathB s
  | .gainCalTrigger d pathB cause => Sys2Proof.Machine.execGainCalTrigger d pathB cause s
  | .gainCalComplete d pathB ok => Sys2Proof.Machine.execGainCalComplete d pathB ok s
  | .ttEnable d n follow => Sys2Proof.Machine.execTtEnable d n follow s
  | .ttDisable d n => Sys2Proof.Machine.execTtDisable d n s
  | .superframeStart d n => Sys2Proof.Machine.execSuperframeStart d n s
  | .dataSlotEnd d f n k slotNo => Sys2Proof.Machine.execDataSlotEnd d f n k slotNo s
  | .ackDue d => Sys2Proof.Machine.execAckDue d s
  | .downlinkFollowSend d => Sys2Proof.Machine.execDownlinkFollowSend d s
  | .wmbResponseDue d => Sys2Proof.Machine.execWmbResponseDue d s
  | .campStart d => Sys2Proof.Machine.execCampStart d s
  | .campAbort d => Sys2Proof.Machine.execCampAbort d s
  | .broadcastBlock d n => Sys2Proof.Machine.execBroadcastBlock d n s
  | .plcEnable d => Sys2Proof.Machine.execPlcEnable d s
  | .plcDisable d => Sys2Proof.Machine.execPlcDisable d s
  | .plcPreambleDetect d rssi => Sys2Proof.Machine.execPlcPreambleDetect d rssi s
  | .plcFrameDecoded d n dt b pdc modulation endAt m => Sys2Proof.Machine.execPlcFrameDecoded d n dt b pdc modulation endAt m s
  | .plcAckSend d => Sys2Proof.Machine.execPlcAckSend d s
  | .plcBackoffEnd d idle reserved => Sys2Proof.Machine.execPlcBackoffEnd d idle reserved s
  | .plcAckWaitTimeout d => Sys2Proof.Machine.execPlcAckWaitTimeout d s
  | .toneMapExpiry d => Sys2Proof.Machine.execToneMapExpiry d s
  | .shortAddrHighWrite d a hi => Sys2Proof.Machine.execShortAddrHighWrite d a hi s
  | .zcEdge d => Sys2Proof.Machine.execZcEdge d s
  | .zcLoss d => Sys2Proof.Machine.execZcLoss d s
  | .lockZeroise d => Sys2Proof.Machine.execLockZeroise d s
  | .integrityFault d => Sys2Proof.Machine.execIntegrityFault d s
  | .markExtend d m => Sys2Proof.Machine.execMarkExtend d m s
  | .markLock d mask => Sys2Proof.Machine.execMarkLock d mask s
  | .secEnable d => Sys2Proof.Machine.execSecEnable d s
  | .cacheFlush d => Sys2Proof.Machine.execCacheFlush d s
  | .retireHoldExpiry d => Sys2Proof.Machine.execRetireHoldExpiry d s
  | .stagedKeyStale d => Sys2Proof.Machine.execStagedKeyStale d s
  | .ledgerApply d => Sys2Proof.Machine.execLedgerApply d s
  | .deviceTimeStep d back ticks => Sys2Proof.Machine.execDeviceTimeStep d back ticks s
  | .slewComplete d => Sys2Proof.Machine.execSlewComplete d s
  | .holdAutoEnd d => Sys2Proof.Machine.execHoldAutoEnd d s
  | .holdRelease d => Sys2Proof.Machine.execHoldRelease d s
  | .boundarySweep d => Sys2Proof.Machine.execBoundarySweep d s
  | .sweepComplete d => Sys2Proof.Machine.execSweepComplete d s
  | .timeQualityChange d => Sys2Proof.Machine.execTimeQualityChange d s
  | .rrAbort d => Sys2Proof.Machine.execRrAbort d s
  | .contributionMessage d => Sys2Proof.Machine.execContributionMessage d s
  | .groupEvaluation d g => Sys2Proof.Machine.execGroupEvaluation d g s
  | .correlationResponse d => Sys2Proof.Machine.execCorrelationResponse d s
  | .correlationTimeout d => Sys2Proof.Machine.execCorrelationTimeout d s
  | .balanceItemOffer d => Sys2Proof.Machine.execBalanceItemOffer d s
  | .balanceDisable d => Sys2Proof.Machine.execBalanceDisable d s
  | .remoteLedgerRequest d => Sys2Proof.Machine.execRemoteLedgerRequest d s
  | .remoteLedgerResponse d => Sys2Proof.Machine.execRemoteLedgerResponse d s
  | .memberWriteTimeout d => Sys2Proof.Machine.execMemberWriteTimeout d s
  | .detachRetry d => Sys2Proof.Machine.execDetachRetry d s
  | .packetCommit d c => Sys2Proof.Machine.execPacketCommit d c s
  | .queueSpill d c => Sys2Proof.Machine.execQueueSpill d c s
  | .queueRefill d c => Sys2Proof.Machine.execQueueRefill d c s
  | .itemDelivery d c => Sys2Proof.Machine.execItemDelivery d c s
  | .ringFullnessReport d c => Sys2Proof.Machine.execRingFullnessReport d c s
  | .holdLimitExceeded d c => Sys2Proof.Machine.execHoldLimitExceeded d c s
  | .windowBucketRoll d => Sys2Proof.Machine.execWindowBucketRoll d s
  | .queueEnable d c => Sys2Proof.Machine.execQueueEnable d c s
  | .queueDisable d c => Sys2Proof.Machine.execQueueDisable d c s
  | .queueFlush d c => Sys2Proof.Machine.execQueueFlush d c s
  | .deliverPositionMirror d => Sys2Proof.Machine.execDeliverPositionMirror d s
  | .sqTailDoorbell p g v => Sys2Proof.Machine.execSqTailDoorbell p g v s
  | .cqHeadDoorbell p g v => Sys2Proof.Machine.execCqHeadDoorbell p g v s
  | .sqEntryFetch g e => Sys2Proof.Machine.execSqEntryFetch g e s
  | .hostMemoryAccessFail kind g id => Sys2Proof.Machine.execHostMemoryAccessFail kind g id s
  | .completionWrite g => Sys2Proof.Machine.execCompletionWrite g s
  | .msiXSignal g => Sys2Proof.Machine.execMsiXSignal g s
  | .sqDisable g => Sys2Proof.Machine.execSqDisable g s
  | .cqDisable g => Sys2Proof.Machine.execCqDisable g s
  | .ringEnable g sq => Sys2Proof.Machine.execRingEnable g sq s
  | .hifPortWrite v => Sys2Proof.Machine.execHifPortWrite v s
  | .portLinkDown p => Sys2Proof.Machine.execPortLinkDown p s
  | .portLinkUp p speed width => Sys2Proof.Machine.execPortLinkUp p speed width s
  | .failback => Sys2Proof.Machine.execFailback s
  | .downlinkExpiry d => Sys2Proof.Machine.execDownlinkExpiry d s
  | .downlinkAtTime d => Sys2Proof.Machine.execDownlinkAtTime d s
  | .longOperationComplete d op => Sys2Proof.Machine.execLongOperationComplete d op s
  | .longOperationProgress d op => Sys2Proof.Machine.execLongOperationProgress d op s
  | .readRecord d => Sys2Proof.Machine.execReadRecord d s
  | .provisionRecord d image => Sys2Proof.Machine.execProvisionRecord d image s
  | .setRecordState d => Sys2Proof.Machine.execSetRecordState d s
  | .loadProgram d src => Sys2Proof.Machine.execLoadProgram d src s
  | .setProgram d => Sys2Proof.Machine.execSetProgram d s
  | .closePeriod d => Sys2Proof.Machine.execClosePeriod d s
  | .topUp d => Sys2Proof.Machine.execTopUp d s
  | .acceptEmergencyCredit d => Sys2Proof.Machine.execAcceptEmergencyCredit d s
  | .disconnect d => Sys2Proof.Machine.execDisconnect d s
  | .reconnect d => Sys2Proof.Machine.execReconnect d s
  | .rerate d => Sys2Proof.Machine.execRerate d s
  | .readDiscontinuityLog d => Sys2Proof.Machine.execReadDiscontinuityLog d s
  | .readDeferralStatistics d => Sys2Proof.Machine.execReadDeferralStatistics d s
  | .abortOperation d => Sys2Proof.Machine.execAbortOperation d s
  | .assignSlot d => Sys2Proof.Machine.execAssignSlot d s
  | .releaseSlot d => Sys2Proof.Machine.execReleaseSlot d s
  | .grantHallPass d => Sys2Proof.Machine.execGrantHallPass d s
  | .revokeHallPass d => Sys2Proof.Machine.execRevokeHallPass d s
  | .importKey d pkg => Sys2Proof.Machine.execImportKey d pkg s
  | .importMeterKey d pkg => Sys2Proof.Machine.execImportMeterKey d pkg s
  | .exportKey d => Sys2Proof.Machine.execExportKey d s
  | .deriveKey d src => Sys2Proof.Machine.execDeriveKey d src s
  | .generateKey d => Sys2Proof.Machine.execGenerateKey d s
  | .clearSlot d => Sys2Proof.Machine.execClearSlot d s
  | .attest d nonce => Sys2Proof.Machine.execAttest d nonce s
  | .rotate d => Sys2Proof.Machine.execRotate d s
  | .cancelStage d => Sys2Proof.Machine.execCancelStage d s
  | .lifecycleAdvance d hash fuseOk => Sys2Proof.Machine.execLifecycleAdvance d hash fuseOk s
  | .readUnknownSummary d => Sys2Proof.Machine.execReadUnknownSummary d s
  | .defineGroup d => Sys2Proof.Machine.execDefineGroup d s
  | .deleteGroup d => Sys2Proof.Machine.execDeleteGroup d s
  | .addMember d => Sys2Proof.Machine.execAddMember d s
  | .removeMember d => Sys2Proof.Machine.execRemoveMember d s
  | .setHead d => Sys2Proof.Machine.execSetHead d s
  | .readGroup d => Sys2Proof.Machine.execReadGroup d s
  | .resetStatistics d => Sys2Proof.Machine.execResetStatistics d s
  | .readArchive d => Sys2Proof.Machine.execReadArchive d s
  | .readHealth d => Sys2Proof.Machine.execReadHealth d s
  | .hostRead d => Sys2Proof.Machine.execHostRead d s
  | .hostWrite d data => Sys2Proof.Machine.execHostWrite d data s
  | .hostTrim d => Sys2Proof.Machine.execHostTrim d s
  | .patrolPass d => Sys2Proof.Machine.execPatrolPass d s
  | .format d => Sys2Proof.Machine.execFormat d s
  | .switchover d => Sys2Proof.Machine.execSwitchover d s
  | .resync d => Sys2Proof.Machine.execResync d s
  | .stageFirmware d img => Sys2Proof.Machine.execStageFirmware d img s
  | .updateDie d => Sys2Proof.Machine.execUpdateDie d s
  | .readReportCard d => Sys2Proof.Machine.execReadReportCard d s
  | .release d => Sys2Proof.Machine.execRelease d s
  | .readFabric d => Sys2Proof.Machine.execReadFabric d s
  | .setPartition d runs remote others => Sys2Proof.Machine.execSetPartition d runs remote others s
  | .readPartition d => Sys2Proof.Machine.execReadPartition d s
  | .setPackageNumber d => Sys2Proof.Machine.execSetPackageNumber d s
  | .readStartLog d => Sys2Proof.Machine.execReadStartLog d s
  | .loadRecoveryImage d img => Sys2Proof.Machine.execLoadRecoveryImage d img s
  | .restart d => Sys2Proof.Machine.execRestart d s
  | .clearFailedStarts d => Sys2Proof.Machine.execClearFailedStarts d s
  | .runDiagnostic d corrected failed upOk => Sys2Proof.Machine.execRunDiagnostic d corrected failed upOk s
  | .writeConfig d blob writes crcOk => Sys2Proof.Machine.execWriteConfig d blob writes crcOk s
  | .readConfig d => Sys2Proof.Machine.execReadConfig d s
  | .downlink d frame => Sys2Proof.Machine.execDownlink d frame s
  | .headEndFrame d => Sys2Proof.Machine.execHeadEndFrame d s
  | .arcEnable d luns bpl sectors planes slc gib pe ok => Sys2Proof.Machine.execArcEnable d luns bpl sectors planes slc gib pe ok s
  | .arcDisable d => Sys2Proof.Machine.execArcDisable d s
  | .openPageProgram d => Sys2Proof.Machine.execOpenPageProgram d s
  | .nandProgramStatus d ok => Sys2Proof.Machine.execNandProgramStatus d ok s
  | .nandEraseStatus d b ok => Sys2Proof.Machine.execNandEraseStatus d b ok s
  | .sectorDecodeFail d key retryOk rowOk => Sys2Proof.Machine.execSectorDecodeFail d key retryOk rowOk s
  | .garbageCollection d => Sys2Proof.Machine.execGarbageCollection d s
  | .copyVerified d bits => Sys2Proof.Machine.execCopyVerified d bits s
  | .patrolRead d bits => Sys2Proof.Machine.execPatrolRead d bits s
  | .wearLevelCheck d => Sys2Proof.Machine.execWearLevelCheck d s
  | .governorRun d => Sys2Proof.Machine.execGovernorRun d s
  | .checkpointPass d => Sys2Proof.Machine.execCheckpointPass d s
  | .journalBlockErase d bad => Sys2Proof.Machine.execJournalBlockErase d bad s
  | .archiveTrim d => Sys2Proof.Machine.execArchiveTrim d s
  | .mapWriteBack d => Sys2Proof.Machine.execMapWriteBack d s
  | .heartbeatMessage d => Sys2Proof.Machine.execHeartbeatMessage d s
  | .pathSilence d wire => Sys2Proof.Machine.execPathSilence d wire s
  | .pathRestored d wire => Sys2Proof.Machine.execPathRestored d wire s
  | .ownFatalFault d => Sys2Proof.Machine.execOwnFatalFault d s
  | .fenceConfirmed d => Sys2Proof.Machine.execFenceConfirmed d s
  | .fencedDieRestart d => Sys2Proof.Machine.execFencedDieRestart d s
  | .resyncComplete d => Sys2Proof.Machine.execResyncComplete d s
  | .arcCatchupComplete d => Sys2Proof.Machine.execArcCatchupComplete d s
  | .fdieLost d f => Sys2Proof.Machine.execFdieLost d f s
  | .invigilatorTest d id corrected failed => Sys2Proof.Machine.execInvigilatorTest d id corrected failed s
  | .linkTrainingComplete d lanes far => Sys2Proof.Machine.execLinkTrainingComplete d lanes far s
  | .linkRetrain d => Sys2Proof.Machine.execLinkRetrain d s
  | .linkDown d => Sys2Proof.Machine.execLinkDown d s
  | .flitReceived d seq crcOk ackTo nack m => Sys2Proof.Machine.execFlitReceived d seq crcOk ackTo nack m s
  | .fabricMessage d => Sys2Proof.Machine.execFabricMessage d s
  | .flowDelivery d => Sys2Proof.Machine.execFlowDelivery d s
  | .ackOnlyTimer d cls src => Sys2Proof.Machine.execAckOnlyTimer d cls src s
  | .retransmitTimeout d cls dst => Sys2Proof.Machine.execRetransmitTimeout d cls dst s
  | .unreachTimeout d cls dst => Sys2Proof.Machine.execUnreachTimeout d cls dst s
  | .candidacy d => Sys2Proof.Machine.execCandidacy d s
  | .electionQuiet d => Sys2Proof.Machine.execElectionQuiet d s
  | .claim d => Sys2Proof.Machine.execClaim d s
  | .linkStateRecord d => Sys2Proof.Machine.execLinkStateRecord d s
  | .partitionPublication d => Sys2Proof.Machine.execPartitionPublication d s
  | .ledgerOnlineReport d => Sys2Proof.Machine.execLedgerOnlineReport d s
  | .eufPortDisable d => Sys2Proof.Machine.execEufPortDisable d s
  | .ethFrameReceived d b ts fits => Sys2Proof.Machine.execEthFrameReceived d b ts fits s
  | .pauseExpiry d => Sys2Proof.Machine.execPauseExpiry d s
  | .pauseWatchdog d => Sys2Proof.Machine.execPauseWatchdog d s
  | .collision d => Sys2Proof.Machine.execCollision d s
  | .backoffEnd d => Sys2Proof.Machine.execBackoffEnd d s
  | .delayReqTimer d => Sys2Proof.Machine.execDelayReqTimer d s
  | .syncTimeout d => Sys2Proof.Machine.execSyncTimeout d s
  | .directAlarmActivate d => Sys2Proof.Machine.execDirectAlarmActivate d s
  | .directAlarmSend d => Sys2Proof.Machine.execDirectAlarmSend d s
  | .alarmCopyTimer d => Sys2Proof.Machine.execAlarmCopyTimer d s
  | .alarmEnable d => Sys2Proof.Machine.execAlarmEnable d s
  | .ethDisable d => Sys2Proof.Machine.execEthDisable d s
  | .ethLinkChange d up speed full => Sys2Proof.Machine.execEthLinkChange d up speed full s
  | .mdioAccess d v => Sys2Proof.Machine.execMdioAccess d v s
  | .slateEnable d => Sys2Proof.Machine.execSlateEnable d s
  | .slateDisable d => Sys2Proof.Machine.execSlateDisable d s
  | .pumpSettled d => Sys2Proof.Machine.execPumpSettled d s
  | .pumpDischarged d => Sys2Proof.Machine.execPumpDischarged d s
  | .slateUpdate d => Sys2Proof.Machine.execSlateUpdate d s
  | .wfCheck d => Sys2Proof.Machine.execWfCheck d s
  | .tempSample d => Sys2Proof.Machine.execTempSample d s
  | .phaseBoundary d => Sys2Proof.Machine.execPhaseBoundary d s
  | .restTimer d => Sys2Proof.Machine.execRestTimer d s
  | .domainEnable d v => Sys2Proof.Machine.execDomainEnable d v s
  | .recessGo d => Sys2Proof.Machine.execRecessGo d s
  | .wake d src => Sys2Proof.Machine.execWake d src s
  | .timingMessage d => Sys2Proof.Machine.execTimingMessage d s
  | .setGo d => Sys2Proof.Machine.execSetGo d s
  | .ptpMeasurement d => Sys2Proof.Machine.execPtpMeasurement d s
  | .ppsInEdge d rising => Sys2Proof.Machine.execPpsInEdge d rising s
  | .holdoverEntry d => Sys2Proof.Machine.execHoldoverEntry d s
  | .holdoverExpiry d => Sys2Proof.Machine.execHoldoverExpiry d s
  | .ppsOutEdge d => Sys2Proof.Machine.execPpsOutEdge d s
  | .ppsInLoss d => Sys2Proof.Machine.execPpsInLoss d s
  | .zcComparison d uhz => Sys2Proof.Machine.execZcComparison d uhz s
  | .brownoutWarning mv => Sys2Proof.Machine.execBrownoutWarning mv s
  | .saveCommit d => Sys2Proof.Machine.execSaveCommit d s
  | .supplyRecovery mv => Sys2Proof.Machine.execSupplyRecovery mv s
  | .vmonReset mv => Sys2Proof.Machine.execVmonReset mv s
  | .thermalSample d tj sensor => Sys2Proof.Machine.execThermalSample d tj sensor s
  | .pllUnlock d k => Sys2Proof.Machine.execPllUnlock d k s
  | .clkRefLoss => Sys2Proof.Machine.execClkRefLoss s
  | .clkRefRestored => Sys2Proof.Machine.execClkRefRestored s
  | .marginReplan d v => Sys2Proof.Machine.execMarginReplan d v s
  | .planNow d => Sys2Proof.Machine.execPlanNow d s
  | .slackDeficit d slack monitor => Sys2Proof.Machine.execSlackDeficit d slack monitor s
  | .avsCommandFail d => Sys2Proof.Machine.execAvsCommandFail d s
  | .avsEnable d => Sys2Proof.Machine.execAvsEnable d s
  | .resetRelease d powerOn fuseOk dramOk => Sys2Proof.Machine.execResetRelease d powerOn fuseOk dramOk s
  | .bootImageMessage d => Sys2Proof.Machine.execBootImageMessage d s
  | .bootAnswerTimeout d => Sys2Proof.Machine.execBootAnswerTimeout d s
  | .bootStageAdvance d ok => Sys2Proof.Machine.execBootStageAdvance d ok s
  | .stageBoundExpiry d => Sys2Proof.Machine.execStageBoundExpiry d s
  | .restoringComplete d layoutOk => Sys2Proof.Machine.execRestoringComplete d layoutOk s
  | .joiningTimeout d => Sys2Proof.Machine.execJoiningTimeout d s
  | .startUpRecoveryComplete d => Sys2Proof.Machine.execStartUpRecoveryComplete d s
  | .gpioEdge d n rising => Sys2Proof.Machine.execGpioEdge d n rising s
  | .eventRaiseMessage => Sys2Proof.Machine.execEventRaiseMessage s
  | .evtTest d n => Sys2Proof.Machine.execEvtTest d n s
  | .evtPendClear d w mask => Sys2Proof.Machine.execEvtPendClear d w mask s
  | .msiXUnmask p v => Sys2Proof.Machine.execMsiXUnmask p v s
  | .plcTxEnd d => Sys2Proof.Machine.execPlcTxEnd d s
  | .pauseIgnoreEnd d => Sys2Proof.Machine.execPauseIgnoreEnd d s
  | .framePairBoundary d => Sys2Proof.Machine.execFramePairBoundary d s
  | .resetNAsserted => Sys2Proof.Machine.execResetNAsserted s
  | .domainPowerUpComplete d => Sys2Proof.Machine.execDomainPowerUpComplete d s
  | .ledgerEnable d => Sys2Proof.Machine.execLedgerEnable d s
  | .ethEnable d => Sys2Proof.Machine.execEthEnable d s
  | .eufPortEnable d => Sys2Proof.Machine.execEufPortEnable d s

end Sys2Proof.Machine
end

