-- ==== Sys2Proof/Machine/Tick.lean ====
section
/-! DEFINITION. What happens by itself as time passes while no command waits: one tick of 10 ns (R13). -/

namespace Sys2Proof.Machine

/-- A port die that runs confirms the writes of completions to the other port die (R226). -/
def State.confirmWrites (s : State) : State :=
  { s with hif := { s.hif with groups := s.hif.groups.map (fun e =>
    if s.alive (s.groupPort e.1) then (e.1, { e.2 with unconf := [] }) else e) } }

/-- Everything a tick brings: the device clocks, event messages on their way, the hold times of the rings, the MACs. -/
def State.elapse (s : State) : State :=
  let s := s.dies.foldl (fun (s : State) d => s.clkTick d) s
  let s := s.evtDeliver.confirmWrites
  let s := (s.hif.groups.map (·.1)).foldl (fun (s : State) g => s.fullTrack g) s
  (s.dies.filter s.isPort).foldl (fun (s : State) d => s.ethPump d) s

/-- One tick of CLK_REF (R13). -/
def State.tick (s : State) : State := { s.settle s.elapse with now := s.now + 1 }

end Sys2Proof.Machine
end

