-- ==== Sys2Proof/WellFormed.lean ====
section
/-! DEFINITION. Which commands are well formed: their die, ring, class, port and register operands lie in the ranges the spec gives
them. A meaning does not depend on it: what a command outside them meets is said there. -/

namespace Sys2Proof

open Sys2Proof.Machine

/-- BAR2 and BAR4 are those of port A or B (R200). -/
def barOk : Bar → Bool
  | .regs => true
  | .doorbell p => decide (p < 2)
  | .msix p => decide (p < 2)

/-- The mode codes of the hand-off header (R50): SUN 0x01 to 0x04, wireless M-Bus 0x10 to 0x15. -/
def modeOk (m : Nat) : Bool := decide (1 ≤ m ∧ m ≤ 4) || decide (0x10 ≤ m ∧ m ≤ 0x15)

/-- Die indices 0 to 7 (R1, R2, R9); BAR0 addresses and 32-bit values (R6, R9); slots, timetables, classes, ring groups, vectors,
event sources, marks and pins as their blocks number them. -/
def Instr.wellFormed : Instr → Bool
  | .registerWrite bar addr v => barOk bar && decide (addr < 2 ^ 26) && decide (v < 2 ^ 32)
  | .narrowOrUnalignedWrite a | .narrowOrUnalignedRead a => barOk a.bar && decide (a.addr < 2 ^ 26)
  | .unmappedWrite addr => decide (addr < 2 ^ 26)
  | .counterClear d _ | .addressFieldComplete d _ _ _ _ | .syncLost d _ | .dataRunClose d _ _ | .lastBit d _ _ _ _
  | .headerMessage d | .dataMessage d | .rewriteMessage d | .prefetchComplete d | .trailerMessage d | .abortMessage d
  | .verdictWaitTimeout d | .verdictMessage d | .releaseMessage d | .holdTimeout d _ | .holdNoOwnerTimeout d
  | .partitionTablePublish d | .timetableParametersPublish d | .mirrorMessage d | .mirrorConfirm d
  | .mirrorConfirmTimeout d | .headEndFrameArrival d _ | .decisionSlotGrant d _ _ | .rxPathEnable d _ _
  | .lnaAutoSwitch d _ _ | .overload d _ _ | .txHandover d | .dcBucketRoll d | .femSettlingStart d _ | .rampUpStart d
  | .txPowerCheck d _ | .rampDownEnd d | .synthUnlock d _ | .txPathDisable d | .rftDcLock d
  | .unpickComplete d _ _ _ _ _ _ | .rxCalStart d _ | .gainCalStart d _ | .gainCalTrigger d _ _
  | .gainCalComplete d _ _ | .dataSlotEnd d _ _ _ _ | .ackDue d | .downlinkFollowSend d | .wmbResponseDue d
  | .campStart d | .campAbort d | .plcEnable d | .plcDisable d | .plcPreambleDetect d _
  | .plcFrameDecoded d _ _ _ _ _ _ _ | .plcAckSend d | .plcBackoffEnd d _ _ | .plcAckWaitTimeout d | .toneMapExpiry d
  | .shortAddrHighWrite d _ _ | .zcEdge d | .zcLoss d | .lockZeroise d | .integrityFault d | .secEnable d
  | .cacheFlush d | .retireHoldExpiry d | .stagedKeyStale d | .ledgerApply d | .deviceTimeStep d _ _ | .slewComplete d
  | .holdAutoEnd d | .holdRelease d | .boundarySweep d | .sweepComplete d | .timeQualityChange d | .rrAbort d
  | .contributionMessage d | .groupEvaluation d _ | .correlationResponse d | .correlationTimeout d
  | .balanceItemOffer d | .balanceDisable d | .remoteLedgerRequest d | .remoteLedgerResponse d | .memberWriteTimeout d
  | .detachRetry d | .windowBucketRoll d | .deliverPositionMirror d | .downlinkExpiry d | .downlinkAtTime d
  | .longOperationComplete d _ | .longOperationProgress d _ | .readRecord d | .provisionRecord d _ | .setRecordState d
  | .loadProgram d _ | .setProgram d | .closePeriod d | .topUp d | .acceptEmergencyCredit d | .disconnect d
  | .reconnect d | .rerate d | .readDiscontinuityLog d | .readDeferralStatistics d | .abortOperation d | .assignSlot d
  | .releaseSlot d | .grantHallPass d | .revokeHallPass d | .importKey d _ | .importMeterKey d _ | .exportKey d
  | .deriveKey d _ | .generateKey d | .clearSlot d | .attest d _ | .rotate d | .cancelStage d | .lifecycleAdvance d _ _
  | .readUnknownSummary d | .defineGroup d | .deleteGroup d | .addMember d | .removeMember d | .setHead d
  | .readGroup d | .resetStatistics d | .readArchive d | .readHealth d | .hostRead d | .hostWrite d _ | .hostTrim d
  | .patrolPass d | .format d | .switchover d | .resync d | .stageFirmware d _ | .updateDie d | .readReportCard d
  | .release d | .readFabric d | .setPartition d _ _ _ | .readPartition d | .setPackageNumber d | .readStartLog d
  | .loadRecoveryImage d _ | .restart d | .clearFailedStarts d | .runDiagnostic d _ _ _ | .writeConfig d _ _ _
  | .readConfig d | .downlink d _ | .headEndFrame d | .arcEnable d _ _ _ _ _ _ _ _ | .arcDisable d | .openPageProgram d
  | .nandProgramStatus d _ | .nandEraseStatus d _ _ | .sectorDecodeFail d _ _ _ | .garbageCollection d
  | .copyVerified d _ | .patrolRead d _ | .wearLevelCheck d | .governorRun d | .checkpointPass d
  | .journalBlockErase d _ | .archiveTrim d | .mapWriteBack d | .heartbeatMessage d | .pathSilence d _
  | .pathRestored d _ | .ownFatalFault d | .fenceConfirmed d | .fencedDieRestart d | .resyncComplete d
  | .arcCatchupComplete d | .fdieLost d _ | .invigilatorTest d _ _ _ | .linkTrainingComplete d _ _ | .linkRetrain d
  | .linkDown d | .flitReceived d _ _ _ _ _ | .fabricMessage d | .flowDelivery d | .ackOnlyTimer d _ _
  | .retransmitTimeout d _ _ | .unreachTimeout d _ _ | .candidacy d | .electionQuiet d | .claim d | .linkStateRecord d
  | .partitionPublication d | .ledgerOnlineReport d | .eufPortDisable d | .ethFrameReceived d _ _ _ | .pauseExpiry d
  | .pauseWatchdog d | .collision d | .backoffEnd d | .delayReqTimer d | .syncTimeout d | .directAlarmActivate d
  | .directAlarmSend d | .alarmCopyTimer d | .alarmEnable d | .ethDisable d | .ethLinkChange d _ _ _ | .slateEnable d
  | .slateDisable d | .pumpSettled d | .pumpDischarged d | .slateUpdate d | .wfCheck d | .tempSample d
  | .phaseBoundary d | .restTimer d | .recessGo d | .timingMessage d | .setGo d | .ptpMeasurement d | .ppsInEdge d _
  | .holdoverEntry d | .holdoverExpiry d | .ppsOutEdge d | .ppsInLoss d | .zcComparison d _ | .saveCommit d
  | .thermalSample d _ _ | .pllUnlock d _ | .marginReplan d _ | .planNow d | .slackDeficit d _ _ | .avsCommandFail d
  | .avsEnable d | .resetRelease d _ _ _ | .bootImageMessage d | .bootAnswerTimeout d | .bootStageAdvance d _
  | .stageBoundExpiry d | .restoringComplete d _ | .joiningTimeout d | .startUpRecoveryComplete d | .plcTxEnd d
  | .pauseIgnoreEnd d | .framePairBoundary d | .domainPowerUpComplete d | .ledgerEnable d | .ethEnable d
  | .eufPortEnable d => decide (d < 8)
  | .syncDetected d n mode _ _ _ _ _ => decide (d < 8) && decide (n < 128) && modeOk mode
  | .unpickStart d _ _ slot _ => decide (d < 8) && decide (slot < 128)
  | .slotEnable d n | .slotDisable d n => decide (d < 8) && decide (n < 128)
  | .calComplete d p _ => decide (d < 8) && decide (p < 3)
  | .ttEnable d n _ | .ttDisable d n | .broadcastBlock d n | .superframeStart d n => decide (d < 8) && decide (n < 8)
  | .markExtend d m => decide (d < 8) && decide (m < 8)
  | .markLock d mask => decide (d < 8) && decide (mask < 256)
  | .packetCommit d c | .queueSpill d c | .queueRefill d c | .itemDelivery d c | .ringFullnessReport d c
  | .holdLimitExceeded d c | .queueEnable d c | .queueDisable d c | .queueFlush d c => decide (d < 8) && decide (c < 4)
  | .sqTailDoorbell p g v | .cqHeadDoorbell p g v => decide (p < 2) && decide (g < 256) && decide (v < 2 ^ 32)
  | .sqEntryFetch g _ | .completionWrite g | .msiXSignal g | .sqDisable g | .cqDisable g | .ringEnable g _ => decide (g < 256)
  | .hostMemoryAccessFail _ _ _ | .failback | .brownoutWarning _ | .supplyRecovery _ | .vmonReset _ | .clkRefLoss
  | .clkRefRestored | .eventRaiseMessage | .resetNAsserted => true
  | .hifPortWrite v => decide (v < 2 ^ 32)
  | .portLinkDown p | .portLinkUp p _ _ => decide (p < 2)
  | .mdioAccess d v | .domainEnable d v => decide (d < 8) && decide (v < 2 ^ 32)
  | .wake d src => decide (d < 8) && decide (src < 6)
  | .gpioEdge d n _ => decide (d < 8) && decide (n < 16)
  | .evtTest d n => decide (d < 8) && decide (n < 256)
  | .evtPendClear d w mask => decide (d < 8) && decide (w < 8) && decide (mask < 2 ^ 32)
  | .msiXUnmask p v => decide (p < 2) && decide (v < 64)

end Sys2Proof
end

