-- ==== Sys2Proof/Safety.lean ====
section
/-! DEFINITION. What counts as a sound state, in the terms that claims use. -/

namespace Sys2Proof.Machine

/-- The canonical form of a sparse store: its keys rise strictly. -/
def smOk {α : Type} : SMap α → Bool
  | [] => true
  | [_] => true
  | (k, _) :: (q, v) :: t => decide (k < q) && smOk ((q, v) :: t)

/-- The register fields stand in canonical form. -/
def State.regsOk (s : State) : Bool := smOk s.regs

/-- Every command that waits is well formed. -/
def State.queueOk (s : State) : Bool := s.pending.all Instr.wellFormed

/-- No two dies of a pair are Active at once (R259). -/
def State.pairsOk (s : State) : Bool :=
  (List.range s.nL).all (fun d => !(s.inPair d && s.role d == 1 && s.role (partnerOf d) == 1))

/-- Copy `i` of a field on die `e` is no copy of the fields named, on any die. -/
def Field.apart (g : Field) (fs : List Field) (e i : Nat) : Prop :=
  ∀ f ∈ fs, ∀ d j, j < f.count → f.key d j ≠ g.key e i

/-- Where a command acts. -/
inductive Site where
  /-- the package as a whole: the host, its address space, the package supply and reset pins -/
  | package
  /-- an L-die -/
  | lDie (d : Nat)
  /-- an F-die -/
  | fDie (d : Nat)
  /-- an L-die with a host port -/
  | port (d : Nat)
  /-- any die -/
  | die (d : Nat)
  /-- a register block of a die -/
  | block (d : Nat) (b : Block)
  deriving DecidableEq, Repr

/-- The package has the unit that a command names (R1, R2, R200, R372). -/
def Site.present (s : State) : Site → Bool
  | .package => true
  | .lDie d => s.isL d
  | .fDie d => s.isF d
  | .port d => s.isPort d
  | .die d => decide (d < s.nDies)
  | .block d b => s.hasBlock d b

/-- Where each command acts. -/
def siteOf (s : State) : Instr → Site
  | .registerWrite _ _ _ => .package
  | .narrowOrUnalignedWrite _ => .package
  | .narrowOrUnalignedRead _ => .package
  | .unmappedWrite _ => .package
  | .counterClear d b => .block d b
  | .syncDetected d _ _ _ _ _ _ _ => .fDie d
  | .addressFieldComplete d _ _ _ _ => .fDie d
  | .syncLost d _ => .fDie d
  | .dataRunClose d _ _ => .fDie d
  | .lastBit d _ _ _ _ => .fDie d
  | .headerMessage d => .lDie d
  | .dataMessage d => .lDie d
  | .rewriteMessage d => .lDie d
  | .prefetchComplete d => .lDie d
  | .trailerMessage d => .lDie d
  | .abortMessage d => .lDie d
  | .verdictWaitTimeout d => .lDie d
  | .verdictMessage d => .fDie d
  | .releaseMessage d => .fDie d
  | .holdTimeout d _ => .fDie d
  | .holdNoOwnerTimeout d => .fDie d
  | .partitionTablePublish d => .fDie d
  | .timetableParametersPublish d => .lDie d
  | .mirrorMessage d => .lDie d
  | .mirrorConfirm d => .lDie d
  | .mirrorConfirmTimeout d => .lDie d
  | .headEndFrameArrival d _ => .lDie d
  | .decisionSlotGrant d _ _ => .lDie d
  | .rxPathEnable d _ _ => .fDie d
  | .lnaAutoSwitch d _ _ => .fDie d
  | .overload d _ _ => .fDie d
  | .txHandover d => .fDie d
  | .dcBucketRoll d => .fDie d
  | .femSettlingStart d _ => .fDie d
  | .rampUpStart d => .fDie d
  | .txPowerCheck d _ => .fDie d
  | .rampDownEnd d => .fDie d
  | .synthUnlock d _ => .fDie d
  | .txPathDisable d => .fDie d
  | .rftDcLock d => .fDie d
  | .slotEnable d _ => .fDie d
  | .slotDisable d _ => .fDie d
  | .unpickStart d _ _ _ _ => .fDie d
  | .unpickComplete d _ _ _ _ _ _ => .fDie d
  | .rxCalStart d _ => .fDie d
  | .calComplete d _ _ => .fDie d
  | .gainCalStart d _ => .fDie d
  | .gainCalTrigger d _ _ => .fDie d
  | .gainCalComplete d _ _ => .fDie d
  | .ttEnable d _ _ => .fDie d
  | .ttDisable d _ => .fDie d
  | .superframeStart d _ => .fDie d
  | .dataSlotEnd d _ _ _ _ => .lDie d
  | .ackDue d => .fDie d
  | .downlinkFollowSend d => .fDie d
  | .wmbResponseDue d => .fDie d
  | .campStart d => .fDie d
  | .campAbort d => .fDie d
  | .broadcastBlock d _ => .fDie d
  | .plcEnable d => .fDie d
  | .plcDisable d => .fDie d
  | .plcPreambleDetect d _ => .fDie d
  | .plcFrameDecoded d _ _ _ _ _ _ _ => .fDie d
  | .plcAckSend d => .fDie d
  | .plcBackoffEnd d _ _ => .fDie d
  | .plcAckWaitTimeout d => .fDie d
  | .toneMapExpiry d => .fDie d
  | .shortAddrHighWrite d _ _ => .fDie d
  | .zcEdge d => .fDie d
  | .zcLoss d => .fDie d
  | .lockZeroise d => .die d
  | .integrityFault d => .die d
  | .markExtend d _ => .die d
  | .markLock d _ => .die d
  | .secEnable d => .lDie d
  | .cacheFlush d => .lDie d
  | .retireHoldExpiry d => .lDie d
  | .stagedKeyStale d => .lDie d
  | .ledgerApply d => .lDie d
  | .deviceTimeStep d _ _ => .die d
  | .slewComplete d => .lDie d
  | .holdAutoEnd d => .lDie d
  | .holdRelease d => .lDie d
  | .boundarySweep d => .lDie d
  | .sweepComplete d => .lDie d
  | .timeQualityChange d => .die d
  | .rrAbort d => .lDie d
  | .contributionMessage d => .lDie d
  | .groupEvaluation d _ => .lDie d
  | .correlationResponse d => .lDie d
  | .correlationTimeout d => .lDie d
  | .balanceItemOffer d => .lDie d
  | .balanceDisable d => .lDie d
  | .remoteLedgerRequest d => .lDie d
  | .remoteLedgerResponse d => .lDie d
  | .memberWriteTimeout d => .lDie d
  | .detachRetry d => .lDie d
  | .packetCommit d _ => .lDie d
  | .queueSpill d _ => .lDie d
  | .queueRefill d _ => .lDie d
  | .itemDelivery d _ => .lDie d
  | .ringFullnessReport d _ => .lDie d
  | .holdLimitExceeded d _ => .lDie d
  | .windowBucketRoll d => .lDie d
  | .queueEnable d _ => .lDie d
  | .queueDisable d _ => .lDie d
  | .queueFlush d _ => .lDie d
  | .deliverPositionMirror d => .lDie d
  | .sqTailDoorbell p _ _ => .port p
  | .cqHeadDoorbell p _ _ => .port p
  | .sqEntryFetch g _ => .port (s.groupPort g)
  | .hostMemoryAccessFail _ g _ => .port (s.groupPort g)
  | .completionWrite g => .port (s.groupPort g)
  | .msiXSignal g => .port (s.groupPort g)
  | .sqDisable _ => .port 0
  | .cqDisable _ => .port 0
  | .ringEnable _ _ => .port 0
  | .hifPortWrite _ => .port 0
  | .portLinkDown p => .port p
  | .portLinkUp p _ _ => .port p
  | .failback => .port 0
  | .downlinkExpiry d => .die d
  | .downlinkAtTime d => .fDie d
  | .longOperationComplete d _ => .die d
  | .longOperationProgress d _ => .die d
  | .readRecord d => .lDie d
  | .provisionRecord d _ => .lDie d
  | .setRecordState d => .lDie d
  | .loadProgram d _ => .lDie d
  | .setProgram d => .lDie d
  | .closePeriod d => .lDie d
  | .topUp d => .lDie d
  | .acceptEmergencyCredit d => .lDie d
  | .disconnect d => .lDie d
  | .reconnect d => .lDie d
  | .rerate d => .lDie d
  | .readDiscontinuityLog d => .lDie d
  | .readDeferralStatistics d => .lDie d
  | .abortOperation d => .die d
  | .assignSlot d => .lDie d
  | .releaseSlot d => .lDie d
  | .grantHallPass d => .lDie d
  | .revokeHallPass d => .lDie d
  | .importKey d _ => .die d
  | .importMeterKey d _ => .lDie d
  | .exportKey d => .die d
  | .deriveKey d _ => .die d
  | .generateKey d => .die d
  | .clearSlot d => .die d
  | .attest d _ => .die d
  | .rotate d => .lDie d
  | .cancelStage d => .lDie d
  | .lifecycleAdvance d _ _ => .die d
  | .readUnknownSummary d => .lDie d
  | .defineGroup d => .lDie d
  | .deleteGroup d => .lDie d
  | .addMember d => .lDie d
  | .removeMember d => .lDie d
  | .setHead d => .lDie d
  | .readGroup d => .lDie d
  | .resetStatistics d => .lDie d
  | .readArchive d => .lDie d
  | .readHealth d => .lDie d
  | .hostRead d => .lDie d
  | .hostWrite d _ => .lDie d
  | .hostTrim d => .lDie d
  | .patrolPass d => .lDie d
  | .format d => .lDie d
  | .switchover d => .lDie d
  | .resync d => .lDie d
  | .stageFirmware d _ => .lDie d
  | .updateDie d => .die d
  | .readReportCard d => .die d
  | .release d => .lDie d
  | .readFabric d => .lDie d
  | .setPartition d _ _ _ => .lDie d
  | .readPartition d => .lDie d
  | .setPackageNumber d => .lDie d
  | .readStartLog d => .die d
  | .loadRecoveryImage d _ => .die d
  | .restart d => .die d
  | .clearFailedStarts d => .die d
  | .runDiagnostic d _ _ _ => .die d
  | .writeConfig d _ _ _ => .die d
  | .readConfig d => .die d
  | .downlink d _ => .die d
  | .headEndFrame d => .lDie d
  | .arcEnable d _ _ _ _ _ _ _ _ => .lDie d
  | .arcDisable d => .lDie d
  | .openPageProgram d => .lDie d
  | .nandProgramStatus d _ => .lDie d
  | .nandEraseStatus d _ _ => .lDie d
  | .sectorDecodeFail d _ _ _ => .lDie d
  | .garbageCollection d => .lDie d
  | .copyVerified d _ => .lDie d
  | .patrolRead d _ => .lDie d
  | .wearLevelCheck d => .lDie d
  | .governorRun d => .lDie d
  | .checkpointPass d => .lDie d
  | .journalBlockErase d _ => .lDie d
  | .archiveTrim d => .lDie d
  | .mapWriteBack d => .lDie d
  | .heartbeatMessage d => .lDie d
  | .pathSilence d _ => .lDie d
  | .pathRestored d _ => .lDie d
  | .ownFatalFault d => .lDie d
  | .fenceConfirmed d => .lDie d
  | .fencedDieRestart d => .lDie d
  | .resyncComplete d => .lDie d
  | .arcCatchupComplete d => .lDie d
  | .fdieLost d _ => .lDie d
  | .invigilatorTest d _ _ _ => .die d
  | .linkTrainingComplete d _ _ => .lDie d
  | .linkRetrain d => .lDie d
  | .linkDown d => .lDie d
  | .flitReceived d _ _ _ _ _ => .lDie d
  | .fabricMessage d => .lDie d
  | .flowDelivery d => .lDie d
  | .ackOnlyTimer d _ _ => .lDie d
  | .retransmitTimeout d _ _ => .lDie d
  | .unreachTimeout d _ _ => .lDie d
  | .candidacy d => .lDie d
  | .electionQuiet d => .lDie d
  | .claim d => .lDie d
  | .linkStateRecord d => .lDie d
  | .partitionPublication d => .lDie d
  | .ledgerOnlineReport d => .lDie d
  | .eufPortDisable d => .lDie d
  | .ethFrameReceived d _ _ _ => .port d
  | .pauseExpiry d => .port d
  | .pauseWatchdog d => .port d
  | .collision d => .port d
  | .backoffEnd d => .port d
  | .delayReqTimer d => .port d
  | .syncTimeout d => .port d
  | .directAlarmActivate d => .port d
  | .directAlarmSend d => .lDie d
  | .alarmCopyTimer d => .port d
  | .alarmEnable d => .port d
  | .ethDisable d => .port d
  | .ethLinkChange d _ _ _ => .port d
  | .mdioAccess d _ => .port d
  | .slateEnable d => .fDie d
  | .slateDisable d => .fDie d
  | .pumpSettled d => .fDie d
  | .pumpDischarged d => .fDie d
  | .slateUpdate d => .fDie d
  | .wfCheck d => .fDie d
  | .tempSample d => .fDie d
  | .phaseBoundary d => .fDie d
  | .restTimer d => .fDie d
  | .domainEnable d _ => .die d
  | .recessGo d => .die d
  | .wake d _ => .die d
  | .timingMessage d => .die d
  | .setGo d => .port d
  | .ptpMeasurement d => .port d
  | .ppsInEdge d _ => .port d
  | .holdoverEntry d => .die d
  | .holdoverExpiry d => .die d
  | .ppsOutEdge d => .port d
  | .ppsInLoss d => .port d
  | .zcComparison d _ => .die d
  | .brownoutWarning _ => .package
  | .saveCommit d => .lDie d
  | .supplyRecovery _ => .package
  | .vmonReset _ => .package
  | .thermalSample d _ _ => .die d
  | .pllUnlock d _ => .die d
  | .clkRefLoss => .package
  | .clkRefRestored => .package
  | .marginReplan d _ => .die d
  | .planNow d => .die d
  | .slackDeficit d _ _ => .die d
  | .avsCommandFail d => .die d
  | .avsEnable d => .die d
  | .resetRelease d _ _ _ => .die d
  | .bootImageMessage d => .die d
  | .bootAnswerTimeout d => .die d
  | .bootStageAdvance d _ => .die d
  | .stageBoundExpiry d => .die d
  | .restoringComplete d _ => .lDie d
  | .joiningTimeout d => .lDie d
  | .startUpRecoveryComplete d => .die d
  | .gpioEdge d _ _ => .fDie d
  | .eventRaiseMessage => .package
  | .evtTest d _ => .die d
  | .evtPendClear d _ _ => .die d
  | .msiXUnmask p _ => .port p
  | .plcTxEnd d => .fDie d
  | .pauseIgnoreEnd d => .port d
  | .framePairBoundary d => .fDie d
  | .resetNAsserted => .package
  | .domainPowerUpComplete d => .die d
  | .ledgerEnable d => .lDie d
  | .ethEnable d => .port d
  | .eufPortEnable d => .lDie d

end Sys2Proof.Machine
end

