-- ==== Sys2Proof/Certificates/Slice0/Obligations.lean ====
section
/-! DEFINITION. The statements about the block, for the provers. Each docstring names the rules it rests on; `settle` says that a
command leaves the variant, the queue and the time alone. An equation `exec c s = .next (s.settle t)` gives the whole next state:
what `t` does not change stays as it was. -/

open Sys2Proof Sys2Proof.Machine

/-! ### Register access and events (00_scope, 18_event_register_index) -/

/-- The rows of register access. An aligned 32-bit write through BAR0 at an offset where a powered block lies does what the register
rules of that block say (`writeBlock`). A narrow or unaligned write there, outside DDR and HOLD, is discarded: SYS_STAT.acc_error,
SYS_ACC_ADDR with the offset and kind 0, SYS_ACC_ERR_CNT and event source 0 show it. A narrow or unaligned read of BAR0 or BAR4
returns all ones, and one of BAR2 returns 0. An aligned write at an offset that no present block occupies is discarded and shown with
kind 1. CNT_CLEAR restarts what the block has held and zeroes each of the block's counters. -/
def Obligations.RegisterAccessCompletes : Prop :=
  (∀ (s : State) (d off v : Nat) (b : Block), d < s.nDies → off < dieWindow → off % 4 = 0 → s.blockAt d off = some b →
    s.blockOn d b = true →
    exec (.registerWrite .regs (d * dieWindow + off) v) s = .next (s.settle (s.writeBlock d b off (v % 2 ^ 32))))
  ∧ (∀ (s : State) (d off : Nat) (b : Block), d < s.nDies → off < dieWindow → s.blockAt d off = some b → s.blockOn d b = true →
    b ≠ .ddr → b ≠ .hold → s.domOn d 1 = true →
    exec (.narrowOrUnalignedWrite ⟨.regs, d * dieWindow + off⟩) s = .next (s.settle
      ((((((s.putB d SYS_STAT_acc_error true).put d SYS_ACC_ADDR_offset off).put d SYS_ACC_ADDR_kind 0).inc d SYS_ACC_ERR_CNT).raise
        d 0 (arg 0 off)))))
  ∧ (∀ (s : State) (bar : Bar) (addr : Nat), (∀ p, bar ≠ .doorbell p) →
    exec (.narrowOrUnalignedRead ⟨bar, addr⟩) s = .next (s.settle { s with busRead := 0xFFFFFFFF }))
  ∧ (∀ (s : State) (p addr : Nat),
    exec (.narrowOrUnalignedRead ⟨.doorbell p, addr⟩) s = .next (s.settle { s with busRead := 0 }))
  ∧ (∀ (s : State) (d off : Nat), d < s.nDies → off < dieWindow → s.blockAt d off = none → s.domOn d 1 = true →
    exec (.unmappedWrite (d * dieWindow + off)) s = .next (s.settle
      ((((((s.putB d SYS_STAT_acc_error true).put d SYS_ACC_ADDR_offset off).put d SYS_ACC_ADDR_kind 1).inc d SYS_ACC_ERR_CNT).raise
        d 0 (arg 0 off + arg 4 1)))))
  ∧ (∀ (s : State) (d : Nat) (b : Block), s.hasBlock d b = true → s.blockOn d b = true →
    exec (.counterClear d b) s = .next (s.settle
      (b.counters.foldl (fun s f => s.zeroCounter (b.home d) f) (s.restartHeld d b))))

/-- R377: a reserved event source never raises; its EVT_SRC register reads 0 and ignores writes. -/
def Obligations.ReservedSourcesNeverRaise : Prop :=
  ∀ (s : State) (d n : Nat), d < s.nDies → n < 256 →
    ((s.isL d = true ∧ (n ∈ [1, 2, 3, 10, 11, 31, 87, 93, 94, 95, 109, 110, 111, 127] ∨ (40 ≤ n ∧ n ≤ 63) ∨ 144 ≤ n))
      ∨ (s.isL d = false ∧ (n ∈ [1, 2, 3, 18, 27, 31, 77, 78, 79] ∨ (5 ≤ n ∧ n ≤ 11) ∨ (58 ≤ n ∧ n ≤ 63) ∨ (67 ≤ n ∧ n ≤ 71)
        ∨ 96 ≤ n))) →
    (∀ args handle : Nat, s.raise d n args handle = s)
    ∧ (s.blockOn d .evt = true → s.readWord d (0x30400 + 4 * n) = 0)
    ∧ (∀ v : Nat, exec (.registerWrite .regs (d * dieWindow + (0x30400 + 4 * n)) v) s = .next s)

/-- The event rows. EVT_TEST raises the source named, with arguments 0 and no handle. A write of ones to EVT_PENDw clears those pending
bits. The oldest raise on its way to the host port arrives there. A rising and a falling edge of an input pin whose edge is enabled and
that is no wake source store the pin's level and raise source 80 + n with the level. -/
def Obligations.EventCommandsComplete : Prop :=
  (∀ (s : State) (d n : Nat), d < s.nDies → s.blockOn d .evt = true → n < 256 →
    exec (.evtTest d n) s = .next (s.settle (s.raise d n)))
  ∧ (∀ (s : State) (d w mask : Nat), d < s.nDies → s.blockOn d .evt = true → w < 8 →
    exec (.evtPendClear d w mask) s = .next (s.settle
      (s.put d EVT_PENDw_pend (s.get d EVT_PENDw_pend w - (s.get d EVT_PENDw_pend w &&& mask)) w)))
  ∧ (∀ (s : State) (m : EvtMsg) (rest : List EvtMsg), s.hif.evtNet = m :: rest →
    exec .eventRaiseMessage s = .next (s.settle (({ s with hif := { s.hif with evtNet := rest } } : State).evtArrive m)))
  ∧ (∀ (s t : State) (d n : Nat), s.isF d = true → n < 16 → bit (s.f d).pins n = false →
    t = s.setFd d { s.f d with pins := (s.f d).pins ||| 2 ^ n } → bit (t.get d GPIO_RISE_rise) n = true →
    bit (t.get d GPIO_DIR_out) n = false → t.domOn d 15 = true → bit ((t.raise d (80 + n) (arg 0 1)).get d GPIO_WAKE_wake) n = false →
    exec (.gpioEdge d n true) s = .next (s.settle (t.raise d (80 + n) (arg 0 1))))
  ∧ (∀ (s t : State) (d n : Nat), s.isF d = true → n < 16 → bit (s.f d).pins n = true →
    t = s.setFd d { s.f d with pins := (s.f d).pins - ((s.f d).pins &&& 2 ^ n) } → bit (t.get d GPIO_FALL_fall) n = true →
    bit (t.get d GPIO_DIR_out) n = false → t.domOn d 15 = true → bit ((t.raise d (80 + n) (arg 0 0)).get d GPIO_WAKE_wake) n = false →
    exec (.gpioEdge d n false) s = .next (s.settle (t.raise d (80 + n) (arg 0 0))))

/-- Without L1 the port field of an event source may not name port B: the write is refused with cfg_error (R379 of the index). -/
def Obligations.EventPortRefused : Prop :=
  ∀ (s : State) (d n v : Nat), d < s.nDies → n < 256 → s.nL = 1 → (s.evtDefault d n).isSome = true → s.blockOn d .evt = true →
    EVT_SRCs_port.of (v % 2 ^ 32) = 1 →
    exec (.registerWrite .regs (d * dieWindow + (0x30400 + 4 * n)) v) s = .next (s.settle (s.putB d EVT_SRCs_cfg_error true n))

/-! ### Reception (01_reading_path, 02_radio_reception) -/

/-- The reception rows on an F-die. A sync that a running slot finds in one of its modes, on a path that is neither blanked nor deaf,
takes the first free context and the first free hold entry, stores the noise floor and counts DMD_SYNC_CNT; a second frame on the slot
is set in its order of level. A complete address field that passes the checks hands the frame on. A sync lost before that is counted
in DMD_LOST_CNT and frees context and hold entry; one lost after it aborts the frame with reason 1. A data run of at most 64 bytes goes
to the owner as it closes. The last bit of a frame that no stronger one overlaps tells the weaker frames whether it passed and sends
the trailer. A withheld frame under stronger ones that have all passed is unpicked while fewer than 16 are. The bytes unpicked of a
frame that still arrives rewrite those already sent from the first affected one on, follow for the withheld ones, and replace those of
its context. -/
def Obligations.ReceptionCompletes : Prop :=
  (∀ (s : State) (d n mode b c h : Nat) (fec : Bool) (rssi freq noise pre : Nat), s.isF d = true → n < 128 →
    s.get d CHN_SLOT_STATn_state n = 1 → modeBit mode = some b → bit (s.get d CHN_SLOT_MODEn_mode_mask n) b = true →
    s.get d CHN_SLOT_MODEn_sync_rssi_min n = 0x80 → s.blanked d (s.flag d CHN_SLOT_CFGn_path n) = false →
    s.flag d (pathField (s.flag d CHN_SLOT_CFGn_path n) RFA_STAT_deaf) = false → (s.com1 d).pwr.halted = false →
    firstFree (s.rad d).ctxs 128 0 = some c → firstFree (s.rad d).hold holdEntries 0 = some h →
    exec (.syncDetected d n mode fec rssi freq noise pre) s = .next (s.settle (
      let s1 := (s.put d CHN_SLOT_STATn_noise_floor noise n).inc d DMD_SYNC_CNT
      let x : Ctx := { slot := n, hold := h, mode := mode, fec := fec, rssi := rssi, freqOffset := freq, noise := noise,
                       syncTime := s1.devTime d, start := s1.devTime d - rxByteTicks mode pre, tt := s1.slotTt d n, runSince := s1.now,
                       ackDelay := s1.get d TT_n_TIMING_ack_delay ((s1.slotTt d n).getD 0) * Config.tUs,
                       ttEui := leBytes 8 (s1.get2 d TT_n_EUI_LO_eui_lo TT_n_EUI_HI_eui_hi ((s1.slotTt d n).getD 0)) }
      let s2 := ((s1.setCtx d c x).setHold d h { ctx := c }).holdWatch d
      (if (s2.levels d n).length ≤ 1 then s2 else s2.overlap d n pre).slotRefresh d n)))
  ∧ (∀ (s : State) (d c psduLen k : Nat) (modeSwitch : Bool) (b identity : Bytes) (x : Ctx), s.isF d = true → s.ctx d c = some x →
    x.addrDone = false → x.state = .receiving → x.withheldFrom = none → x.lastBit = none →
    addrCheck (s.get d WMB_PASS_pass) x.mode psduLen modeSwitch b = some (some (identity, k)) →
    exec (.addressFieldComplete d c psduLen modeSwitch b) s =
      .next (s.settle (s.handOff d c { x with bytes := b, identity := identity, idKind := k })))
  ∧ (∀ (s : State) (d c : Nat) (x : Ctx), s.isF d = true → s.ctx d c = some x → x.lastBit = none → x.addrDone = false →
    exec (.syncLost d c) s = .next (s.settle (((s.inc d DMD_LOST_CNT).freeHold d x.hold).freeCtx d c)))
  ∧ (∀ (s : State) (d c o : Nat) (x : Ctx), s.isF d = true → s.ctx d c = some x → x.lastBit = none → x.addrDone = true →
    x.headerSent = true → x.owner = some o →
    exec (.syncLost d c) s = .next (s.settle
      ((((s.sendHand ⟨d, o, c, x.hold, .abort 1⟩).inc d DMD_ABORT_CNT).freeHold d x.hold).freeCtx d c)))
  ∧ (∀ (s : State) (d c o : Nat) (b : Bytes) (x : Ctx), s.isF d = true → s.ctx d c = some x → x.addrDone = true →
    x.withheldFrom = none → x.lastBit = none → b.isEmpty = false → b.length ≤ 64 → x.owner = some o →
    exec (.dataRunClose d c b) s = .next (s.settle
      (((s.holdBytes d x.hold (x.bytes ++ b)).sendHand ⟨d, o, c, x.hold, .data x.bytes.length b⟩).setCtx d c
        { x with bytes := x.bytes ++ b, runSince := s.now, sent := x.bytes.length + b.length })))
  ∧ (∀ (s : State) (d c rssiMean fecCorrected : Nat) (b : Bytes) (x : Ctx), s.isF d = true → s.ctx d c = some x → x.lastBit = none →
    x.withheldFrom = none → x.addrDone = true → x.recovered = false →
    exec (.lastBit d c b rssiMean fecCorrected) s = .next (s.settle (
      (s.overSet d c (fun o => { o with last := some (s.devTime d), ok := some (frameClean x.mode (x.bytes ++ b)) })).sendTrailer d c
        { x with lastBit := some (s.devTime d), rssiMean := rssiMean, fecCorrected := fecCorrected, bytes := x.bytes ++ b }
        x.bytes.length b false false)))
  ∧ (∀ (s : State) (d weak strong k : Nat) (x : Ctx), s.isF d = true → s.ctx d weak = some x → x.withheldFrom = some k →
    x.state ≠ .unpicking → x.overlaps.any (fun o => o.ctx == strong) = true → x.overlaps.all (fun o => o.ok == some true) = true → x.tooLong (s.devTime d) = false →
    (s.rad d).unpicks.length < 16 →
    exec (.unpickStart d weak strong x.slot x.level) s = .next (s.settle
      ((s.setRad d { s.rad d with unpicks := (s.rad d).unpicks ++
          [{ strong := (x.overlaps.map (·.ctx)).headD 0, weak := weak, since := s.devTime d, overlap := x.overlapTicks (s.devTime d) }] }).setCtx
        d weak { x with state := .unpicking })))
  ∧ (∀ (s : State) (d weak psduLen rssiMean fecCorrected keep from_ o : Nat) (modeSwitch : Bool) (b : Bytes) (x : Ctx) (u : Unpick),
    s.isF d = true → s.ctx d weak = some x → (s.rad d).unpicks.find? (fun u => u.weak == weak) = some u → x.addrDone = true →
    x.owner = some o → x.withheldFrom = some keep → x.overlapFrom = some from_ → x.lastBit = none →
    exec (.unpickComplete d weak psduLen modeSwitch b rssiMean fecCorrected) s = .next (s.settle
      ((((runs64 from_ ((b.take keep).drop from_)).foldl
        (fun (s : State) (p : Nat × Bytes) => s.sendHand ⟨d, o, weak, x.hold, .rewrite p.1 p.2⟩)
        (s.setRad d { s.rad d with unpicks := (s.rad d).unpicks.filter (fun q => q.weak != weak) })).sendData d o weak x.hold keep
          (b.drop keep)).holdBytes d x.hold b |>.setCtx d weak
        { x with bytes := b, withheldFrom := none, overlapFrom := none, state := .receiving, recovered := true, rssiMean := rssiMean,
                 fecCorrected := fecCorrected, sent := b.length })))

/-- The receive paths and slots on an F-die. An Idle slot whose configuration is valid is enabled and runs (state 1); a running one is
disabled and drains (state 3), and is Idle at once where no frame is in it. A path's enable bit is set, or cleared where every slot of
the path is Idle, and its synthesizer locks with it. In auto mode, while no slot of the path receives, the LNA is bypassed above
−30 dBm and restored below −36 dBm, and the power is stored. Power above −15 dBm in auto mode that was not there before counts in
the path's overload counter, raises source 32 or 33, bypasses the LNA and aborts what the path receives with reason 3. A receive
calibration starts where every slot of the path is Idle: state 6 of the front end, the path deaf, cal_state 1; after 18 ms it ends with
cal_state 2 and event 36, or 3 and event 37, and a transmit calibration after 6 ms with the same events. A gain calibration starts
where a free tone lies in the band, and is else deferred with fail code 0x07 and event 37; each cause of a gain calibration has its own
condition; after 2 ms it stores temperature, age 0 and fail code 0, or fail code 0x08 and event 37. A synthesizer of a receive path that
unlocks shows it and raises source 34, that of the transmit path source 35. -/
def Obligations.ReceivePathCompletes : Prop :=
  (∀ (s : State) (d n : Nat), s.isF d = true → s.domOn d 3 = true → n < 128 → s.get d CHN_SLOT_STATn_state n = 0 → s.slotOk d n = true →
    exec (.slotEnable d n) s = .next (s.settle
      (((s.putB d CHN_SLOT_CTRLn_enable true n).put d CHN_SLOT_STATn_state 1 n).putB d CHN_SLOT_STATn_cfg_error false n)))
  ∧ (∀ (s : State) (d n : Nat), s.isF d = true → n < 128 →
    (s.get d CHN_SLOT_STATn_state n = 1 ∨ s.get d CHN_SLOT_STATn_state n = 2) →
    exec (.slotDisable d n) s = .next (s.settle
      ((((s.putB d CHN_SLOT_CTRLn_enable false n).putB d CHN_SLOT_STATn_cfg_error false n).put d CHN_SLOT_STATn_state 3 n).slotRefresh
        d n)))
  ∧ (∀ (s : State) (d : Nat) (pathB on : Bool), s.isF d = true → s.domOn d (if pathB then 9 else 8) = true →
    (on = true ∨ s.pathBusy d pathB = false) →
    exec (.rxPathEnable d pathB on) s = .next (s.settle
      ((s.putB d (pathField pathB RFA_CTRL_enable) on).putB d (pathField pathB RFA_STAT_pll_lock) on)))
  ∧ (∀ (s t : State) (d power : Nat) (pathB : Bool), s.isF d = true → -120 < toSigned 16 power →
    t = s.put d (pathField pathB RFA_POWER_power) power → t.get d (pathField pathB RFA_CTRL_lna) = 0 → t.pathReceiving d pathB = false →
    t.flag d (pathField pathB RFA_STAT_lna_bypassed) = false → -60 < toSigned 16 power →
    exec (.lnaAutoSwitch d pathB power) s = .next (s.settle
      ((t.putB d (pathField pathB RFA_STAT_lna_bypassed) true).femRefresh d)))
  ∧ (∀ (s t u : State) (d power : Nat) (pathB : Bool), s.isF d = true → -120 < toSigned 16 power → toSigned 16 power ≤ -60 →
    t = s.put d (pathField pathB RFA_POWER_power) power → t.get d (pathField pathB RFA_CTRL_lna) = 0 →
    t.flag d (pathField pathB RFA_STAT_lna_bypassed) = false → u = t.putB d (pathField pathB RFA_STAT_overload) false →
    u.pathReceiving d pathB = false →
    exec (.lnaAutoSwitch d pathB power) s = .next (s.settle
      ((u.putB d (pathField pathB RFA_STAT_lna_bypassed) true).femRefresh d)))
  ∧ (∀ (s t u : State) (d power : Nat) (pathB : Bool), s.isF d = true → toSigned 16 power < -144 →
    t = s.put d (pathField pathB RFA_POWER_power) power → t.get d (pathField pathB RFA_CTRL_lna) = 0 →
    t.flag d (pathField pathB RFA_STAT_lna_bypassed) = true → u = t.putB d (pathField pathB RFA_STAT_overload) false →
    u.pathReceiving d pathB = false →
    exec (.lnaAutoSwitch d pathB power) s = .next (s.settle
      ((u.putB d (pathField pathB RFA_STAT_lna_bypassed) false).femRefresh d)))
  ∧ (∀ (s t u : State) (d power : Nat) (pathB : Bool), s.isF d = true → -60 < toSigned 16 power →
    t = s.put d (pathField pathB RFA_POWER_power) power → t.flag d (pathField pathB RFA_STAT_overload) = false →
    u = t.putB d (pathField pathB RFA_STAT_overload) true → u.get d (pathField pathB RFA_CTRL_lna) = 0 →
    exec (.overload d pathB power) s = .next (s.settle
      (((((u.inc d (pathField pathB RFA_OVLD_CNT)).raise d (if pathB then 33 else 32)).putB d
        (pathField pathB RFA_STAT_lna_bypassed) true).femRefresh d).abortPath d pathB 3 none)))
  ∧ (∀ (s t : State) (d : Nat) (pathB : Bool), s.isF d = true → s.pathBusy d pathB = false →
    t = s.setCal d (b2n pathB) { s.cal d (b2n pathB) with fgSince := some s.now } →
    exec (.rxCalStart d pathB) s = .next (s.settle
      ((((t.put d (pathField pathB RFA_STAT_cal_state) 1).putB d (pathField pathB RFA_CTRL_cal_start) true).femRefresh d).deafRefresh d)))
  ∧ (∀ (s t : State) (d t0 : Nat) (pathB ok : Bool), s.isF d = true → (s.cal d (b2n pathB)).fgSince = some t0 →
    s.due (t0 + 18 * Config.tMs) = true → t = s.setCal d (b2n pathB) { s.cal d (b2n pathB) with fgSince := none } →
    exec (.calComplete d (b2n pathB) ok) s = .next (s.settle
      ((((((t.femRefresh d).deafRefresh d).put d (pathField pathB RFA_STAT_cal_state) (if ok then 2 else 3)).putB d
        (pathField pathB RFA_CTRL_cal_start) false).put d (pathField pathB RFA_CAL_fail_code) (if ok then 0 else 0x08)).raise d
        (if ok then 36 else 37) (arg 0 (b2n pathB) + (if ok then 0 else arg 2 0x0508)))))
  ∧ (∀ (s t : State) (d t0 : Nat) (ok : Bool), s.isF d = true → (s.cal d 2).fgSince = some t0 → s.due (t0 + 6 * Config.tMs) = true →
    t = s.setCal d 2 { s.cal d 2 with fgSince := none } →
    exec (.calComplete d 2 ok) s = .next (s.settle
      (((t.femRefresh d).deafRefresh d).raise d (if ok then 36 else 37) (arg 0 2 + (if ok then 0 else arg 2 0x0508)))))
  ∧ (∀ (s : State) (d : Nat) (pathB : Bool), s.isF d = true → (s.cal d (b2n pathB)).gainSince = none → s.toneFree d pathB = true →
    exec (.gainCalStart d pathB) s = .next (s.settle
      ((s.setCal d (b2n pathB) { s.cal d (b2n pathB) with gainSince := some s.now, deferredAt := none }).putB d
        (pathField pathB RFA_CTRL_gain_cal_start) true)))
  ∧ (∀ (s : State) (d : Nat) (pathB : Bool), s.isF d = true → (s.cal d (b2n pathB)).gainSince = none → s.toneFree d pathB = false →
    exec (.gainCalStart d pathB) s = .next (s.settle
      (((s.setCal d (b2n pathB) { s.cal d (b2n pathB) with deferredAt := some s.now }).put d
        (pathField pathB RFA_CAL_fail_code) 0x07).raise d 37 (arg 0 (b2n pathB) + arg 2 0x0507))))
  ∧ (∀ (s : State) (d cause : Nat) (pathB : Bool), s.isF d = true → s.flag d (pathField pathB RFA_CTRL_enable) = true →
    (s.cal d (b2n pathB)).gainSince = none → s.toneFree d pathB = true →
    ((cause = 0 ∧ (s.cal d (b2n pathB)).lastDone = none)
      ∨ (cause = 0 ∧ ∃ x, (s.cal d (b2n pathB)).lastDone = some x ∧ s.due (x + 86400 * Config.tS) = true)
      ∨ (cause = 1 ∧ 10 ≤ (s.getZ d PWR_TEMP_tj - s.getZ d (pathField pathB RFA_CAL_cal_temp)).natAbs)
      ∨ (cause = 2 ∧ ∃ x, (s.cal d (b2n pathB)).deferredAt = some x ∧ s.due (x + 60 * Config.tS) = true)
      ∨ (cause = 3 ∧ (s.cal d (b2n pathB)).deferredAt.isSome = true) ∨ cause = 4) →
    exec (.gainCalTrigger d pathB cause) s = .next (s.settle
      ((s.setCal d (b2n pathB) { s.cal d (b2n pathB) with gainSince := some s.now, deferredAt := none }).putB d
        (pathField pathB RFA_CTRL_gain_cal_start) true)))
  ∧ (∀ (s t : State) (d t0 : Nat) (pathB : Bool), s.isF d = true → (s.cal d (b2n pathB)).gainSince = some t0 →
    s.due (t0 + 2 * Config.tMs) = true →
    t = (s.putB d (pathField pathB RFA_CTRL_gain_cal_start) false).setCal d (b2n pathB)
      { (s.putB d (pathField pathB RFA_CTRL_gain_cal_start) false).cal d (b2n pathB) with gainSince := none, lastDone := some s.now } →
    exec (.gainCalComplete d pathB true) s = .next (s.settle
      (((t.put d (pathField pathB RFA_CAL_cal_temp) (t.get d PWR_TEMP_tj)).put d (pathField pathB RFA_CAL_cal_age) 0).put d
        (pathField pathB RFA_CAL_fail_code) 0)))
  ∧ (∀ (s t : State) (d t0 : Nat) (pathB : Bool), s.isF d = true → (s.cal d (b2n pathB)).gainSince = some t0 →
    s.due (t0 + 2 * Config.tMs) = true →
    t = (s.putB d (pathField pathB RFA_CTRL_gain_cal_start) false).setCal d (b2n pathB)
      { (s.putB d (pathField pathB RFA_CTRL_gain_cal_start) false).cal d (b2n pathB) with gainSince := none } →
    exec (.gainCalComplete d pathB false) s = .next (s.settle
      ((t.put d (pathField pathB RFA_CAL_fail_code) 0x08).raise d 37 (arg 0 (b2n pathB) + arg 2 0x0508))))
  ∧ (∀ (s : State) (d p : Nat), s.isF d = true → p < 2 →
    exec (.synthUnlock d p) s = .next (s.settle
      ((s.putB d (pathField (p = 1) RFA_STAT_pll_lock) false).raise d 34 (arg 0 p))))
  ∧ (∀ (s : State) (d : Nat), s.isF d = true →
    exec (.synthUnlock d 2) s = .next (s.settle ((s.putB d RFT_STAT_pll_lock false).raise d 35)))

/-! ### Transmission, timetables and broadcast (02_radio_reception, 03_timetable_mac) -/

/-- The transmit rows on an F-die whose supply is good. A queued frame that meets no other frame and has its key, its lead time of
100 µs and its duty cycle is handed over and charged to its band entry. From 60 µs before its start a handed frame settles: busy is
set, the front end is brought to its state and blanking applied; without a locked synthesizer it is refused with 0x0504. At its start a
settling frame goes on the air. A power within 2 dB of the target is stored; a larger error ends the transmission: power_fault, source
43, RFT_REFUSE_CNT and status 0x0505. Two ramps after a frame's on-air time it is over and counted in RFT_TX_CNT: a bell in
TT_BELL_CNT, an acknowledgement in TT_ACK_CNT with the downlink behind it due 1,000 µs later, a response in WMB_RESP_CNT, and the
command of a downlink completes with status 0. Disabling the path refuses with 0x0506 each frame that has not begun to settle. Every
60 s a bucket of each band entry drops out and a new one begins. The lock bit of the duty-cycle registers is set. -/
def Obligations.TransmitCompletes : Prop :=
  (∀ (s t u : State) (d n : Nat) (f : TxFrame), s.isF d = true → s.stopped d = false → (s.rad d).txq = [f] →
    nextQueued [f] = some f → f.asap = false → t = s.setTxq d [f] → t.keyGone d f = false →
    t.devTime d + 100 * Config.tUs ≤ f.start → t.dcCheck d f = .inr n →
    u = t.setTxq d (replaceTx f (some { f with stage := .handed, handedAt := t.devTime d }) (t.rad d).txq) →
    exec (.txHandover d) s = .next (s.settle (u.dcCharge d n (u.frameMs d f))))
  ∧ (∀ (s t : State) (d : Nat) (f : TxFrame), s.isF d = true → s.stopped d = false →
    (s.rad d).txq.find? (fun f => f.stage == .handed && decide (f.start ≤ s.devTime d + 60 * Config.tUs)) = some f →
    t = s.putB d RFT_STAT_pll_lock true → t.keyGone d f = false →
    exec (.femSettlingStart d true) s = .next (s.settle
      ((((t.setTxq d (replaceTx f (some { f with stage := .settling }) (s.rad d).txq)).femRefresh d).putB d RFT_STAT_busy true).blankNow
        d)))
  ∧ (∀ (s t : State) (d : Nat) (f : TxFrame), s.isF d = true → s.stopped d = false →
    (s.rad d).txq.find? (fun f => f.stage == .handed && decide (f.start ≤ s.devTime d + 60 * Config.tUs)) = some f →
    t = s.putB d RFT_STAT_pll_lock false → t.keyGone d f = false →
    exec (.femSettlingStart d false) s = .next (s.settle ((t.setTxq d (replaceTx f none (s.rad d).txq)).txRefuse d f 0x0504 false)))
  ∧ (∀ (s : State) (d : Nat) (f : TxFrame), s.isF d = true → s.stopped d = false →
    (s.rad d).txq.find? (fun f => f.stage == .settling && decide (f.start ≤ s.devTime d)) = some f →
    exec (.rampUpStart d) s = .next (s.settle
      ((s.setTxq d (replaceTx f (some { f with stage := .onAir }) (s.rad d).txq)).femRefresh d)))
  ∧ (∀ (s t : State) (d measured : Nat) (f : TxFrame), s.isF d = true → (s.rad d).txq.find? (fun f => f.stage == .onAir) = some f →
    f.start + s.ramp d + 20 * Config.tUs ≤ s.devTime d → t = s.put d RFT_STAT_measured measured →
    (toSigned 8 measured - t.txTarget d).natAbs ≤ 4 →
    exec (.txPowerCheck d measured) s = .next (s.settle t))
  ∧ (∀ (s t u : State) (d measured : Nat) (f : TxFrame), s.isF d = true → (s.rad d).txq.find? (fun f => f.stage == .onAir) = some f →
    f.start + s.ramp d + 20 * Config.tUs ≤ s.devTime d → t = s.put d RFT_STAT_measured measured →
    4 < (toSigned 8 measured - t.txTarget d).natAbs → u = (t.putB d RFT_STAT_power_fault true).raise d 43 (arg 0 measured) →
    exec (.txPowerCheck d measured) s = .next (s.settle (((u.txOver d f).inc d RFT_REFUSE_CNT).carriedDone f 0x0505 f.start)))
  ∧ (∀ (s t : State) (d : Nat) (f : TxFrame), s.isF d = true → (s.rad d).txq.find? (fun f => f.stage == .onAir) = some f →
    f.start + f.dur + 2 * s.ramp d ≤ s.devTime d → f.kind = .bell → t = (s.txOver d f).inc d RFT_TX_CNT →
    exec (.rampDownEnd d) s = .next (s.settle (t.inc d TT_BELL_CNT)))
  ∧ (∀ (s t : State) (d : Nat) (f : TxFrame) (dl : Dl), s.isF d = true →
    (s.rad d).txq.find? (fun f => f.stage == .onAir) = some f → f.start + f.dur + 2 * s.ramp d ≤ s.devTime d → f.kind = .ack →
    f.follow = some dl → t = ((s.txOver d f).inc d RFT_TX_CNT).inc d TT_ACK_CNT →
    exec (.rampDownEnd d) s = .next (s.settle (t.setRad d { t.rad d with follows := (t.rad d).follows ++
      [⟨dl, f.start + f.dur + 2 * t.ramp d + 1000 * Config.tUs, f.mode, f.centre, false⟩] })))
  ∧ (∀ (s t : State) (d : Nat) (f : TxFrame), s.isF d = true → (s.rad d).txq.find? (fun f => f.stage == .onAir) = some f →
    f.start + f.dur + 2 * s.ramp d ≤ s.devTime d → f.kind = .wmbResp → t = (s.txOver d f).inc d RFT_TX_CNT →
    exec (.rampDownEnd d) s = .next (s.settle ((t.inc d WMB_RESP_CNT).dlDone f.dl 0 f.start 1)))
  ∧ (∀ (s t : State) (d : Nat) (f : TxFrame), s.isF d = true → (s.rad d).txq.find? (fun f => f.stage == .onAir) = some f →
    f.start + f.dur + 2 * s.ramp d ≤ s.devTime d → f.kind = .downlink → t = (s.txOver d f).inc d RFT_TX_CNT →
    exec (.rampDownEnd d) s = .next (s.settle (t.dlDone f.dl 0 f.start 1)))
  ∧ (∀ (s t : State) (d : Nat), s.isF d = true → t = s.putB d RFT_CTRL_enable false →
    exec (.txPathDisable d) s = .next (s.settle
      (((t.rad d).txq.filter (fun f => f.stage == .queued || f.stage == .handed)).foldl
        (fun (s : State) f => s.txRefuse d f 0x0506 true)
        (t.setTxq d ((t.rad d).txq.filter (fun f => f.stage == .settling || f.stage == .onAir))))))
  ∧ (∀ (s : State) (d : Nat), s.isF d = true → s.due ((s.rad d).dcRolled + 60 * Config.tS) = true →
    exec (.dcBucketRoll d) s = .next (s.settle ((List.range 8).foldl
      (fun (s : State) n => (s.setBuckets d n (0 :: (s.dcBuckets d n).take 60)).dcWatch d n)
      (s.setRad d { s.rad d with dcRolled := s.now }))))
  ∧ (∀ (s : State) (d : Nat), s.isF d = true →
    exec (.rftDcLock d) s = .next (s.settle (s.putB d RFT_CTRL_dc_lock true)))

/-- What waits at an F-die. The release of a frame whose verdict is latched frees its hold entry; the acknowledgement that waits for it,
released at least 100 µs before it is due, goes to the transmitter. An acknowledgement not released when it is due is dropped: counted
in TT_ACK_LATE_CNT, with source 46 and status 0x0503 for the downlink behind it; a wM-Bus response likewise in WMB_RESP_LATE_CNT with
source 49. The downlink that follows an acknowledgement goes to the transmitter. A hold entry without a verdict 1,010 ms after its last
bit is freed with its context, and so is one that has had no owner for 1 s; event 64 says how many. A published partition table is
taken and what waits is replayed to its owners. -/
def Obligations.HoldAndAcksComplete : Prop :=
  (∀ (s t : State) (d : Nat) (m : BackMsg) (rest : List BackMsg) (e : Hold), s.isF d = true →
    takeFirst (fun m : BackMsg => m.dst == d && m.body == .release) s.back = some (m, rest) → s.holdAt d m.hold = some e →
    e.verdict.isSome = true → t = ({ s with back := rest } : State).freeHold d m.hold →
    takeFirst (fun a : AckWait => a.hold == m.hold && a.released.isNone) (t.rad d).acks = none →
    exec (.releaseMessage d) s = .next (s.settle t))
  ∧ (∀ (s t u : State) (d : Nat) (m : BackMsg) (rest : List BackMsg) (e : Hold) (a : AckWait) (as : List AckWait), s.isF d = true →
    takeFirst (fun m : BackMsg => m.dst == d && m.body == .release) s.back = some (m, rest) → s.holdAt d m.hold = some e →
    e.verdict.isSome = true → t = ({ s with back := rest } : State).freeHold d m.hold →
    takeFirst (fun a : AckWait => a.hold == m.hold && a.released.isNone) (t.rad d).acks = some (a, as) → a.wmb = false →
    u = t.setRad d { t.rad d with acks := as } → u.devTime d + 100 * Config.tUs ≤ a.due → u.ackTwin d a = false →
    u.flag d RFT_CTRL_enable = true →
    exec (.releaseMessage d) s = .next (s.settle (u.setTxq d ((u.rad d).txq ++
      [{ kind := .ack, start := a.due, dur := a.dur, lo := a.lo, hi := a.hi, bytes := a.bytes, tt := a.tt, lastBit := a.lastBit,
         identity := a.identity, follow := a.follow, mode := a.mode, centre := a.centre }]))))
  ∧ (∀ (s : State) (d : Nat) (a : AckWait) (rest : List AckWait), s.isF d = true →
    takeFirst (fun a : AckWait => !a.wmb && decide (a.due ≤ s.devTime d)) (s.rad d).acks = some (a, rest) →
    exec (.ackDue d) s = .next (s.settle
      ((((s.setRad d { s.rad d with acks := rest }).inc d TT_ACK_LATE_CNT).raiseLim d 46 (arg 0 a.tt)).dlDone a.follow 0x0503 0 1)))
  ∧ (∀ (s : State) (d : Nat) (a : AckWait) (rest : List AckWait), s.isF d = true →
    takeFirst (fun a : AckWait => a.wmb && decide (a.due ≤ s.devTime d)) (s.rad d).acks = some (a, rest) →
    exec (.wmbResponseDue d) s = .next (s.settle
      ((((s.setRad d { s.rad d with acks := rest }).inc d WMB_RESP_LATE_CNT).raiseLim d 49 0).dlDone a.follow 0x0503 0 1)))
  ∧ (∀ (s t : State) (d : Nat) (p : FollowPend) (rest : List FollowPend), s.isF d = true → (s.rad d).follows = p :: rest →
    t = s.setRad d { s.rad d with follows := rest } → t.flag d RFT_CTRL_enable = true →
    exec (.downlinkFollowSend d) s = .next (s.settle (t.setTxq d ((t.rad d).txq ++
      [{ kind := .downlink, start := p.start, dur := sunTicks p.mode p.fec (p.dl.bytes.length + 2),
         lo := p.centre - txBand p.mode / 2, hi := p.centre + (txBand p.mode + 1) / 2,
         bytes := airFrame p.mode p.dl.bytes, dl := some p.dl, mode := p.mode, centre := p.centre }]))))
  ∧ (∀ (s : State) (d h t : Nat) (e : Hold), s.isF d = true → s.holdAt d h = some e → e.lastBit = some t → e.verdict = none →
    e.noOwnerSince = none → t + 1010 * Config.tMs ≤ s.devTime d →
    exec (.holdTimeout d h) s = .next (s.settle
      (((s.freeFrame d h e.ctx).raise d 64 (arg 0 1)).plcDrained d)))
  ∧ (∀ (s : State) (d t h : Nat) (e : Hold), s.isF d = true → (s.rad d).hold = [(h, e)] → e.noOwnerSince = some t →
    s.due (t + Config.tS) = true →
    exec (.holdNoOwnerTimeout d) s = .next (s.settle
      (((s.freeFrame d h e.ctx).raise d 64 (arg 0 1)).plcDrained d)))
  ∧ (∀ (s : State) (d : Nat) (m : Nat × List (Nat × Nat)) (rest : List (Nat × List (Nat × Nat))), s.isF d = true →
    takeFirst (fun m : Nat × List (Nat × Nat) => m.1 == d) s.partPub = some (m, rest) →
    exec (.partitionTablePublish d) s = .next (s.settle (
      let s1 : State := { s with partPub := rest }
      (s1.setRad d { s1.rad d with part := m.2 }).replayAll d)))

/-- Timetables and campaigns on an F-die. A timetable that is not running and whose configuration is valid runs, knows since when, and
its parameters are published. Disabling a running one drops its bells and blocks that have not begun to settle, ends its campaign and
publishes that it has stopped. A superframe not seen yet, announced as early as `bellAhead` (the model's reading, assumption log 64), is
noted; in a timetable that does not follow and has its key, its bell is built and goes to the transmitter, for which the key counts one
use. A campaign starts from position 0 where its timetable runs, does not follow and has its broadcast key. An abort ends it at once
when no block is under way, and is noted when one is. A campaign with a block left sends it in its broadcast slots, where it fits. -/
def Obligations.TimetablesComplete : Prop :=
  (∀ (s t : State) (d n : Nat) (follow : Bool), s.isF d = true → s.domOn d 6 = true → n < 8 → s.flag d TT_n_STAT_running n = false →
    (s.putB d TT_n_CTRL_follow follow n).ttOk d n = true →
    t = ((s.putB d TT_n_CTRL_follow follow n).putB d TT_n_CTRL_enable true n).putB d TT_n_STAT_running true n →
    exec (.ttEnable d n follow) s = .next (s.settle (
      let s2 := (t.putB d TT_n_STAT_cfg_error false n).putB d TT_n_STAT_no_key (t.ttNoKey d n) n
      let s3 := s2.put d TT_STAT_running (s2.get d TT_STAT_running ||| 2 ^ n)
      (s3.setRad d { s3.rad d with sfSeen := smDel (s3.rad d).sfSeen n,
                                   ttSince := smPut (s3.rad d).ttSince n (s3.devTime d) }).ttPublish d n true)))
  ∧ (∀ (s : State) (d n : Nat), s.isF d = true → n < 8 → s.flag d TT_n_STAT_running n = true →
    exec (.ttDisable d n) s = .next (s.settle (
      let s1 := (s.putB d TT_n_CTRL_enable false n).putB d TT_n_STAT_running false n
      let s2 := s1.put d TT_STAT_running
        (s1.get d TT_STAT_running - (if bit (s1.get d TT_STAT_running) n then 2 ^ n else 0))
      let s3 := s2.setTxq d ((s2.rad d).txq.filter (fun f =>
        !((f.kind == .bell || f.kind == .broadcast) && f.tt == n && (f.stage == .queued || f.stage == .handed))))
      (if s3.flag d TT_CAMP_PROG_running && s3.get d TT_CAMP_CFG_tt == n then s3.campEnd d else s3).ttPublish d n false)))
  ∧ (∀ (s t u v : State) (d n k m c : Nat) (x : Slot) (p : TtParams), s.isF d = true → n < 8 → s.flag d TT_n_STAT_running n = true →
    s.ttParams d n true = p → p.sf (s.devTime d + s.bellAhead d) = some k → smGet (s.rad d).sfSeen n ≠ some k → p.follow = false →
    t = s.setRad d { s.rad d with sfSeen := smPut (s.rad d).sfSeen n k } →
    u = (t.put d TT_n_SF_superframe k n).putB d TT_n_STAT_no_key (t.ttNoKey d n) n → smGetD (u.rad d).bellFrom 0 n ≤ p.sfStart k →
    u.sealCheck d (16 + n) = .inr x → u.slotSun d p.chan = some m → v = u.keyUsed d (16 + n) x → (v.slotCentre d p.chan).toNat = c →
    exec (.superframeStart d n) s = .next (s.settle (v.txEnqueue d
      { kind := .bell, start := p.sfStart k + p.txLead * Config.tUs - sunLead m - v.ramp d,
        dur := sunTicks m (v.flag d TT_n_CHAN_bell_fec n) bellPsdu, lo := c - txBand m / 2, hi := c + (txBand m + 1) / 2,
        bytes := v.bellFrame d n k (p.sfStart k + p.txLead * Config.tUs) x.key, tt := n, mode := m, centre := c })))
  ∧ (∀ (s : State) (d : Nat), s.isF d = true → s.flag d TT_CAMP_PROG_running = false →
    s.flag d TT_n_STAT_running (s.get d TT_CAMP_CFG_tt) = true → s.flag d TT_n_CTRL_follow (s.get d TT_CAMP_CFG_tt) = false →
    (s.lockKey d (24 + s.get d TT_CAMP_CFG_tt)).isNone = false →
    exec (.campStart d) s = .next (s.settle (
      let s1 := (((((s.putB d TT_CAMP_PROG_running true).putB d TT_CAMP_PROG_done false).put d TT_CAMP_PROG_error 0).put d
        TT_CAMP_PROG_percent 0).put d TT_CAMP_POS_block 0).put d TT_CAMP_POS_round 0
      s1.setRad d { s1.rad d with campaign := { (s1.rad d).campaign with abort := false, sent := 0, lastEnd := 0 } })))
  ∧ (∀ (s : State) (d : Nat), s.isF d = true → s.flag d TT_CAMP_PROG_running = true →
    (s.rad d).txq.any (fun f => f.kind == .broadcast) = false →
    exec (.campAbort d) s = .next (s.settle (s.campEnd d)))
  ∧ (∀ (s : State) (d : Nat), s.isF d = true → s.flag d TT_CAMP_PROG_running = true →
    (s.rad d).txq.any (fun f => f.kind == .broadcast) = true →
    exec (.campAbort d) s = .next (s.settle
      (s.setRad d { s.rad d with campaign := { (s.rad d).campaign with abort := true } })))
  ∧ (∀ (s t : State) (d n k m c slot first dur start : Nat) (b : Bytes) (x : Slot) (p : TtParams), s.isF d = true →
    s.flag d TT_CAMP_PROG_running = true → s.get d TT_CAMP_CFG_tt = n → s.ttParams d n true = p → p.bcCount ≠ 0 →
    s.get d TT_CAMP_BLOCKS_blocks ≠ 0 → (s.rad d).campaign.abort = false →
    (s.rad d).txq.any (fun f => f.kind == .broadcast) = false → p.sf (s.devTime d) = some k → s.sealCheck d (24 + n) = .inr x →
    s.slotSun d p.chan = some m → slot = p.slotLen * 100 * Config.tUs → first = p.sfStart k + p.bcFirst * slot →
    b = s.blockFrame d n (smGetD (s.rad d).campaign.counters 0 n) x.key (s.campImage d) →
    dur = sunTicks m (s.flag d TT_n_CHAN_bell_fec n) b.length →
    start = max (max first ((s.rad d).campaign.lastEnd + 1000 * Config.tUs)) (s.devTime d + 100 * Config.tUs) →
    c = (s.slotCentre d p.chan).toNat → start + dur + 2 * s.ramp d ≤ first + p.bcCount * slot → first ≤ s.devTime d + slot →
    t = s.keyUsed d (24 + n) x →
    exec (.broadcastBlock d n) s = .next (s.settle (t.txEnqueue d
      { kind := .broadcast, start := start, dur := dur, lo := c - txBand m / 2, hi := c + (txBand m + 1) / 2, bytes := b, tt := n,
        mode := m, centre := c })))

/-! ### Power line (04_powerline) -/

/-- The power-line rows of transmission on an F-die. An Idle modem whose short address no other enabled modem of its PAN has is enabled and
runs (state 1). A running one without a frame in hand is disabled, drains (state 2), returns the waiting downlinks with status 0x0605, and
is Idle at once where no work is left. A due acknowledgement goes on the line while nothing is on it and nothing is received. A frame
whose back-off has ended on an idle channel, with no acknowledgement owed, goes on the line, secured where it names a group key, or ends
with status 0x0604 where it does not fit; on a busy channel it draws a further back-off, or ends with status 0x0602 after the last. The end of a unicast frame that asks for an acknowledgement starts its wait,
and the end of an acknowledgement counts it. A frame whose acknowledgement did not come contends again with its retry counted, and ends
with status 0x0603 after the last. -/
def Obligations.PlcTransmitCompletes : Prop :=
  (∀ (s : State) (d : Nat), s.isF d = true → s.domOn d 12 = true → s.domOn d 13 = true → s.get d PLC_STAT_state = 0 →
    ((List.range s.nDies).any (fun o => s.isF o && o != d && s.flag o PLC_CTRL_enable
      && s.get o PLC_ADDR_pan == s.get d PLC_ADDR_pan && s.get o PLC_ADDR_short == s.get d PLC_ADDR_short)) = false →
    exec (.plcEnable d) s = .next (s.settle
      (((s.putB d PLC_CTRL_enable true).put d PLC_STAT_state 1).putB d PLC_STAT_cfg_error false)))
  ∧ (∀ (s t : State) (d : Nat), s.isF d = true → (s.putB d PLC_CTRL_enable false).get d PLC_STAT_state = 1 →
    t = (s.putB d PLC_CTRL_enable false).put d PLC_STAT_state 2 → (t.plc d).cur = none →
    exec (.plcDisable d) s = .next (s.settle (
      ((t.plc d).queue.foldl (fun (s : State) x => s.plcDone x.dl 0x0605 0 0)
        (t.setPlc d { t.plc d with queue := [], cur := none })).plcDrained d)))
  ∧ (∀ (s : State) (d : Nat) (a : PlcAck) (r : List PlcAck), s.isF d = true → s.stopped d = false → (s.plc d).ackOn = false →
    (s.plc d).cur = none → (s.plc d).rx = [] → (s.plc d).acks = a :: r → a.due ≤ s.devTime d →
    exec (.plcAckSend d) s = .next (s.settle
      (s.setPlc d { s.plc d with acks := r, ackOn := true, phy := some (s.plcPhy d none (s.devTime d)) })))
  ∧ (∀ (s : State) (d : Nat) (t : PlcTx), s.isF d = true → s.stopped d = false → (s.plc d).cur = some t → t.stage = .contending →
    t.readyAt ≤ s.devTime d → (s.plc d).rx = [] → (s.plc d).acks = [] → (s.plc d).ackOn = false → t.gmk = none →
    exec (.plcBackoffEnd d true false) s = .next (s.settle (if s.plcFits d t then s.plcStart d t t.bytes else s.plcEnd d t 0x0604)))
  ∧ (∀ (s u : State) (d k : Nat) (t : PlcTx) (b : Bytes), s.isF d = true → s.stopped d = false → (s.plc d).cur = some t →
    t.stage = .contending → t.readyAt ≤ s.devTime d → (s.plc d).rx = [] → (s.plc d).acks = [] → (s.plc d).ackOn = false →
    t.gmk = some k → s.plcSecure d k t.bytes = (.inr b, u) →
    exec (.plcBackoffEnd d true false) s = .next (s.settle (if s.plcFits d t then u.plcStart d t b else s.plcEnd d t 0x0604)))
  ∧ (∀ (s u : State) (d k st : Nat) (t : PlcTx), s.isF d = true → s.stopped d = false → (s.plc d).cur = some t →
    t.stage = .contending → t.readyAt ≤ s.devTime d → (s.plc d).rx = [] → (s.plc d).acks = [] → (s.plc d).ackOn = false →
    t.gmk = some k → s.plcSecure d k t.bytes = (.inl st, u) →
    exec (.plcBackoffEnd d true false) s = .next (s.settle (if s.plcFits d t then u.plcEnd d t st else s.plcEnd d t 0x0604)))
  ∧ (∀ (s : State) (d : Nat) (t : PlcTx) (idle reserved : Bool), s.isF d = true → s.stopped d = false → (s.plc d).cur = some t →
    t.stage = .contending → t.readyAt ≤ s.devTime d →
    (idle = false ∨ reserved = true ∨ (s.plc d).rx ≠ [] ∨ (s.plc d).acks ≠ [] ∨ (s.plc d).ackOn = true) →
    (t.nb < s.get d PLC_CSMA_max_backoffs → exec (.plcBackoffEnd d idle reserved) s = .next (s.settle
      (s.plcDraw d { t with nb := t.nb + 1, be := min (t.be + 1) (s.get d PLC_CSMA_max_be) })))
    ∧ (s.get d PLC_CSMA_max_backoffs ≤ t.nb → exec (.plcBackoffEnd d idle reserved) s = .next (s.settle
      ((s.inc d PLC_CSMA_FAIL_CNT).plcEnd d t 0x0602))))
  ∧ (∀ (s t u : State) (d : Nat) (n : Option Nat) (x : PlcTx), s.isF d = true →
    t = s.setPlc d { s.plc d with driveTill := s.devTime d + 20 * Config.tUs } → (t.plc d).ackOn = false →
    (t.plc d).cur = some x → x.stage = .onLine → plcUnicast x.bytes = some (n, true) → u = t.inc d PLC_TX_CNT →
    exec (.plcTxEnd d) s = .next (s.settle
      (u.setPlc d { u.plc d with cur := some { x with stage := .ackWait, stop := u.devTime d } })))
  ∧ (∀ (s t : State) (d : Nat), s.isF d = true → t = s.setPlc d { s.plc d with driveTill := s.devTime d + 20 * Config.tUs } →
    (t.plc d).ackOn = true →
    exec (.plcTxEnd d) s = .next (s.settle
      ((((t.setPlc d { t.plc d with ackOn := false }).inc d PLC_TX_CNT).inc d PLC_ACK_TX_CNT).plcDrained d)))
  ∧ (∀ (s : State) (d : Nat) (x : PlcTx), s.isF d = true → (s.plc d).cur = some x → x.stage = .ackWait →
    x.stop + s.get d PLC_TIMING_ack_wait * Config.tUs ≤ s.devTime d → x.retries < min 10 (s.get d PLC_CSMA_max_retries) →
    exec (.plcAckWaitTimeout d) s = .next (s.settle
      ((s.plcDraw d { x with stage := .contending, retries := x.retries + 1, nb := 0, be := s.get d PLC_CSMA_min_be }).plcNext d)))
  ∧ (∀ (s : State) (d : Nat) (x : PlcTx), s.isF d = true → (s.plc d).cur = some x → x.stage = .ackWait →
    x.stop + s.get d PLC_TIMING_ack_wait * Config.tUs ≤ s.devTime d → min 10 (s.get d PLC_CSMA_max_retries) ≤ x.retries →
    exec (.plcAckWaitTimeout d) s = .next (s.settle ((s.inc d PLC_NOACK_CNT).plcEnd d x 0x0603)))

/-- The power-line rows of reception and of the mains. A detected preamble takes one of the four buffers and a hold entry, with the mains
edge before it. A metering frame from an extended address, with a right check sequence and no acknowledgement asked, counts PLC_RX_CNT and
is handed off with its phase; an acknowledgement of the frame in hand ends that frame with status 0. A verdict at the F-die is
latched for a radio frame, and frees the hold entry of a power-line frame. Tone maps not heard for PLC_TM.expire minutes leave the
table. The high word of a short address takes effect with its low word. The first edge of the mains stores its time; a later one while
zc_ok, at a frequency in range, stores time, period and frequency. Two and a half periods without an edge end zc_ok. -/
def Obligations.PlcReceptionCompletes : Prop :=
  (∀ (s t : State) (d rssi n h : Nat) (r : PlcRx), s.isF d = true → s.get d PLC_STAT_state = 1 → firstFree (s.plc d).rx 4 0 = some n →
    firstFree (s.rad d).hold holdEntries 0 = some h →
    r = { hold := h, pre := s.devTime d, rssi := rssi,
          zc := (s.plc d).edges.find? (fun e => decide (e + s.plcPreamble d ≤ s.devTime d)), period := zcPeriod (s.plc d).edges } →
    t = s.setPlc d { s.plc d with rx := smPut (s.plc d).rx n r } →
    exec (.plcPreambleDetect d rssi) s = .next (s.settle ((t.setHold d h { ctx := 0x80 + n, plc := true }).holdWatch d)))
  ∧ (∀ (s t : State) (d n dt pdc modulation endAt : Nat) (b id pl src : Bytes) (meshed : Bool) (m : PlcMeas) (r : PlcRx) (h : Mhr),
    s.isF d = true → smGet (s.plc d).rx n = some r → dt < 2 → s.erased d m = 0 → 5 ≤ b.length →
    fcs16 (b.take (b.length - 2)) = leNat (b.drop (b.length - 2)) → parseMhr ((b.take (b.length - 2)).drop 3) = some h →
    h.ackRequest = false → h.srcMode = 3 →
    t = ((s.inc d PLC_RX_CNT).plcPayload d ((b.take (b.length - 2)).drop 3) h).2 →
    t.plcClassify d (b.take (b.length - 2)) ((b.take (b.length - 2)).drop 3) h
      ((s.inc d PLC_RX_CNT).plcPayload d ((b.take (b.length - 2)).drop 3) h).1 = .metering id pl src meshed →
    exec (.plcFrameDecoded d n dt b pdc modulation endAt m) s = .next (s.settle
      (t.plcHandOff d n r id pl src meshed m modulation (t.plcPhase d r (r.pre - t.plcPreamble d) pdc meshed).1
        (t.plcPhase d r (r.pre - t.plcPreamble d) pdc meshed).2)))
  ∧ (∀ (s t : State) (d n pdc modulation endAt : Nat) (b : Bytes) (m : PlcMeas) (r : PlcRx) (x : PlcTx), s.isF d = true →
    smGet (s.plc d).rx n = some r → t = s.plcDiscard d n r.hold → (t.plc d).cur = some x → x.stage = .ackWait →
    leField b 0 2 = fcs16 x.bytes →
    exec (.plcFrameDecoded d n 2 b pdc modulation endAt m) s = .next (s.settle (t.plcEnd d x 0)))
  ∧ (∀ (s t : State) (d : Nat) (ack : Bytes) (v : Verdict) (co unprot : Bool) (e : Bool) (follow : Option Dl) (m : BackMsg) (rest : List BackMsg),
    s.isF d = true → takeFirst (isVerdictTo d) s.back = some (m, rest) → m.body = .verdict v co unprot e ack follow → m.ctx < 128 →
    t = { s with back := rest } →
    exec (.verdictMessage d) s = .next (s.settle (t.latchVerdict d m.ctx m.hold v co unprot ack follow)))
  ∧ (∀ (s t : State) (d : Nat) (ack : Bytes) (v : Verdict) (co unprot : Bool) (e : Bool) (m : BackMsg) (rest : List BackMsg),
    s.isF d = true → takeFirst (isVerdictTo d) s.back = some (m, rest) → m.body = .verdict v co unprot e ack none → 128 ≤ m.ctx →
    t = { s with back := rest } →
    exec (.verdictMessage d) s = .next (s.settle ((t.freeHold d m.hold).plcDrained d)))
  ∧ (∀ (s : State) (d : Nat), s.isF d = true →
    exec (.toneMapExpiry d) s = .next (s.settle (s.setPlc d { s.plc d with
      tones := (s.plc d).tones.filter (fun x => decide (s.secsSince x.2.heardAt ≤ 60 * s.get d PLC_TM_expire)) })))
  ∧ (∀ (s : State) (d a hi : Nat), s.isF d = true → a < 8192 →
    exec (.shortAddrHighWrite d a hi) s = .next (s.settle (s.setPlc d { s.plc d with
      shorts := smSet (s.plc d).shorts (fillBytes 8 0) a (leBytes 4 (smGetD (s.plc d).lows 0 a) ++ leBytes 4 hi) })))
  ∧ (∀ (s t u : State) (d : Nat), s.isF d = true → (s.plc d).edges = [] →
    t = s.setPlc d { s.plc d with edges := [s.devTime d], zcRun := 0,
                                  zcOkAt := if s.flag d PLC_STAT_zc_ok then (s.plc d).zcOkAt else s.now } →
    u = (t.put2 d PLC_ZC_TIME_LO_zc_lo PLC_ZC_TIME_HI_zc_hi (s.devTime d)).put d PLC_ZC_PERIOD_period (min (zcPeriod [s.devTime d]) 0xFFFFFF) →
    u.flag d PLC_STAT_zc_ok = false →
    exec (.zcEdge d) s = .next (s.settle u))
  ∧ (∀ (s t u : State) (d last per run : Nat), s.isF d = true → (s.plc d).edges.head? = some last →
    ¬ (zcPeriod (s.plc d).edges ≠ 0 ∧ (s.devTime d - last) * 100 < zcPeriod (s.plc d).edges * 40) →
    per = zcPeriod (s.devTime d :: (s.plc d).edges.take 8) →
    run = (if zcInRange (zcFreq (s.devTime d - last)) then (s.plc d).zcRun + 1 else 0) →
    t = s.setPlc d { s.plc d with edges := s.devTime d :: (s.plc d).edges.take 8, zcRun := min run 8,
                                  zcOkAt := if s.flag d PLC_STAT_zc_ok then (s.plc d).zcOkAt else s.now } →
    u = (t.put2 d PLC_ZC_TIME_LO_zc_lo PLC_ZC_TIME_HI_zc_hi (s.devTime d)).put d PLC_ZC_PERIOD_period (min per 0xFFFFFF) →
    u.flag d PLC_STAT_zc_ok = true → zcInRange (zcFreq per) = true →
    exec (.zcEdge d) s = .next (s.settle (u.put d PLC_FREQ_freq (min (zcFreq per) 65535))))
  ∧ (∀ (s : State) (d t : Nat), s.isF d = true → s.flag d PLC_STAT_zc_ok = true → (s.plc d).edges.head? = some t →
    zcPeriod (s.plc d).edges * 5 ≤ (s.devTime d - t) * 2 →
    exec (.zcLoss d) s = .next (s.settle (s.zcLost d)))

/-! ### The Locker (05_locker_security) -/

/-- The Locker rows, on a die whose fuses are good for the commands. A zeroise request and an integrity fault zeroise the die
(ZeroiseClearsTheKeys says what that clears). A mark 4 to 7 that is not locked is extended with LOCK_EXT_DATA. LOCK_MARK_LOCK gains the bits
written. A package opened by slot 4 is imported into a general slot, unbound and not exportable. An exportable slot is exported
under an AES-256 wrap key to host memory. A key derived from a parent other than slot 0 fills a general slot, its algorithm and usage free
values, which the operands do not give. A random key fills a general slot. A general slot is cleared. A signer attests the lifecycle. A
Factory die advances to Owned: the owner's hash is added to its fuses. Each command completes with status 0. -/
def Obligations.LockerCompletes : Prop :=
  (∀ (s : State) (d : Nat), d < s.nDies → exec (.lockZeroise d) s = .next (s.settle (s.zeroise d)))
  ∧ (∀ (s : State) (d : Nat), d < s.nDies → exec (.integrityFault d) s = .next (s.settle (s.zeroise d)))
  ∧ (∀ (s t u : State) (d m : Nat), d < s.nDies → 4 ≤ m → m < 8 → t = s.put d LOCK_EXT_CTRL_mark m →
    s.flag d LOCK_STAT_fuse_error = false → u = t.put d LOCK_EXT_CTRL_error 0 → u.flag d LOCK_STAT_fuse_error = false →
    bit (u.get d LOCK_MARK_LOCK_lock) m = false →
    exec (.markExtend d m) s = .next (s.settle (u.setLock d { u.lock d with
      marks := smSet (u.lock d).marks (fillBytes 32 0) m (sha256 (u.mark d m ++ slice (s.extData d) 0 32)) })))
  ∧ (∀ (s : State) (d mask : Nat), d < s.nDies →
    exec (.markLock d mask) s = .next (s.settle (s.put d LOCK_MARK_LOCK_lock (s.get d LOCK_MARK_LOCK_lock ||| mask % 256))))
  ∧ (∀ (s t : State) (d n : Nat) (pkg p : Bytes) (c : Cmd) (x y : Slot), d < s.nDies → s.nextCmd d 0x20 = some c → s.flag d LOCK_STAT_fuse_error = false → c.op 26 2 = n →
    64 ≤ n → n < 512 → s.keyCheck d 4 useUnwrap = .inr x → s.openPackage d x (slice pkg 0 (c.op 24 2)) = some p →
    y = slotOfBytes p 2 → y.key.length = keyLen y.alg → y.exportable = false →
    t = (s.keyUsed d 4 x).setSlot d n { y with lcBound := false, markMask := 0 } →
    exec (.importKey d pkg) s = .next (s.settle (t.complete c.id 0)))
  ∧ (∀ (s t : State) (d n w : Nat) (c : Cmd) (x k : Slot) (nonce b : Bytes), d < s.nDies → s.nextCmd d 0x22 = some c → s.flag d LOCK_STAT_fuse_error = false → c.op 16 2 = n →
    c.op 18 2 = w → s.slot d n = some x → x.exportable = true → s.keyCheck d w useWrap = .inr k → k.alg = 1 →
    s.randomBytes 12 = (nonce, t) → b = nonce ++ gcmSeal k.key nonce [] (leBytes 4 x.attr ++ leBytes 4 x.uses ++ x.key) →
    exec (.exportKey d) s = .next (s.settle (((t.keyUsed d w k).toHost c.port (c.op 24 8) b).complete c.id 0 (leBytes 2 b.length))))
  ∧ (∀ (s t u : State) (d n alg usage : Nat) (src : Bytes) (c : Cmd) (k : Slot), d < s.nDies → s.nextCmd d 0x23 = some c → s.flag d LOCK_STAT_fuse_error = false →
    c.op 16 2 = n → 64 ≤ c.op 18 2 → c.op 18 2 < 512 → c.op 22 1 ≤ 64 → s.parentKey d n = .inr k → n ≠ 0 →
    s.freeBelow 5 = (alg, t) → t.freeBelow 256 = (usage, u) →
    exec (.deriveKey d src) s = .next (s.settle (((u.keyUsed d n k).setSlot d (c.op 18 2)
      { alg := alg, usage := usage, origin := 0, lcBound := bit (c.op 21 1) 0, markMask := c.op 20 1,
        key := (kdf k.key (s.kdfInput d (slice src 0 16) (slice src 16 (c.op 22 1)) (c.op 20 1) (bit (c.op 21 1) 0))).take
          (keyLen alg) }).complete c.id 0)))
  ∧ (∀ (s t : State) (d n alg : Nat) (key : Bytes) (c : Cmd), d < s.nDies → s.nextCmd d 0x24 = some c → s.flag d LOCK_STAT_fuse_error = false → c.op 16 2 = n → 64 ≤ n →
    n < 512 → c.op 18 1 = alg → alg ≤ 4 → s.lockPermits d = true → bit (c.op 20 1) 0 = false → s.randomBytes (keyLen alg) = (key, t) →
    exec (.generateKey d) s = .next (s.settle (((t.inc d LOCK_OP_CNT).setSlot d n
      { alg := alg, usage := c.op 19 1, origin := 1, exportable := false, resetExpiry := bit (c.op 20 1) 1, uses := c.op 24 4,
        key := key }).complete c.id 0)))
  ∧ (∀ (s : State) (d n : Nat) (c : Cmd), d < s.nDies → s.nextCmd d 0x25 = some c → s.flag d LOCK_STAT_fuse_error = false → c.op 16 2 = n → 64 ≤ n → n < 512 →
    s.lockPermits d = true →
    exec (.clearSlot d) s = .next (s.settle ((s.clearSlot d n).complete c.id 0)))
  ∧ (∀ (s : State) (d : Nat) (nonce : Bytes) (c : Cmd), d < s.nDies → s.nextCmd d 0x26 = some c → s.flag d LOCK_STAT_fuse_error = false → c.op 16 1 = 2 → (s.lock d).lc = 2 →
    exec (.attest d nonce) s = .next (s.settle (s.attestWith d c nonce {})))
  ∧ (∀ (s : State) (d : Nat) (hash : Bytes) (c : Cmd), d < s.nDies → s.nextCmd d 0x29 = some c → s.flag d LOCK_STAT_fuse_error = false → c.op 16 1 = 1 →
    Lock.lifecycleOf (s.lock d).fuses = 0 →
    exec (.lifecycleAdvance d hash true) s = .next (s.settle
      (((s.setLock d { s.lock d with fuses := { (s.lock d).fuses with
          ownerHash := List.zipWith (· ||| ·) (s.lock d).fuses.ownerHash (slice hash 0 32),
          lifecycle := (s.lock d).fuses.lifecycle ||| 0x03 } }).putB d LOCK_STAT_lc_pending true).complete c.id 0)))

/-! ### Meter keys and the admission of frames (05_locker_security) -/

/-- The key rows on an L-die. SEC is enabled and runs once slot 1 holds the master key. The key cache empties. A key that has been retiring
for retire_hold hours leaves the spare position. A key staged for stage_max days is marked stale, with source 36. A first meter key, opened
by slot 4, is wrapped under slot 1 into the link position of a meter without keys: state Provisional, the next generation, which
the completion carries. A staged key is cancelled and the meter Stable again. A rotation of 1 to 1,048,576 meters from a valid handle starts
as a long operation while none runs. The summary of unknown identities goes to host memory, with their number in the completion, and is
emptied where the command asks for it. -/
def Obligations.MeterKeysComplete : Prop :=
  (∀ (s : State) (d : Nat) (x : Slot), s.isL d = true → s.domOn d 3 = true → s.slot d 1 = some x →
    exec (.secEnable d) s = .next (s.settle ((s.putB d SEC_CTRL_enable true).putB d SEC_STAT_running true)))
  ∧ (∀ (s : State) (d : Nat), s.isL d = true →
    exec (.cacheFlush d) s = .next (s.settle (s.setSec d { s.sec d with cache := [] })))
  ∧ (∀ (s t : State) (d slot : Nat) (m m' : MRec), s.isL d = true →
    s.findRec d (fun m => m.g rKeyState == 4 && decide (m.commitAt + max 1 (s.get d SEC_ROT_CFG_retire_hold) * 360000000000 ≤ s.devTime d))
      = some (slot, m) → s.dropSpare d slot m = (t, m') →
    exec (.retireHoldExpiry d) s = .next (s.settle ((t.update d slot m').mirSend d)))
  ∧ (∀ (s : State) (d slot : Nat) (m : MRec), s.isL d = true → s.get d SEC_ROT_CFG_stage_max ≠ 0 →
    s.findRec d (fun m => m.g rKeyState == 3 && !m.stale
      && decide (m.g rStageTime + s.get d SEC_ROT_CFG_stage_max * 8640000000000 ≤ s.devTime d)) = some (slot, m) →
    exec (.stagedKeyStale d) s = .next (s.settle
      ((s.raiseM d slot 36).setRecs d (smPut (s.l d).recs slot { m with stale := true }))))
  ∧ (∀ (s t u v : State) (d gen : Nat) (pkg p wk : Bytes) (c : Cmd) (m m' : MRec) (x k1 y : Slot), s.isL d = true →
    s.flag d LOCK_STAT_fuse_error = false → s.nextCmd d 0x21 = some c → s.recWaits d c = false → s.arcFull d = false →
    s.fetch d c.slot = (some m, t) → t.current d c.slot m = (u, m') → m'.g rState ≠ 0 →
    c.op 26 1 = 0 → m'.bit rSecFlags 1 = false → m'.g rKeyState = 0 → u.keyCheck d 4 useUnwrap = .inr x →
    u.keyCheck d 1 useWrap = .inr k1 → u.openPackage d x (slice pkg 0 (c.op 24 2)) = some p → y = slotOfBytes p 2 → y.alg = 0 →
    y.key.length = 16 → gen = m'.g rLinkGen + 1 →
    ((u.keyUsed d 4 x).useSlot1 d 1).wrapKey k1.key 1 2 (m'.g rSuite) (m'.gb rIdentity) gen y.key = (wk, v) →
    exec (.importMeterKey d pkg) s = .next (s.settle
      ((((v.setWrapped d c.slot (wk, wkEmpty)).update d c.slot
        ((((m'.p rLinkGen gen).p rSpareGen 0).pbit rSecFlags 1 false).p rKeyState 1)).complete c.id 0 (leBytes 4 gen)).mirSend d)))
  ∧ (∀ (s t u v : State) (d : Nat) (c : Cmd) (m m' m'' : MRec), s.isL d = true → s.nextCmd d 0x28 = some c →
    s.recWaits d c = false → s.arcFull d = false → s.fetch d c.slot = (some m, t) → t.current d c.slot m = (u, m') → m'.g rState ≠ 0 → m'.g rKeyState = 3 →
    u.dropSpare d c.slot m' = (v, m'') →
    exec (.cancelStage d) s = .next (s.settle (((v.update d c.slot m'').complete c.id 0).mirSend d)))
  ∧ (∀ (s : State) (d : Nat) (c : Cmd), s.isL d = true → s.nextCmd d 0x27 = some c → s.longOp d 0x27 = none →
    s.handleOk (c.op 16 4) = true → c.op 20 4 ≠ 0 → c.op 20 4 ≤ 1048576 →
    exec (.rotate d) s = .next (s.settle
      (((((s.put d SEC_ROT_PROG_percent 0).putB d SEC_ROT_PROG_running true).putB d SEC_ROT_PROG_done false).put d
        SEC_ROT_PROG_error 0).startLong { cmd := c.id, die := d, opcode := 0x27, first := c.op 16 4, stop := c.op 20 4 })))
  ∧ (∀ (s : State) (d : Nat) (c : Cmd), s.isL d = true → s.nextCmd d 0x2A = some c → bit (c.op 24 1) 0 = false →
    exec (.readUnknownSummary d) s = .next (s.settle
      ((s.toHost c.port (c.op 16 8) ((s.sec d).unknowns.flatMap unknownBytes)).complete c.id 0
        (leBytes 2 (s.sec d).unknowns.length))))
  ∧ (∀ (s t : State) (d : Nat) (c : Cmd), s.isL d = true → s.nextCmd d 0x2A = some c → bit (c.op 24 1) 0 = true →
    t = s.toHost c.port (c.op 16 8) ((s.sec d).unknowns.flatMap unknownBytes) →
    exec (.readUnknownSummary d) s = .next (s.settle
      ((t.setSec d { t.sec d with unknowns := [] }).complete c.id 0 (leBytes 2 (s.sec d).unknowns.length))))

/-- The hand-off rows on an L-die. A header takes the timetable parameters that its F-die has published and opens a frame; data and
rewrites put their bytes at their offset; a trailer, with its last run, lets what can be decided be decided; an abort forgets the frame and
does the same. The first frame whose prefetch can complete becomes ready with its record slot, and so does a submission. A frame undecided
one second after its last bit is dropped, counts SEC_LATE_CNT and raises source 34 unless that was raised within the second. A submission
arrives from its ring and its prefetch completes. -/
def Obligations.FrameHandoffCompletes : Prop :=
  (∀ (s t : State) (d : Nat) (h : Header) (m : HandMsg) (rest : List HandMsg), s.isL d = true →
    takeHand d HandBody.isHeader [] s.hand = some (m, rest) → m.body = .header h →
    t = ({ s with hand := rest } : State).drainParams d m.src →
    exec (.headerMessage d) s = .next (s.settle (t.setSec d { t.sec d with frames := (t.sec d).frames ++
      [{ src := m.src, ctx := m.ctx, hold := m.hold, header := h, headerAt := t.devTime d }] })))
  ∧ (∀ (s : State) (d off : Nat) (b : Bytes) (m : HandMsg) (rest : List HandMsg), s.isL d = true →
    takeHand d HandBody.isData [] s.hand = some (m, rest) → m.body = .data off b →
    exec (.dataMessage d) s = .next (s.settle
      (({ s with hand := rest } : State).setFrame d m (fun x => { x with bytes := putRun x.bytes off b }))))
  ∧ (∀ (s : State) (d off : Nat) (b : Bytes) (m : HandMsg) (rest : List HandMsg), s.isL d = true →
    takeHand d HandBody.isRewrite [] s.hand = some (m, rest) → m.body = .rewrite off b →
    exec (.rewriteMessage d) s = .next (s.settle
      (({ s with hand := rest } : State).setFrame d m (fun x => { x with bytes := putRun x.bytes off b }))))
  ∧ (∀ (s : State) (d off : Nat) (b : Bytes) (t : Trailer) (m : HandMsg) (rest : List HandMsg), s.isL d = true →
    takeHand d HandBody.isTrailer [] s.hand = some (m, rest) → m.body = .trailer t off b →
    exec (.trailerMessage d) s = .next (s.settle
      (((({ s with hand := rest } : State).drainParams d m.src).setFrame d m (fun x => { x with
        trailer := some t, bytes := if b.isEmpty then x.bytes else putRun x.bytes off b })).decideReady d)))
  ∧ (∀ (s t : State) (d : Nat) (m : HandMsg) (rest : List HandMsg), s.isL d = true →
    takeHand d HandBody.isAbort [] s.hand = some (m, rest) →
    t = { s with hand := rest } →
    exec (.abortMessage d) s = .next (s.settle
      ((t.setSec d { t.sec d with frames := (t.sec d).frames.filter (fun x => !(x.src == m.src && x.ctx == m.ctx && x.hold == m.hold)) }).decideReady
        d)))
  ∧ (∀ (s t : State) (d : Nat) (x : LFrame) (slot : Option Nat) (good : Bool), s.isL d = true →
    ((s.sec d).frames.filter (fun x => !x.ready)).find? (fun x => s.canPrefetch d x.header.identity x.header.idKind) = some x →
    s.prefetch d x.header.identity x.header.idKind = (t, some (slot, good)) →
    exec (.prefetchComplete d) s = .next (s.settle
      ((t.setSec d { t.sec d with frames := (t.sec d).frames.map (fun z => if z = x then
        { x with ready := true, readyAt := t.devTime d, held := x.held || t.stopped d, slot := slot, good := good } else z) }).decideReady
        d)))
  ∧ (∀ (s t : State) (d : Nat) (x : HeFrame) (slot : Option Nat) (good : Bool), s.isL d = true →
    ((s.sec d).frames.filter (fun x => !x.ready)).find? (fun x => s.canPrefetch d x.header.identity x.header.idKind) = none →
    ((s.sec d).headEnd.filter (fun x => !x.ready)).find? (fun x => s.canPrefetch d (heFrameOf x).identity (heFrameOf x).idKind) = some x →
    s.prefetch d (heFrameOf x).identity (heFrameOf x).idKind = (t, some (slot, good)) →
    exec (.prefetchComplete d) s = .next (s.settle
      ((t.setSec d { t.sec d with headEnd := (t.sec d).headEnd.map (fun z => if z = x then
        { x with ready := true, late := !x.held && !t.stopped d, slot := slot, good := good } else z) }).decideReady d)))
  ∧ (∀ (s t : State) (d : Nat) (x : LFrame) (old : List LFrame), s.isL d = true →
    (s.sec d).frames.filter (LFrame.overdue (s.devTime d)) = x :: old → (s.sec d).headEnd = [] →
    (x :: old).filterMap (·.slot) = [] → (s.sec d).lim034 = none →
    t = (s.setSec d { s.sec d with frames := (s.sec d).frames.filter (fun y => !decide (y ∈ x :: old)), headEnd := [] }).inc d
      SEC_LATE_CNT (old.length + 1) →
    exec (.verdictWaitTimeout d) s = .next (s.settle
      ((t.setSec d { t.sec d with lim034 := some t.now }).raise d 34 (arg 0 1))))
  ∧ (∀ (s t u : State) (d : Nat) (bytes : Bytes) (c : Cmd) (x : HeFrame) (slot : Option Nat) (good : Bool), s.isL d = true →
    s.hif.inflight.find? (fun c => c.die == d && c.opcode == 0x81 && c.sent && !c.started) = some c →
    x = { cmd := c.id, entry := c.entry, bytes := bytes, arrived := s.devTime d, held := s.stopped d } →
    t = (s.markStarted c.id).setSec d { (s.markStarted c.id).sec d with headEnd := ((s.markStarted c.id).sec d).headEnd ++ [x] } →
    t.prefetch d (heFrameOf x).identity (heFrameOf x).idKind = (u, some (slot, good)) →
    exec (.headEndFrameArrival d bytes) s = .next (s.settle
      ((u.setSec d { u.sec d with headEnd := (u.sec d).headEnd.map (fun z => if z = x then
        { x with ready := true, late := false, slot := slot, good := good } else z) }).decideReady d)))

/-! ### Delivery queues (08_deadline_queues) -/

/-- The queue rows on an L-die. An Idle class whose configuration is valid is enabled and runs (state 1); a running one is disabled and
drains (state 2), and is Idle with source 96 where it is empty. The first packet whose copy is outstanding is committed. While the middle is
not empty, committed packets of the tail spill into it from 16 KiB on; while it is empty, they go to the head where one fits. The head
refills from the middle once 16 KiB of it are free. The ledger applies the packet whose turn it is, keeps its status and mirrors that. A full
ring starts the hold of a class, and a hold that ends adds its time to the total. A hold over its limit raises source 99 once. The oldest
millisecond of each class's window drops out. The first item of a class, applied and in the head, on time and not marked, goes to its
ring, and the class's delivered number is its sequence number. A flush of an empty class ends at once with source 100; one of a class that
holds packets is marked at the last of them. The delivery numbers of all classes go to the mirror. -/
def Obligations.QueuesComplete : Prop :=
  (∀ (s : State) (d c : Nat), s.isL d = true → s.domOn d 3 = true → s.get d QUE_n_STAT_state c = 0 → s.queCfgOk d c = true →
    exec (.queueEnable d c) s = .next (s.settle
      (((s.putB d QUE_n_CTRL_enable true c).put d QUE_n_STAT_state 1 c).putB d QUE_n_STAT_cfg_error false c)))
  ∧ (∀ (s : State) (d c : Nat), s.isL d = true → s.get d QUE_n_STAT_state c = 1 →
    exec (.queueDisable d c) s = .next (s.settle
      (((s.putB d QUE_n_CTRL_enable false c).put d QUE_n_STAT_state 2 c).drainCheck d c)))
  ∧ (∀ (s : State) (d c : Nat) (p : Packet), s.isL d = true → (s.que d c).packets.find? (fun p => !p.committed) = some p →
    exec (.packetCommit d c) s = .next (s.settle (s.setQue d c { s.que d c with
      packets := setPkt (s.que d c).packets p.seq (fun p => { p with committed := true }) })))
  ∧ (∀ (s : State) (d c : Nat) (q : Queue), s.isL d = true → s.que d c = q → inPart q .middle ≠ [] →
    16384 ≤ pktBytes ((inPart q .tail).takeWhile (·.committed)) →
    exec (.queueSpill d c) s = .next (s.settle (s.setQue d c (moveTo q
      (frontFit (·.committed) (s.get d QUE_n_MID_SIZE_kib c * 1024 - pktBytes (inPart q .middle)) (inPart q .tail)) .middle))))
  ∧ (∀ (s : State) (d c : Nat) (q : Queue) (l : List Nat), s.isL d = true → s.que d c = q → inPart q .middle = [] →
    l = frontFit (·.committed) (headFree q) (inPart q .tail) → l ≠ [] →
    exec (.queueSpill d c) s = .next (s.settle ((s.setQue d c (moveTo q l .head)).fullTrack (s.classGroup c))))
  ∧ (∀ (s : State) (d c : Nat) (q : Queue), s.isL d = true → s.que d c = q → 16384 ≤ headFree q →
    exec (.queueRefill d c) s = .next (s.settle
      ((s.setQue d c (moveTo q (frontFit (fun _ => true) (headFree q) (inPart q .middle)) .head)).fullTrack (s.classGroup c))))
  ∧ (∀ (s t u : State) (d st : Nat) (p : Packet), s.isL d = true → s.flag d LEDG_STAT_running = true → s.serving d = true →
    s.stopped d = false → s.arcFull d = false → s.nextApply d = some p → s.applyPacket d p = (t, st) →
    u = t.setQue d p.cls { t.que d p.cls with
      packets := setPkt (t.que d p.cls).packets p.seq (fun x => { x with applied := true, status := st }) } →
    exec (.ledgerApply d) s = .next (s.settle (((u.mirAdd d (.applied p.cls p.seq st)).mirSend d).fullTrack (u.classGroup p.cls))))
  ∧ (∀ (s : State) (d c : Nat), s.isL d = true → (s.que d c).heldSince = none → s.ringFull d c = true →
    exec (.ringFullnessReport d c) s = .next (s.settle
      ((s.setQue d c { s.que d c with heldSince := some s.now }).putB d QUE_n_STAT_held true c)))
  ∧ (∀ (s t : State) (d c t0 : Nat), s.isL d = true → (s.que d c).heldSince = some t0 → s.ringFull d c = false → t = s.countHeld d c →
    exec (.ringFullnessReport d c) s = .next (s.settle
      (((t.setQue d c { t.que d c with heldSince := none, heldTotal := (t.que d c).heldTotal + (t.now - t0), limitRaised := false }).putB d
        QUE_n_STAT_held false c).alarmCheck)))
  ∧ (∀ (s : State) (d c : Nat), s.isL d = true → s.holdOver d c = true → (s.que d c).limitRaised = false →
    s.get d QUE_n_STAT_state c ≠ 2 →
    exec (.holdLimitExceeded d c) s = .next (s.settle
      ((s.setQue d c { s.que d c with limitRaised := true }).raise d 99 (arg 0 c))))
  ∧ (∀ (s : State) (d : Nat), s.isL d = true →
    exec (.windowBucketRoll d) s = .next (s.settle ([0, 1, 2, 3].foldl
      (fun (s : State) c => s.setQue d c { s.que d c with window := (0 :: (s.que d c).window).take 10 }) s)))
  ∧ (∀ (s t : State) (d c : Nat) (p : Packet) (ps : List Packet), s.isL d = true → s.stopped d = false → s.serving d = true →
    (s.que d c).packets = p :: ps → p.part = .head → p.applied = true → (s.que d c).heldSince = none →
    s.cqRoom (s.classGroup c) p.entries = true → p.flags.testBit 0 = false → p.redelivered = false → p.unprotected = false →
    s.devTime d ≤ p.start + (p.held + (s.heldTicks d c - p.heldAt)) + classDeadline c * 100 →
    t = (s.cqWrite (s.classGroup c) (itemCpl d p 0 ((p.held + (s.heldTicks d c - p.heldAt)) / 100) (c = 0 || aheadOfMarker (s.que d c) p))).put d
      QUE_n_DELIV_delivered p.seq c →
    exec (.itemDelivery d c) s = .next (s.settle
      (((((t.setQue d c { s.que d c with packets := ps }).flushCheck d c).drainCheck d c).fullTrack (s.classGroup c)).evtMerge)))
  ∧ (∀ (s : State) (d c : Nat), s.isL d = true → (s.que d c).packets = [] →
    exec (.queueFlush d c) s = .next (s.settle ((s.putB d QUE_n_STAT_flush_done true c).raise d 100 (arg 0 c))))
  ∧ (∀ (s : State) (d c : Nat) (p : Packet), s.isL d = true → (s.que d c).packets.getLast? = some p →
    exec (.queueFlush d c) s = .next (s.settle (s.setQue d c { s.que d c with marker := some p.seq })))
  ∧ (∀ (s : State) (d : Nat), s.isL d = true →
    exec (.deliverPositionMirror d) s = .next (s.settle (([0, 1, 2, 3].foldl
      (fun (s : State) c => s.mirAdd d (.delivered c (s.get d QUE_n_DELIV_delivered c))) s).mirSend d)))

/-! ### The ledger (06_ledger_tariffs) -/

/-- The ledger's own rows on an L-die. The ledger is enabled and runs; the first enable fixes the pairing mode and the package identity in
a layout record that names none. Ledger time that has slewed to device time is Normal. A hold ends by itself once device time has reached
LEDG_HOLD: action 3 in the discontinuity log, ledger time Normal. A release ends it with action 4, and ledger time slews. A boundary
sweep brings every record past the boundary, announces the programs it activates and notes the boundary. The end of a sweep stores the
boundary, counts and announces the billing boundaries passed, and writes the columns due. -/
def Obligations.LedgerRowsComplete : Prop :=
  (∀ (s t : State) (d : Nat), s.isL d = true → s.domOn d 4 = true →
    t = (s.putB d LEDG_CTRL_enable true).putB d LEDG_STAT_running true → (t.arc d).layout = none →
    exec (.ledgerEnable d) s = .next (s.settle t))
  ∧ (∀ (s : State) (d : Nat), s.isL d = true → s.ltState d = 1 → (s.led d).lt = (s.com1 d).clk →
    exec (.slewComplete d) s = .next (s.settle (((s.ltNormal d).mirLed d).mirSend d)))
  ∧ (∀ (s t : State) (d : Nat) (l : Layout), s.isL d = true → s.domOn d 4 = true →
    t = (s.putB d LEDG_CTRL_enable true).putB d LEDG_STAT_running true → (t.arc d).layout = some l → l.paired = none →
    exec (.ledgerEnable d) s = .next (s.settle
      (t.setLayout d { l with paired := some t.paired, package := some (leNat (t.lock 0).fuses.dieId) })))
  ∧ (∀ (s : State) (d : Nat), s.isL d = true → s.held d = true → s.holdLt d ≤ s.devTime d →
    exec (.holdAutoEnd d) s = .next (s.settle (((((s.endHold d 3).ltNormal d).mirLed d).defaultCheck d).mirSend d)))
  ∧ (∀ (s : State) (d : Nat), s.isL d = true → s.held d = true →
    exec (.holdRelease d) s = .next (s.settle
      (((((s.endHold d 4).put d LEDG_STAT_lt_state 1).mirLed d).defaultCheck d).mirSend d)))
  ∧ (∀ (s t : State) (d b : Nat), s.isL d = true → s.sweepTarget d (s.ltSec d) = b → s.flag d LEDG_STAT_running = true →
    s.serving d = true → s.flag d LEDG_STAT_sweep_busy = false → s.get d LEDG_SWEEP_boundary < b →
    s.arcFull d = false →
    t = (((s.l d).recs.map (·.1)).foldl (fun (s : State) slot => s.sweepRec d b slot) s).announce d b →
    exec (.boundarySweep d) s = .next (s.settle
      ((((t.setLed d { t.led d with sweepTo := b }).putB d LEDG_STAT_sweep_busy true).mirLed d).mirSend d)))
  ∧ (∀ (s t u v : State) (d b n : Nat), s.isL d = true → s.flag d LEDG_STAT_sweep_busy = true → b = s.get d LEDG_SWEEP_boundary → b ≠ 0 →
    n = (s.led d).sweepTo →
    t = (s.put d LEDG_SWEEP_boundary n).putB d LEDG_STAT_sweep_busy false →
    u = (t.led d).billed.foldl (fun (s : State) b => (s.inc d LEDG_PERIOD_CNT).raise d 76 (arg 0 b)) t →
    v = u.setLed d { u.led d with billed := [] } →
    exec (.sweepComplete d) s = .next (s.settle ((((v.grids d).foldl (fun (s : State) p =>
      (dueColumns p (s.tai d) (v.get d ARC_CFG_col_delay) b n).foldl (fun (s : State) k => s.writeColumn d p k) s)
        v).mirLed d).mirSend d)))

/-- The ledger's ring commands, each for a meter whose record is fetched and whose turn it is, complete with status 0 and their entry in the
archive log where they change something (`doneRec`). A record without a boundary due is read to host memory. A Free slot is provisioned from an
image whose identity is live nowhere else. A record that is not Closed takes a state from 1 to 4. A valid program with a valid activation is
loaded; a meter is moved to a program in force then. A period closes at a later boundary that a program in force closes on command. A
prepayment meter is credited, and accepts emergency credit that is available; a relay downlink is queued for disconnection and
reconnection. A rerate that passes its checks starts as a long operation, and an abort is noted for the one in progress. The discontinuity
log and the deferral statistics go to host memory, the latter reset where asked. A long operation of a die in progress is aborted. -/
def Obligations.LedgerCommandsComplete : Prop :=
  (∀ (s t : State) (d : Nat) (c : Cmd) (m : MRec), s.isL d = true → s.nextCmd d 0x01 = some c → s.fetch d c.slot = (some m, t) →
    t.recNext d m = none → t.current d c.slot m = (t, m) →
    exec (.readRecord d) s = .next (s.settle
      ((t.toHost c.port (c.op 16 8) m.bytes).complete c.id 0 (leBytes 4 (m.g rSeq)))))
  ∧ (∀ (s t u : State) (d : Nat) (image : Bytes) (c : Cmd) (m new : MRec), s.isL d = true → s.nextCmd d 0x02 = some c → s.recWaits d c = false →
    s.arcFull d = false → s.fetch d c.slot = (some m, t) → m.g rState = 0 →
    t.liveElsewhere d c.slot (slice (slice image 0 512) 4 8) (leField (slice image 0 512) 12 1) = false →
    new = { bytes := provisioned (t.slotHandle d c.slot) (slice image 0 512), done := t.ltSec d } →
    u = t.setRecs d (smPut (t.l d).recs c.slot new) →
    exec (.provisionRecord d image) s = .next (s.settle
      ((((u.setSec d { u.sec d with wrapped := smDel (u.sec d).wrapped c.slot }).mirAdd d (.record c.slot new)).mirAdd d
        (.keys c.slot none)).doneRec d c (leBytes 4 0) (slice image 0 512))))
  ∧ (∀ (s t u v : State) (d n : Nat) (c : Cmd) (m m' : MRec), s.isL d = true → s.nextCmd d 0x03 = some c → s.recWaits d c = false →
    s.arcFull d = false → s.fetch d c.slot = (some m, t) → t.current d c.slot m = (u, m') → m'.g rState ≠ 0 → c.op 16 1 = n → n ≠ 0 → n ≤ 4 → m'.g rState ≠ 4 →
    v = u.update d c.slot (m'.p rState n) →
    exec (.setRecordState d) s = .next (s.settle (v.doneRec d c (leBytes 4 ((v.rawRec d c.slot).g rSeq)))))
  ∧ (∀ (s t : State) (d : Nat) (src p : Bytes) (c : Cmd), s.isL d = true → s.nextCmd d 0x04 = some c → s.arcFull d = false → p = slice src 0 2048 →
    progOk p = true → s.actOk d p (c.op 24 8) = true →
    t = s.setLed d { s.led d with progs := (s.led d).progs.filter (fun v => !(v.num == pNumber p && decide (s.ltSec d < v.act)))
                                           ++ [⟨pNumber p, c.op 24 8 / 10 ^ 8, p, false⟩] } →
    exec (.loadProgram d src) s = .next (s.settle
      ((((t.arcAppend d 0x09 0 noHandle (t.lt d) (leBytes 8 (c.op 24 8) ++ p)).mirLed d).complete c.id 0).mirSend d)))
  ∧ (∀ (s t u : State) (d : Nat) (p : Bytes) (c : Cmd) (m m' : MRec), s.isL d = true → s.nextCmd d 0x05 = some c → s.recWaits d c = false →
    s.arcFull d = false → s.fetch d c.slot = (some m, t) → t.current d c.slot m = (u, m') → m'.g rState ≠ 0 →
    u.content d (c.op 16 2) (c.op 24 8 / 10 ^ 8) = some p → u.actOk d p (c.op 24 8) = true →
    exec (.setProgram d) s = .next (s.settle
      ((u.update d c.slot { m' with move := some (c.op 24 8 / 10 ^ 8, c.op 16 2) }).doneRec d c)))
  ∧ (∀ (s : State) (d b : Nat) (c : Cmd), s.isL d = true → s.nextCmd d 0x06 = some c → s.arcFull d = false → s.lt d < c.op 16 8 →
    c.op 16 8 = b * 10 ^ 8 → s.closable d b = true → (s.l d).recs = [] → b ∉ (s.led d).closes →
    exec (.closePeriod d) s = .next (s.settle
      (((s.setLed d { s.led d with closes := (s.led d).closes ++ [b] }).mirLed d).doneRec d c (leBytes 4 0))))
  ∧ (∀ (s t u v w : State) (d back : Nat) (c : Cmd) (m m' n : MRec), s.isL d = true → s.nextCmd d 0x07 = some c → s.recWaits d c = false →
    s.arcFull d = false → s.fetch d c.slot = (some m, t) → t.current d c.slot m = (u, m') → m'.g rState ≠ 0 → m'.g rState ≠ 4 → isPrepay m' = true →
    m'.g rTopupSeq < c.op 24 4 →
    u.ppEval d c.slot (((ppCredit m' (toSigned 64 (c.op 16 8))).p rTopupSeq (c.op 24 4)).p rLastTopupS (u.ltSec d)) (u.ltSec d) = (v, n) →
    v.content d (n.g rProgram) (v.ltSec d) = none → v.freeBelow 2 = (back, w) →
    exec (.topUp d) s = .next (s.settle ((v.update d c.slot n).doneRec d c (n.gb rBalance))))
  ∧ (∀ (s t u v : State) (d : Nat) (c : Cmd) (m m' n : MRec), s.isL d = true → s.nextCmd d 0x08 = some c → s.recWaits d c = false →
    s.arcFull d = false → s.fetch d c.slot = (some m, t) → t.current d c.slot m = (u, m') → m'.g rState ≠ 0 → m'.g rState ≠ 4 → isPrepay m' = true →
    m'.bit rPpFlags 1 = false → ecAvailable m' = true → u.ppEval d c.slot (m'.pbit rPpFlags 1 true) (u.ltSec d) = (v, n) →
    exec (.acceptEmergencyCredit d) s = .next (s.settle ((v.update d c.slot n).doneRec d c (n.gb rPpState))))
  ∧ (∀ (s t u v : State) (d : Nat) (c : Cmd) (m m' n : MRec), s.isL d = true → s.nextCmd d 0x09 = some c → s.recWaits d c = false →
    s.arcFull d = false → s.fetch d c.slot = (some m, t) → t.current d c.slot m = (u, m') → m'.g rState ≠ 0 → m'.g rState ≠ 4 → m'.bit rFlags 2 = true →
    u.defaultOn d = false → u.relayFor d c.slot m' 0 1 = (v, n) →
    exec (.disconnect d) s = .next (s.settle ((v.update d c.slot n).doneRec d c)))
  ∧ (∀ (s t u v : State) (d : Nat) (c : Cmd) (m m' n : MRec), s.isL d = true → s.nextCmd d 0x0A = some c → s.recWaits d c = false →
    s.arcFull d = false → s.fetch d c.slot = (some m, t) → t.current d c.slot m = (u, m') → m'.g rState ≠ 0 → m'.g rState ≠ 4 →
    u.relayFor d c.slot m' 2 1 = (v, n) →
    exec (.reconnect d) s = .next (s.settle ((v.update d c.slot n).doneRec d c)))
  ∧ (∀ (s s' t : State) (d : Nat) (c : Cmd) (p : Bytes), s.isL d = true → s.nextCmd d 0x0B = some c → s.rrCheck d c = 0 →
    s.content d (rrProgram c) (s.ltSec d) = some p → s.rrPeriods d c p = (false, s') →
    t = ((((s'.put d LEDG_RR_PROG_percent 0).putB d LEDG_RR_PROG_running true).putB d LEDG_RR_PROG_done false).put d
      LEDG_RR_PROG_error 0) →
    exec (.rerate d) s = .next (s.settle
      (((t.put d LEDG_RR_POS_handle (c.op 16 4)).put d LEDG_RR_INT_interval (c.op 28 4)).startLong
        { cmd := c.id, die := d, opcode := 0x0B, first := c.op 16 4, stop := c.op 20 4, pos := c.op 16 4, pos2 := c.op 28 4 })))
  ∧ (∀ (s : State) (d : Nat) (o : LongOp), s.isL d = true → s.longOp d 0x0B = some o → o.done = none →
    exec (.rrAbort d) s = .next (s.settle (s.setLong { o with aborted := true })))
  ∧ (∀ (s : State) (d : Nat) (c : Cmd) (l : List Bytes), s.isL d = true → s.nextCmd d 0x0C = some c → c.op 28 2 ≠ 0 → c.op 28 2 ≤ 256 →
    l = ((s.led d).disc.filter (fun e => decide (c.op 24 4 ≤ leField e 0 4))).take (c.op 28 2) →
    exec (.readDiscontinuityLog d) s = .next (s.settle
      ((s.toHost c.port (c.op 16 8) l.flatten).complete c.id 0 (leBytes 2 l.length))))
  ∧ (∀ (s : State) (d : Nat) (c : Cmd), s.isL d = true → s.nextCmd d 0x0D = some c → bit (c.op 24 1) 0 = false →
    exec (.readDeferralStatistics d) s = .next (s.settle
      ((s.toHost c.port (c.op 16 8) (([0, 1, 2, 3].flatMap (fun k => (s.que d k).deferred)).flatMap (leBytes 4))).complete c.id 0)))
  ∧ (∀ (s t : State) (d : Nat) (c : Cmd), s.isL d = true → s.nextCmd d 0x0D = some c → bit (c.op 24 1) 0 = true →
    t = s.toHost c.port (c.op 16 8) (([0, 1, 2, 3].flatMap (fun k => (s.que d k).deferred)).flatMap (leBytes 4)) →
    exec (.readDeferralStatistics d) s = .next (s.settle (([0, 1, 2, 3].foldl
      (fun (s : State) k => s.setQue d k { s.que d k with deferred := [0, 0, 0, 0, 0] }) t).complete c.id 0)))
  ∧ (∀ (s : State) (d : Nat) (c : Cmd) (o : LongOp), d < s.nDies → s.nextCmd d 0x0F = some c → s.longOp d (c.op 16 1) = some o →
    o.done = none →
    exec (.abortOperation d) s = .next (s.settle ((s.setLong { o with aborted := true }).complete c.id 0)))

/-! ### The roll and the balance (03_timetable_mac, 07_balance_engine) -/

/-- The roll on an L-die. Published parameters enter the table, those that ran before going to the past ones. A data slot of a running
timetable that has ended without a frame of the meter assigned to it, the assignment being in effect and the slot not yet checked, counts a
miss and doubles u; the third miss makes the meter truant with source 88, and the one truant_hold after that absent with source 91; a slot
in which the meter was seen is noted as checked and counts none. A meter is assigned a free data slot: its samples and state start afresh
where the slot is another one, and are kept where it is not. A held slot is released. A hall pass is granted in the first free entry, or in
the meter's own, and revoked. Each command completes with its archive entry (`doneRec`). -/
def Obligations.RollCompletes : Prop :=
  (∀ (s t : State) (d e : Nat) (p : TtParams), s.isL d = true → s.ttPub.find? (fun p => p.1 == d) = some (e, p) →
    t = { s with ttPub := s.ttPub.erase (d, p) } →
    exec (.timetableParametersPublish d) s = .next (s.settle (t.takeParams d p)))
  ∧ (∀ (s t t' u v w : State) (d f n k slotNo tt no : Nat) (p : TtParams) (e : AssignEnt) (m m1 m2 m3 : MRec), s.isL d = true →
    tt = 8 * (f % 2) + n % 8 → smGet (s.ttTab d).params tt = some p → p.running = true → p.follow = false → slotNo < p.slots →
    s.serving d = true → p.kindOf slotNo = .data → no = k * p.slots + slotNo →
    p.start + no * p.slotTicks + p.slotTicks ≤ s.devTime d →
    smGet (s.ttTab d).assign (assignKey tt (p.entry k slotNo)) = some e → e.checked ≤ no →
    s.fetch d (e.handle % 2 ^ 20) = (some m, t) → e.inEffect p m k slotNo = true → m.g rLastSeen < p.start + no * p.slotTicks →
    t' = t.setTt d { t.ttTab d with assign := smPut (t.ttTab d).assign (assignKey tt (p.entry k slotNo)) { e with checked := no + 1 } } →
    t'.doubleU (m.incr rMisses) = (u, m1) →
    (v, m2) = (if m1.g rMisses = 3 then (u.raiseM d (e.handle % 2 ^ 20) 88, (m1.p rTtState 3).incr rTruantCount) else (u, m1)) →
    (w, m3) = (if m1.g rMisses = 3 + min p.truantHold 252 ∧ m2.g rTtState = 3 then (v.raiseM d (e.handle % 2 ^ 20) 91, m2.p rTtState 4)
      else (v, m2)) →
    exec (.dataSlotEnd d f n k slotNo) s = .next (s.settle ((w.update d (e.handle % 2 ^ 20) m3).mirSend d)))
  ∧ (∀ (s t t' : State) (d f n k slotNo tt no : Nat) (p : TtParams) (e : AssignEnt) (m : MRec), s.isL d = true →
    tt = 8 * (f % 2) + n % 8 → smGet (s.ttTab d).params tt = some p → p.running = true → p.follow = false → slotNo < p.slots →
    s.serving d = true → p.kindOf slotNo = .data → no = k * p.slots + slotNo →
    p.start + no * p.slotTicks + p.slotTicks ≤ s.devTime d →
    smGet (s.ttTab d).assign (assignKey tt (p.entry k slotNo)) = some e → e.checked ≤ no →
    s.fetch d (e.handle % 2 ^ 20) = (some m, t) → e.inEffect p m k slotNo = true → p.start + no * p.slotTicks ≤ m.g rLastSeen →
    m.g rLastSeen < p.start + no * p.slotTicks + p.slotTicks →
    t' = t.setTt d { t.ttTab d with assign := smPut (t.ttTab d).assign (assignKey tt (p.entry k slotNo)) { e with checked := no + 1 } } →
    exec (.dataSlotEnd d f n k slotNo) s = .next (s.settle (t'.mirSend d)))
  ∧ (∀ (s t u v : State) (d tt per ph sn : Nat) (c : Cmd) (m m' n : MRec) (p : TtParams) (rest : SMap AssignEnt), s.isL d = true →
    s.nextCmd d 0x10 = some c → s.recWaits d c = false → s.arcFull d = false → s.fetch d c.slot = (some m, t) →
    t.current d c.slot m = (u, m') → m'.g rState ≠ 0 →
    c.op 16 1 = tt → c.op 18 2 = per → c.op 20 1 = ph → c.op 22 2 = sn → tt < 16 → smGet (u.ttTab d).params tt = some p →
    p.running = true → p.follow = false → sn < p.slots → p.kindOf sn = .data → per ≠ 0 → per ≤ p.periodMax → p.periodMax % per = 0 →
    ph < per → rest = dropAssign (u.ttTab d) (u.slotHandle d c.slot) →
    ((p.occupied per ph sn).map (assignKey tt)).any (fun i => (smGet rest i).isSome) = false →
    v = u.setTt d { u.ttTab d with
      assign := ((p.occupied per ph sn).map (assignKey tt)).foldl
        (fun a i => smPut a i ⟨u.slotHandle d c.slot, m'.gb rIdentity, true, u.devTime d, 0⟩) rest } →
    n = (if m'.g rTt ≠ tt ∨ m'.g rSlot ≠ sn then (m'.p rSamples 0).p rTtState 1 else m') →
    exec (.assignSlot d) s = .next (s.settle
      ((v.update d c.slot ((((n.p rTt tt).p rPeriod (per - 1)).p rPhase ph).p rSlot sn)).doneRec d c)))
  ∧ (∀ (s t u : State) (d : Nat) (c : Cmd) (m m' : MRec), s.isL d = true → s.nextCmd d 0x11 = some c → s.recWaits d c = false →
    s.arcFull d = false → s.fetch d c.slot = (some m, t) → t.current d c.slot m = (u, m') → m'.g rState ≠ 0 → m'.g rTt ≠ 0xFF →
    exec (.releaseSlot d) s = .next (s.settle
      (((u.setTt d { u.ttTab d with assign := dropAssign (u.ttTab d) (u.slotHandle d c.slot) }).update d c.slot
        ((m'.p rTt 0xFF).p rTtState 0)).doneRec d c)))
  ∧ (∀ (s t u : State) (d i : Nat) (c : Cmd) (m m' : MRec) (x : HallPass), s.isL d = true → s.nextCmd d 0x12 = some c →
    s.recWaits d c = false → s.arcFull d = false → s.fetch d c.slot = (some m, t) → t.current d c.slot m = (u, m') →
    m'.g rState ≠ 0 → u.hallOf d (u.slotHandle d c.slot) = none →
    (List.range 65536).find? (fun i => (smGet (u.ttTab d).halls i).isNone) = some i →
    x = ⟨u.slotHandle d c.slot, c.op 16 8, c.op 24 2, c.op 26 1, c.op 27 1⟩ →
    exec (.grantHallPass d) s = .next (s.settle
      ((u.setTt d { u.ttTab d with halls := smPut (u.ttTab d).halls i x }).doneRec d c (leBytes 4 i))))
  ∧ (∀ (s t u : State) (d i : Nat) (c : Cmd) (m m' : MRec) (x old : HallPass), s.isL d = true → s.nextCmd d 0x12 = some c →
    s.recWaits d c = false → s.arcFull d = false → s.fetch d c.slot = (some m, t) → t.current d c.slot m = (u, m') →
    m'.g rState ≠ 0 → u.hallOf d (u.slotHandle d c.slot) = some (i, old) →
    x = ⟨u.slotHandle d c.slot, c.op 16 8, c.op 24 2, c.op 26 1, c.op 27 1⟩ →
    exec (.grantHallPass d) s = .next (s.settle
      ((u.setTt d { u.ttTab d with halls := smPut (u.ttTab d).halls i x }).doneRec d c (leBytes 4 i))))
  ∧ (∀ (s t u : State) (d i : Nat) (c : Cmd) (m m' : MRec) (x : HallPass), s.isL d = true → s.nextCmd d 0x13 = some c →
    s.recWaits d c = false → s.arcFull d = false → s.fetch d c.slot = (some m, t) → t.current d c.slot m = (u, m') →
    m'.g rState ≠ 0 → u.hallOf d (u.slotHandle d c.slot) = some (i, x) →
    exec (.revokeHallPass d) s = .next (s.settle
      ((u.setTt d { u.ttTab d with halls := smDel (u.ttTab d).halls i }).doneRec d c)))

/-- The balance rows on an L-die. A contribution is taken from the fabric. The next interval of a group that has fallen due is evaluated
while the engine is enabled and the group not stopped; where it issues a finding record, a free entry of the output buffer is needed. A
correlation response notes its meter's tamper events, and a finding none of whose meters is outstanding any more ends with it; one not answered
ends after its second. The oldest balance item is offered to its queue: admitted it leaves the buffer, and otherwise it stays and the
deferral is counted. An enabled engine is disabled and drains. A request to read a meter's record, to attach it to a group or to detach it
is answered by its owning die. An accepted attach or detach that was the last one waited for completes the balance command. A write not
answered within its second ends a command with 0x0316, a deletion leaving its detaches for later. Detaches unanswered for ten seconds are
asked again. -/
def Obligations.BalanceRowsComplete : Prop :=
  (∀ (s t : State) (d : Nat) (m : LedMsg) (x : Contrib), s.isL d = true → s.takeLed d (fun b => b.cls == 6) = some (m, t) →
    m.body = .contrib x →
    exec (.contributionMessage d) s = .next (s.settle ((t.contribute d m.src x).mirSend d)))
  ∧ (∀ (s : State) (d g : Nat) (x : Group), s.isL d = true → s.group d g = some x → s.get d BAL_STAT_state = 1 → x.stopped = false →
    s.serving d = true → s.arcFull d = false →
    ((s.evalNext d g x).2.2.2.findingDue (s.evalNext d g x).2.1 = true → s.balUsed d < 1024) →
    s.evalDue d x (x.lastEval + 1) ≤ s.lt d →
    exec (.groupEvaluation d g) s = .next (s.settle ((s.evaluate d g x).mirSend d)))
  ∧ (∀ (s t : State) (d op role st h ref tag : Nat) (tam : Bytes) (m : LedMsg) (f f' : Finding) (x : Group), s.isL d = true →
    s.takeLed d LedBody.isCorrelation = some (m, t) → m.body = .response op role st h ref tag tam →
    (t.l d).findings.find? (fun f => f.tag == tag) = some f → t.group d f.group = some x →
    f.waiting.filter (fun y => y != fabHandle m.src h) = [] →
    f' = { f with
      waiting := [],
      tampered := if st == 0 && t.tamperedIn d f x.gLen tam then f.tampered ++ [fabHandle m.src h] else f.tampered } →
    exec (.correlationResponse d) s = .next (s.settle ((t.finishFinding d f').mirSend d)))
  ∧ (∀ (s : State) (d : Nat) (f : Finding), s.isL d = true →
    (s.l d).findings.find? (fun f => s.due (f.since + 100000000)) = some f →
    exec (.correlationTimeout d) s = .next (s.settle ((s.finishFinding d f).mirSend d)))
  ∧ (∀ (s t : State) (d : Nat) (p : Packet) (r : List Packet), s.isL d = true → (s.l d).balOut = p :: r →
    s.judge d p.cls 1 p.len noHandle = none → t = s.setL d (s.l d).balPop →
    exec (.balanceItemOffer d) s = .next (s.settle ((t.reserve d { p with start := t.devTime d }).1.mirSend d)))
  ∧ (∀ (s : State) (d reason : Nat) (p : Packet) (r : List Packet), s.isL d = true → (s.l d).balOut = p :: r →
    s.judge d p.cls 1 p.len noHandle = some reason →
    exec (.balanceItemOffer d) s = .next (s.settle (s.deferItem d p.cls reason false)))
  ∧ (∀ (s t : State) (d : Nat), s.isL d = true → t = s.putB d BAL_CTRL_enable false → t.get d BAL_STAT_state = 1 →
    exec (.balanceDisable d) s = .next (s.settle ((t.put d BAL_STAT_state 2).balIdle d)))
  ∧ (∀ (s t u : State) (d role h ref gl tag : Nat) (q : LedMsg) (m : MRec), s.isL d = true →
    s.takeLed d LedBody.isRequest = some (q, t) → q.body = .request 0x43 role h ref gl tag → t.handleOk h = true →
    t.handleDie h = some d → t.fetch d (h % 2 ^ 20) = (some m, u) →
    exec (.remoteLedgerRequest d) s = .next (s.settle
      (u.sendLed d q.src (.response 0xC3 role 0 h ref tag (slice m.bytes 360 96)))))
  ∧ (∀ (s t u v : State) (d op role h ref gl tag st : Nat) (q : LedMsg) (m : MRec), s.isL d = true →
    s.takeLed d LedBody.isRequest = some (q, t) → q.body = .request op role h ref gl tag → op = 0x41 ∨ op = 0x42 → t.handleOk h = true →
    t.handleDie h = some d → t.fetch d (h % 2 ^ 20) = (some m, u) →
    (if op = 0x41 then u.attach d (h % 2 ^ 20) m (role == 1) ⟨ref % 2 ^ 11, bits ref 26 11, gl⟩
      else u.detach d (h % 2 ^ 20) m (role == 1) (ref % 2 ^ 11) (bits ref 26 11)) = (v, some st) →
    exec (.remoteLedgerRequest d) s = .next (s.settle ((v.mirSend d).sendLed d q.src (.response (op + 0x80) role st h ref tag []))))
  ∧ (∀ (s t : State) (d role h ref tag : Nat) (tam : Bytes) (m : LedMsg) (w : BalWait), s.isL d = true →
    s.takeLed d LedBody.isWriteAnswer = some (m, t) → m.body = .response 0xC1 role 0 h ref tag tam →
    (t.l d).balWaits.find? (fun w => w.tag == tag && decide ((⟨fabHandle m.src h, bits ref 26 11, role == 1⟩ : LedAccess) ∈ w.waiting))
      = some w → w.waiting.erase ⟨fabHandle m.src h, bits ref 26 11, role == 1⟩ = [] → w.status = 0 →
    exec (.remoteLedgerResponse d) s = .next (s.settle (t.balDone d { w with waiting := [], status := 0 } 0)))
  ∧ (∀ (s : State) (d : Nat) (w : BalWait), s.isL d = true →
    (s.l d).balWaits.find? (fun w => s.due (w.since + 100000000)) = some w → w.op ≠ 0x31 →
    exec (.memberWriteTimeout d) s = .next (s.settle (s.balDone d w 0x0316)))
  ∧ (∀ (s t : State) (d : Nat) (w : BalWait), s.isL d = true →
    (s.l d).balWaits.find? (fun w => s.due (w.since + 100000000)) = some w → w.op = 0x31 →
    t = s.setBal d { s.bal d with detaches := (s.bal d).detaches ++ w.waiting.map (fun a => (a, s.now)) } →
    exec (.memberWriteTimeout d) s = .next (s.settle (t.balDone d w 0x0316)))
  ∧ (∀ (s t : State) (d : Nat) (l : List (LedAccess × Nat)), s.isL d = true →
    l = (s.bal d).detaches.filter (fun e => s.isMember d (e.1.handle / 2 ^ 24)) →
    t = s.setBal d { s.bal d with detaches := l.map (fun e => if s.due (e.2 + 1000000000) then (e.1, s.now) else e) } →
    exec (.detachRetry d) s = .next (s.settle (((l.filter (fun e => s.due (e.2 + 1000000000))).foldl
      (fun (s : State) e => s.askLedger d 0x42 e.1 0 0xFFFFFFFF) t).mirSend d)))

/-- The balance commands. A single group whose values are in range is defined where its number is free: without a head the command
completes at once, and with one its meter is asked to attach. A group not divided into phases and with no finding in correlation is deleted: its open
finding is cleared, and the command completes at once or waits for its head and members to be detached. A member enters the group's list and
its meter is asked to attach; a member leaves it and its meter is asked to detach. A head is set, the old one being asked to detach. A
group's entry goes to host memory, and its statistics are set. -/
def Obligations.BalanceCommandsComplete : Prop :=
  (∀ (s t : State) (d g : Nat) (c : Cmd) (x : Group), s.isL d = true → s.nextCmd d 0x30 = some c → c.op 16 2 = g → c.op 18 1 = 0 →
    c.op 20 4 = noHandle →
    x = { settle := c.op 19 1, gLen := c.op 32 2, persist := c.op 34 1, stepK := c.op 35 1, lossThr := c.op 36 4,
          negThr := c.op 40 4, absMin := c.op 44 4, estMax := c.op 48 1, hostTag := slice c.entry 56 8, list := g } →
    groupOk x g = true → s.group d g = none →
    t = s.setGroup d g { x with head := noHandle, kind := 0, lastEval := gInt x.gLen (s.tai d) (s.ltSec d) - 1 } →
    exec (.defineGroup d) s = .next (s.settle ((t.complete c.id 0).mirSend d)))
  ∧ (∀ (s t : State) (d g fh : Nat) (c : Cmd) (x : Group), s.isL d = true → s.nextCmd d 0x30 = some c → c.op 16 2 = g → c.op 18 1 = 0 →
    c.op 20 4 = fh → fh ≠ noHandle → s.fhStatus d fh = 0 →
    x = { settle := c.op 19 1, gLen := c.op 32 2, persist := c.op 34 1, stepK := c.op 35 1, lossThr := c.op 36 4,
          negThr := c.op 40 4, absMin := c.op 44 4, estMax := c.op 48 1, hostTag := slice c.entry 56 8, list := g } →
    groupOk x g = true → s.group d g = none →
    t = (s.setGroup d g { x with head := fh, kind := 0, lastEval := gInt x.gLen (s.tai d) (s.ltSec d) - 1 }).balWait d c 0x30 g 0
      [⟨fh, g, true⟩] →
    exec (.defineGroup d) s = .next (s.settle ((t.askLedger d 0x41 ⟨fh, g, true⟩ x.gLen (s.balTag d)).mirSend d)))
  ∧ (∀ (s t u : State) (d g : Nat) (c : Cmd) (x : Group), s.isL d = true → s.nextCmd d 0x31 = some c → c.op 16 2 = g →
    s.group d g = some x → x.kind = 0 → (s.l d).findings.any (fun f => g == f.group) = false → x.members = [] → x.head = noHandle →
    t = (if x.open_ = 0 then s
      else s.issueFinding d 4 x.runFlags g x.runLen x.runStart x.lastEval (findingSums x.sumL x.sumH) [] noHandle) →
    u = t.setBal d { t.bal d with groups := smDel (t.bal d).groups g } →
    exec (.deleteGroup d) s = .next (s.settle ((u.complete c.id 0).mirSend d)))
  ∧ (∀ (s t u : State) (d g : Nat) (c : Cmd) (x : Group) (all : List LedAccess), s.isL d = true → s.nextCmd d 0x31 = some c →
    c.op 16 2 = g → s.group d g = some x → x.kind = 0 → (s.l d).findings.any (fun f => g == f.group) = false → x.head ≠ noHandle →
    all = ⟨x.head, g, true⟩ :: x.members.map (fun m => LedAccess.mk m.handle g false) →
    t = (if x.open_ = 0 then s
      else s.issueFinding d 4 x.runFlags g x.runLen x.runStart x.lastEval (findingSums x.sumL x.sumH) [] noHandle) →
    u = t.setBal d { t.bal d with groups := smDel (t.bal d).groups g } →
    exec (.deleteGroup d) s = .next (s.settle
      ((all.foldl (fun (s : State) a => s.askLedger d 0x42 a 0 (t.balTag d)) (u.balWait d c 0x31 g 0 all)).mirSend d)))
  ∧ (∀ (s t : State) (d g fh b : Nat) (c : Cmd) (x : Group), s.isL d = true → s.nextCmd d 0x32 = some c → c.op 16 2 = g →
    c.op 20 4 = fh → s.group d g = some x → s.fhStatus d fh = 0 → baseOf g x = b → (s.membersOf d g x).length < 16384 →
    s.poolUsed d < 2097152 → (s.membersOf d g x).any (fun m => m.handle == fh) = false →
    t = (s.setMembers d b (s.membersOf d g x ++ [{ handle := fh }])).balWait d c 0x32 b fh [⟨fh, b, false⟩] →
    exec (.addMember d) s = .next (s.settle ((t.askLedger d 0x41 ⟨fh, b, false⟩ x.gLen (s.balTag d)).mirSend d)))
  ∧ (∀ (s t : State) (d g fh b : Nat) (c : Cmd) (x : Group), s.isL d = true → s.nextCmd d 0x33 = some c → c.op 16 2 = g →
    c.op 20 4 = fh → s.group d g = some x → s.fhStatus d fh = 0 → baseOf g x = b →
    (s.membersOf d g x).any (fun m => m.handle == fh) = true →
    t = (s.setMembers d b ((s.membersOf d g x).filter (fun m => m.handle != fh))).balWait d c 0x33 b fh [⟨fh, b, false⟩] →
    exec (.removeMember d) s = .next (s.settle ((t.askLedger d 0x42 ⟨fh, b, false⟩ 0 (s.balTag d)).mirSend d)))
  ∧ (∀ (s t : State) (d g fh : Nat) (c : Cmd) (x : Group), s.isL d = true → s.nextCmd d 0x34 = some c → c.op 16 2 = g →
    c.op 20 4 = fh → s.group d g = some x → fh ≠ noHandle → s.fhStatus d fh = 0 → x.head = noHandle →
    t = (s.setGroup d g { x with head := fh }).balWait d c 0x34 g fh [⟨fh, g, true⟩] →
    exec (.setHead d) s = .next (s.settle ((t.askLedger d 0x41 ⟨fh, g, true⟩ x.gLen (s.balTag d)).mirSend d)))
  ∧ (∀ (s t : State) (d g fh : Nat) (c : Cmd) (x : Group), s.isL d = true → s.nextCmd d 0x34 = some c → c.op 16 2 = g →
    c.op 20 4 = fh → s.group d g = some x → fh ≠ noHandle → s.fhStatus d fh = 0 → x.head ≠ noHandle → x.head ≠ fh →
    t = (s.setGroup d g { x with head := fh }).balWait d c 0x34 g fh [⟨x.head, g, true⟩, ⟨fh, g, true⟩] →
    exec (.setHead d) s = .next (s.settle
      (((t.askLedger d 0x42 ⟨x.head, g, true⟩ 0 (s.balTag d)).askLedger d 0x41 ⟨fh, g, true⟩ x.gLen (s.balTag d)).mirSend d)))
  ∧ (∀ (s : State) (d g : Nat) (c : Cmd) (x : Group), s.isL d = true → s.nextCmd d 0x35 = some c → c.op 16 2 = g →
    s.group d g = some x →
    exec (.readGroup d) s = .next (s.settle
      ((s.toHost c.port (c.op 24 8) (groupBytes g x (s.membersOf d g x).length)).complete c.id 0)))
  ∧ (∀ (s : State) (d g : Nat) (c : Cmd) (x : Group), s.isL d = true → s.nextCmd d 0x36 = some c → c.op 16 2 = g →
    s.group d g = some x →
    exec (.resetStatistics d) s = .next (s.settle
      (((s.setGroup d g { x with meanR := toSigned 32 (c.op 20 4), devR := c.op 24 4 }).complete c.id 0).mirSend d)))

/-! ### The host interface (09_host_rings) -/

/-- The ring rows. A CQ and an SQ of a valid size and base, the SQ of a kind, are enabled from their first entry. A doorbell within its ring
moves the tail of an SQ or the head of a CQ, and the host interface state goes to the other port. The entry at the head of a running SQ
is fetched: it goes to its die, or is completed with the status that refuses it; in a draining SQ with nothing in flight it is returned with
0x0106. A submission waiting for a decision slot is fetched once its die has one. The oldest completion waiting for a CQ with room, or the
next event entry where no completion waits, is written. A CQ whose unsignalled entries reach the moderation count, or hold one that is signalled at once,
signals its vector. Unmasking a vector with its pending bit set signals it and clears the bit; without the bit only the mask is cleared. An SQ
that runs drains, a Stopped one giving its entries back; a CQ without its SQ goes Idle with source 104. A host memory access that fails stops
its SQ or its CQ with error 5, marks a long operation of the command as ended, and completes any other command with 0x0105. -/
def Obligations.RingsComplete : Prop :=
  (∀ (s t : State) (g : Nat), s.isPort 0 = true → g < 256 → s.get 0 HIF_GRPn_STAT_cq_state g = 0 → 6 ≤ s.get 0 HIF_GRPn_SIZE_cq_log2 g →
    s.get 0 HIF_GRPn_SIZE_cq_log2 g ≤ 16 → s.cqBase g % 4096 = 0 →
    t = ((s.putB 0 HIF_GRPn_STAT_cfg_error false g).put 0 HIF_GRPn_STAT_error 0 g).put 0 HIF_GRPn_STAT_cq_state 1 g →
    exec (.ringEnable g false) s = .next (s.settle
      ((((t.putB 0 HIF_GRPn_CTRL_cq_enable true g).put 0 HIF_GRPn_CQ_TAIL_tail 0 g).put 0 HIF_GRPn_CQ_TAIL_phase 1 g).setGrp g
        { t.grp g with cqHead := 0, unconf := [] })))
  ∧ (∀ (s t : State) (g : Nat), s.isPort 0 = true → g < 256 → s.get 0 HIF_GRPn_STAT_sq_state g = 0 → 6 ≤ s.get 0 HIF_GRPn_SIZE_sq_log2 g →
    s.get 0 HIF_GRPn_SIZE_sq_log2 g ≤ 16 → s.sqBase g % 4096 = 0 → s.get 0 HIF_GRPn_CTRL_sq_kind g ≠ 0 →
    t = ((s.putB 0 HIF_GRPn_STAT_cfg_error false g).put 0 HIF_GRPn_STAT_error 0 g).put 0 HIF_GRPn_STAT_sq_state 1 g →
    exec (.ringEnable g true) s = .next (s.settle
      (((t.putB 0 HIF_GRPn_CTRL_sq_enable true g).put 0 HIF_GRPn_SQ_HEAD_head 0 g).setGrp g { t.grp g with sqTail := 0 })))
  ∧ (∀ (s : State) (p g v : Nat), s.isPort p = true → s.pageOf p g = true → s.get 0 HIF_GRPn_STAT_sq_state g = 1 → v < s.sqSize g →
    s.sqCount g + (v + s.sqSize g - (s.grp g).sqTail) % s.sqSize g ≤ s.sqSize g - 1 →
    exec (.sqTailDoorbell p g v) s = .next (s.settle (s.setGrp g { s.grp g with sqTail := v }).hifMirror))
  ∧ (∀ (s : State) (p g v : Nat), s.isPort p = true → s.pageOf p g = true → s.get 0 HIF_GRPn_STAT_cq_state g = 1 → v < s.cqSize g →
    (v + s.cqSize g - (s.grp g).cqHead) % s.cqSize g ≤ s.cqUsed g →
    exec (.cqHeadDoorbell p g v) s = .next (s.settle ((s.setGrp g { s.grp g with cqHead := v }).fullTrack g).hifMirror))
  ∧ (∀ (s t : State) (g d : Nat) (e : Bytes), s.isPort (s.groupPort g) = true → g < 256 → s.sqCount g ≠ 0 →
    s.linkUp (s.groupPort g) = true → 3 ≤ s.get (s.groupPort g) SYS_BOOT_stage → s.get 0 HIF_GRPn_STAT_sq_state g = 1 →
    s.dispatch g e = .inr d → (leField e 0 1 = 0x81 → s.slotsUsed d < 64) → t = s.sqAdvance g →
    exec (.sqEntryFetch g e) s = .next (s.settle { t with hif := { t.hif with
      inflight := t.hif.inflight ++ [{ id := s.hif.nextId, group := g, port := s.groupPort g, die := d, opcode := leField e 0 1,
                                       entry := slice e 0 64, fetched := s.now, order := (s.l d).orderNext }] } }))
  ∧ (∀ (s : State) (g status : Nat) (e : Bytes), s.isPort (s.groupPort g) = true → g < 256 → s.sqCount g ≠ 0 →
    s.linkUp (s.groupPort g) = true → 3 ≤ s.get (s.groupPort g) SYS_BOOT_stage → s.get 0 HIF_GRPn_STAT_sq_state g = 1 →
    s.dispatch g e = .inl status →
    exec (.sqEntryFetch g e) s = .next (s.settle (s.returnEntry g e status)))
  ∧ (∀ (s : State) (g : Nat) (e : Bytes), s.isPort (s.groupPort g) = true → g < 256 → s.sqCount g ≠ 0 →
    s.linkUp (s.groupPort g) = true → 3 ≤ s.get (s.groupPort g) SYS_BOOT_stage → s.get 0 HIF_GRPn_STAT_sq_state g = 2 →
    s.hif.inflight.any (fun c => c.group == g) = false →
    exec (.sqEntryFetch g e) s = .next (s.settle (s.returnEntry g e 0x0106)))
  ∧ (∀ (s t : State) (d g : Nat) (e : Bytes), s.isL d = true → g < 256 → leField e 0 1 = 0x81 → s.slotsUsed d < 64 → s.sqCount g ≠ 0 →
    s.linkUp (s.groupPort g) = true → 3 ≤ s.get (s.groupPort g) SYS_BOOT_stage → s.get 0 HIF_GRPn_STAT_sq_state g = 1 →
    s.dispatch g e = .inr d → t = s.sqAdvance g →
    exec (.decisionSlotGrant d g e) s = .next (s.settle { t with hif := { t.hif with
      inflight := t.hif.inflight ++ [{ id := s.hif.nextId, group := g, port := s.groupPort g, die := d, opcode := 0x81,
                                       entry := slice e 0 64, fetched := s.now, order := (s.l d).orderNext }] } }))
  ∧ (∀ (s t : State) (g : Nat) (c : Cpl) (r : List Cpl), s.isPort (s.groupPort g) = true → g < 256 → t = s.evtDeliver →
    (t.grp g).waiting = c :: r → t.cqRoom g (1 + c.exts.length) = true →
    exec (.completionWrite g) s = .next (s.settle
      (((((t.setGrp g { t.grp g with waiting := r }).cqWrite g c).sqIdle g).fullTrack g).evtMerge)))
  ∧ (∀ (s t : State) (g : Nat) (w : EvtWait), s.isPort (s.groupPort g) = true → g < 256 → t = s.evtDeliver →
    (t.grp g).waiting = [] → t.hif.evtWait.find? (fun w => t.evtGroup w.port == some g) = some w → t.cqRoom g 1 = true →
    exec (.completionWrite g) s = .next (s.settle
      (((({ t with hif := { t.hif with evtWait := t.hif.evtWait.erase w } } : State).cqWrite g (t.evtCpl w)).fullTrack g).evtMerge)))
  ∧ (∀ (s : State) (g : Nat), s.isPort (s.groupPort g) = true → g < 256 → (s.grp g).unsig ≠ 0 →
    s.get 0 HIF_GRPn_MOD_count g ≤ (s.grp g).unsig ∨ (s.grp g).unsigNow = true →
    exec (.msiXSignal g) s = .next (s.settle
      ((s.setGrp g { s.grp g with unsig := 0, unsigNow := false }).signal (s.groupPort g) (s.get 0 HIF_GRPn_MOD_vector g))))
  ∧ (∀ (s t u : State) (p v : Nat), s.isPort p = true → v < 64 →
    t = { s with hif := { s.hif with msixTable := smSet s.hif.msixTable 1 (256 * p + 4 * v + 3) (s.msixWord p v 3 / 2 * 2) } } →
    smGetD t.hif.msixPend false (64 * p + v) = true →
    u = { t with hif := { t.hif with msixPend := smDel t.hif.msixPend (64 * p + v) } } →
    exec (.msiXUnmask p v) s = .next (s.settle (u.signal p v)))
  ∧ (∀ (s t : State) (p v : Nat), s.isPort p = true → v < 64 →
    t = { s with hif := { s.hif with msixTable := smSet s.hif.msixTable 1 (256 * p + 4 * v + 3) (s.msixWord p v 3 / 2 * 2) } } →
    smGetD t.hif.msixPend false (64 * p + v) = false →
    exec (.msiXUnmask p v) s = .next (s.settle t))
  ∧ (∀ (s t : State) (g st : Nat), s.isPort 0 = true → g < 256 → s.get 0 HIF_GRPn_STAT_sq_state g = st → st = 1 ∨ st = 3 →
    t = (s.putB 0 HIF_GRPn_CTRL_sq_enable false g).put 0 HIF_GRPn_STAT_sq_state 2 g →
    exec (.sqDisable g) s = .next (s.settle
      ((if st = 3 then t.put 0 HIF_GRPn_SQ_HEAD_head (t.grp g).sqTail g else t).sqIdle g)))
  ∧ (∀ (s t : State) (g : Nat), s.isPort 0 = true → g < 256 → s.get 0 HIF_GRPn_STAT_cq_state g ≠ 0 →
    s.get 0 HIF_GRPn_STAT_sq_state g = 0 →
    t = ((s.putB 0 HIF_GRPn_CTRL_cq_enable false g).put 0 HIF_GRPn_STAT_cq_state 0 g).putB 0 HIF_GRPn_STAT_cfg_error false g →
    exec (.cqDisable g) s = .next (s.settle (t.raise (t.groupPort g) 104 (arg 0 g + arg 1 1)).evtMerge))
  ∧ (∀ (s t : State) (g id : Nat), s.isPort (s.groupPort g) = true → g < 256 → t = s.inc 0 HIF_DMA_ERR_CNT →
    t.get 0 HIF_GRPn_STAT_sq_state g ≠ 0 →
    exec (.hostMemoryAccessFail 0 g id) s = .next (s.settle (t.ringStop g true 0x05)))
  ∧ (∀ (s t : State) (g id : Nat), s.isPort (s.groupPort g) = true → g < 256 → t = s.inc 0 HIF_DMA_ERR_CNT →
    t.get 0 HIF_GRPn_STAT_cq_state g ≠ 0 →
    exec (.hostMemoryAccessFail 1 g id) s = .next (s.settle (t.ringStop g false 0x05).evtMerge))
  ∧ (∀ (s t : State) (g id : Nat), s.isPort (s.groupPort g) = true → t = s.inc 0 HIF_DMA_ERR_CNT →
    t.hif.longOps.any (fun o => o.cmd == id) = true →
    exec (.hostMemoryAccessFail 2 g id) s = .next (s.settle { t with hif := { t.hif with longOps := t.hif.longOps.map (fun o =>
        if o.cmd = id then { o with aborted := true, abortStatus := 0x0105 } else o) } }))
  ∧ (∀ (s t : State) (g id : Nat), s.isPort (s.groupPort g) = true → t = s.inc 0 HIF_DMA_ERR_CNT →
    t.hif.longOps.any (fun o => o.cmd == id) = false →
    exec (.hostMemoryAccessFail 2 g id) s = .next (s.settle (t.complete id 0x0105)))

/-- The port rows and long operations. HIF_PORT is taken while every ring is idle, in a package with one L-die for the modes other than 1
and 2. Port A, the active one in active-standby mode, goes down with source 107 and the groups move to port B; a port that is not
active goes down without a move. A port whose link trains at a speed and width of R200 comes up with source 108. A failback asked for while
port B is active is noted, and takes place where it can. A downlink for a meter waits in its record, or as soon as possible or at
its time goes on, in a mode its slot has; one for no meter goes on likewise. A downlink at its time is launched. The unsent downlinks of an
L-die past their expiry complete with 0x0107. A head-end frame of a known suite and length is forwarded. A long operation that has ended
writes its last progress entry and completes with its counts; one whose percent has grown reports it after 100 ms. -/
def Obligations.HostOperationsComplete : Prop :=
  (∀ (s : State) (v : Nat), s.isPort 0 = true → s.ringsIdle = true → s.nL ≠ 1 ∨ (v % 4 ≠ 1 ∧ v % 4 ≠ 2) →
    exec (.hifPortWrite v) s = .next (s.settle
      (((s.put 0 HIF_PORT_mode (v % 4)).put 0 HIF_PORT_admin_port (v / 4 % 2)).putB 0 HIF_STAT_cfg_error false)))
  ∧ (∀ (s t u : State), s.isPort 0 = true → s.linkUp 0 = true →
    t = ((s.putB 0 HIF_STAT_a_up false).put 0 HIF_STAT_a_speed 0).put 0 HIF_STAT_a_width 0 → t.linkUp 1 = true →
    u = t.raise 0 107 (arg 0 0) → u.portMode = 1 → u.get 0 HIF_STAT_active = 0 → u.portPresent 1 = true →
    exec (.portLinkDown 0) s = .next (s.settle ((u.inc 0 HIF_FAILOVER_CNT).moveGroups 1).evtMerge))
  ∧ (∀ (s t u : State), s.isPort 1 = true → s.linkUp 1 = true →
    t = ((s.putB 0 HIF_STAT_b_up false).put 0 HIF_STAT_b_speed 0).put 0 HIF_STAT_b_width 0 → t.linkUp 0 = true →
    u = t.raise 1 107 (arg 0 1) → u.portMode ≠ 1 ∨ u.get 0 HIF_STAT_active ≠ 1 →
    exec (.portLinkDown 1) s = .next (s.settle u.evtMerge))
  ∧ (∀ (s t : State) (speed width : Nat), s.isPort 0 = true → s.linkUp 0 = false → linkOk speed width = true →
    t = ((s.putB 0 HIF_STAT_a_up true).put 0 HIF_STAT_a_speed speed).put 0 HIF_STAT_a_width width →
    exec (.portLinkUp 0 speed width) s = .next (s.settle
      (((({ t with hif := { t.hif with portsDown := none } } : State).raise 0 108 (arg 0 0)).tryFailback).alarmCheck)))
  ∧ (∀ (s t : State) (speed width : Nat), s.isPort 1 = true → s.linkUp 1 = false → linkOk speed width = true →
    t = ((s.putB 0 HIF_STAT_b_up true).put 0 HIF_STAT_b_speed speed).put 0 HIF_STAT_b_width width →
    exec (.portLinkUp 1 speed width) s = .next (s.settle
      (((({ t with hif := { t.hif with portsDown := none } } : State).raise 1 108 (arg 0 1)).tryFailback).alarmCheck)))
  ∧ (∀ (s : State), s.isPort 0 = true → s.portMode = 1 → s.get 0 HIF_STAT_active = 1 →
    exec .failback s = .next (s.settle (({ s with hif := { s.hif with failback := true } } : State).tryFailback)))
  ∧ (∀ (s t : State) (d : Nat) (frame : Bytes) (c : Cmd) (m : MRec) (x : HostDl), d < s.nDies → s.nextCmd d 0x80 = some c →
    x = { cmd := c.id, handle := leField c.entry 8 4, flags := leField c.entry 1 1, path := leField c.entry 12 1,
          slot := leField c.entry 13 1, mode := leField c.entry 14 1, time := leField c.entry 16 8,
          bytes := slice frame 0 (leField c.entry 2 2),
          expires := c.fetched + (if leField c.entry 32 4 = 0 then 86400 else leField c.entry 32 4) * Config.tS } →
    dlBad x (leField c.entry 2 2) = false → x.flags % 4 = 0 → x.handle ≠ noHandle → s.dlWaiting x.handle = false →
    s.fetch d c.slot = (some m, t) → bit x.flags 3 = false ∨ m.g rIdKind ≠ 1 →
    exec (.downlink d frame) s = .next (s.settle
      ((t.markStarted c.id).setSec d { t.sec d with hostDls := smPut (t.sec d).hostDls c.slot x })))
  ∧ (∀ (s t : State) (d : Nat) (frame : Bytes) (c : Cmd) (m : MRec) (x : HostDl), d < s.nDies → s.nextCmd d 0x80 = some c →
    x = { cmd := c.id, handle := leField c.entry 8 4, flags := leField c.entry 1 1, path := leField c.entry 12 1,
          slot := leField c.entry 13 1, mode := leField c.entry 14 1, time := leField c.entry 16 8,
          bytes := slice frame 0 (leField c.entry 2 2),
          expires := c.fetched + (if leField c.entry 32 4 = 0 then 86400 else leField c.entry 32 4) * Config.tS } →
    dlBad x (leField c.entry 2 2) = false → x.flags % 4 ≠ 0 → s.isF (x.path % 8) = true → s.dlModeBad x = false → x.handle ≠ noHandle →
    s.dlWaiting x.handle = false → s.fetch d c.slot = (some m, t) → bit x.flags 3 = false →
    exec (.downlink d frame) s = .next (s.settle ((t.markStarted c.id).dlSend x)))
  ∧ (∀ (s : State) (d : Nat) (frame : Bytes) (c : Cmd) (x : HostDl), d < s.nDies → s.nextCmd d 0x80 = some c →
    x = { cmd := c.id, handle := leField c.entry 8 4, flags := leField c.entry 1 1, path := leField c.entry 12 1,
          slot := leField c.entry 13 1, mode := leField c.entry 14 1, time := leField c.entry 16 8,
          bytes := slice frame 0 (leField c.entry 2 2),
          expires := c.fetched + (if leField c.entry 32 4 = 0 then 86400 else leField c.entry 32 4) * Config.tS } →
    dlBad x (leField c.entry 2 2) = false → x.flags % 4 ≠ 0 → s.isF (x.path % 8) = true → s.dlModeBad x = false → x.handle = noHandle →
    exec (.downlink d frame) s = .next (s.settle ((s.markStarted c.id).dlSend x)))
  ∧ (∀ (s : State) (d : Nat) (x : HostDl), s.isF d = true →
    s.hif.timed.find? (fun x => x.path % 8 == d && decide (x.time ≤ s.devTime d + (if bit x.path 3 then 0 else Config.tMs))) = some x →
    exec (.downlinkAtTime d) s = .next (s.settle
      (({ s with hif := { s.hif with timed := s.hif.timed.erase x } } : State).dlLaunch d x x.dl)))
  ∧ (∀ (s : State) (d : Nat), s.isL d = true → d < s.nDies →
    exec (.downlinkExpiry d) s = .next (s.settle
      (((s.sec d).hostDls.filter (fun p => s.due p.2.expires)).foldl (fun (s : State) p => s.complete p.2.cmd 0x0107 (leBytes 9 0))
        (s.setSec d { s.sec d with hostDls := (s.sec d).hostDls.filter (fun p => !s.due p.2.expires) }))))
  ∧ (∀ (s : State) (d : Nat) (c : Cmd), s.isL d = true →
    s.hif.inflight.find? (fun c => c.die == d && c.opcode == 0x81 && !c.sent) = some c → 1 ≤ leField c.entry 1 1 → leField c.entry 1 1 ≤ 4 →
    leField c.entry 32 2 ≠ 0 → leField c.entry 32 2 ≤ (if leField c.entry 1 1 = 4 then 400 else 255) →
    exec (.headEndFrame d) s = .next (s.settle { s with hif := { s.hif with
      inflight := s.hif.inflight.map (fun x => if x.id = c.id then { x with sent := true } else x) } }))
  ∧ (∀ (s : State) (d op status : Nat) (o : LongOp), d < s.nDies → s.longOp d op = some o → o.done = some status →
    exec (.longOperationComplete d op) s = .next (s.settle
      (((s.progress o (if o.aborted then 2 else 1)).complete o.cmd status (leBytes 4 o.countA ++ leBytes 4 o.countB)).dropLong d op)))
  ∧ (∀ (s : State) (d op : Nat) (o : LongOp), d < s.nDies → s.longOp d op = some o → o.repPct < o.percent →
    s.due (o.repTime + 100 * Config.tMs) = true →
    exec (.longOperationProgress d op) s = .next (s.settle (s.progress o 0)))

/-! ### The archive (10_archive_storage) -/

/-- The archive's own rows on an L-die. The controller is enabled over parameter pages that meet R228, a first enable recording the layout
and a later one comparing the host namespace size with it; pages that do not meet R228 leave it Idle with error 0x08 and source 120. A running
controller whose ledger is off is disabled: what waits is programmed and it drains. Its page and amendment streams and column pages go on
where they are due, and dirty mapping pages are written back. A page that programs without error is verified, or if it is a copy awaits its
read-back; a copy read back within refresh_bits takes the mappings, and one above it is copied again. An erased block is counted and
serves what waited, and one whose erase fails is retired. A sector that reads on a retry is counted. A victim is relocated. -/
def Obligations.ArchiveRowsComplete : Prop :=
  (∀ (s u : State) (d luns bpl sectors planes gib pe : Nat) (slc : Bool) (n : Nand), s.isL d = true → s.domOn d 7 = true →
    s.get d ARC_STAT_state = 0 → n = ⟨true, luns, bpl, sectors, planes, slc, gib, pe⟩ → n.good = true →
    u = ((((((s.setArc d { s.arc d with nand := some n }).putB d ARC_CTRL_enable true).put d ARC_STAT_state 1).put d ARC_GEOM_luns
      luns).put d ARC_GEOM_planes (if planes = 4 then 1 else 0)).putB d ARC_GEOM_slc slc).put d ARC_GEOM_raw_gib gib →
    (u.arc d).layout = none →
    exec (.arcEnable d luns bpl sectors planes slc gib pe true) s = .next (s.settle
      (((((u.setLayout d (u.newLayout d n)).putJrn d ((u.setLayout d (u.newLayout d n)).arc d).jrn).putEc d).jrnCheck d).spareCheck d)))
  ∧ (∀ (s u v : State) (d luns bpl sectors planes gib pe : Nat) (slc : Bool) (n : Nand) (l : Layout), s.isL d = true →
    s.domOn d 7 = true → s.get d ARC_STAT_state = 0 → n = ⟨true, luns, bpl, sectors, planes, slc, gib, pe⟩ → n.good = true →
    u = ((((((s.setArc d { s.arc d with nand := some n }).putB d ARC_CTRL_enable true).put d ARC_STAT_state 1).put d ARC_GEOM_luns
      luns).put d ARC_GEOM_planes (if planes = 4 then 1 else 0)).putB d ARC_GEOM_slc slc).put d ARC_GEOM_raw_gib gib →
    (u.arc d).layout = some l → v = u.putB d ARC_STAT_layout_mismatch (l.hostGib != min 256 (u.get d ARC_NS_HOST_gib)) →
    exec (.arcEnable d luns bpl sectors planes slc gib pe true) s = .next (s.settle
      ((((v.putJrn d (v.arc d).jrn).putEc d).jrnCheck d).spareCheck d)))
  ∧ (∀ (s : State) (d luns bpl sectors planes gib pe : Nat) (slc ok : Bool) (n : Nand), s.isL d = true → s.domOn d 7 = true →
    s.get d ARC_STAT_state = 0 → n = ⟨ok, luns, bpl, sectors, planes, slc, gib, pe⟩ → n.good = false →
    exec (.arcEnable d luns bpl sectors planes slc gib pe ok) s = .next (s.settle
      (((s.setArc d { s.arc d with nand := some n }).put d ARC_STAT_error 0x08).raise d 120 (arg 0 0x0408))))
  ∧ (∀ (s t u v : State) (d st : Nat), s.isL d = true → s.get d ARC_STAT_state = 1 → s.flag d LEDG_CTRL_enable = false →
    t = (s.putB d ARC_CTRL_enable false).put d ARC_STAT_state 2 → st = ((t.longOp d 0x45).map (·.abortStatus)).getD 0x010B →
    u = (t.patrolStop d st).programAll d ((t.arc d).entries.length + 1) → v = u.amendAll d ((u.arc d).amends.length + 1) →
    exec (.arcDisable d) s = .next (s.settle ((v.mapBack d).arcDrain d)))
  ∧ (∀ (s t u : State) (d : Nat), s.isL d = true → s.stopped d = false → s.get d ARC_STAT_state ≠ 0 → s.pageDue d = true →
    t = s.programPage d → u = (if t.amendDue d then t.amendPage d else t) →
    exec (.openPageProgram d) s = .next (s.settle (u.columnPump d 128)))
  ∧ (∀ (s t : State) (d : Nat), s.isL d = true → s.stopped d = false → s.get d ARC_STAT_state ≠ 0 → s.pageDue d = false →
    s.amendDue d = true → t = s.amendPage d →
    exec (.openPageProgram d) s = .next (s.settle (t.columnPump d 128)))
  ∧ (∀ (s : State) (d : Nat), s.isL d = true → s.stopped d = false → s.get d ARC_STAT_state ≠ 0 →
    exec (.mapWriteBack d) s = .next (s.settle ((s.mapBack d).arcDrain d)))
  ∧ (∀ (s t u v : State) (d : Nat) (p : Prog), s.isL d = true → s.stopped d = false → s.nextProg d = some p → p.src = none →
    t = s.countProg d 4 →
    u = t.setArc d { (t.arc d).setBlk p.blk { (t.arc d).blk p.blk with done := ((t.arc d).blk p.blk).done + 1 } with
      progs := (s.arc d).progs.erase p } → v = u.verified d p →
    exec (.nandProgramStatus d true) s = .next (s.settle ((v.setArc d (v.arc d).dropAccs).arcDrain d)))
  ∧ (∀ (s t : State) (d : Nat) (p : Prog) (a : Arc), s.isL d = true → s.stopped d = false → s.nextProg d = some p → p.src ≠ none →
    t = s.countProg d 4 → a = (t.arc d).setBlk p.blk { (t.arc d).blk p.blk with done := ((t.arc d).blk p.blk).done + 1 } →
    exec (.nandProgramStatus d true) s = .next (s.settle
      (t.setArc d { a with progs := a.progs.map (fun q => if q = p then { p with programmed := true } else q) })))
  ∧ (∀ (s : State) (d : Nat) (p : Prog), s.isL d = true → s.stopped d = false → s.nextProg d = some p →
    exec (.nandProgramStatus d false) s = .next (s.settle
      (((s.setArc d { s.arc d with progs := (s.arc d).progs.erase p }).progFailed d p).arcDrain d)))
  ∧ (∀ (s t u : State) (d bits : Nat) (p : Prog), s.isL d = true → s.stopped d = false →
    (s.arc d).progs.find? (fun p => p.programmed && s.lineFollows d p) = some p →
    t = s.setArc d { s.arc d with progs := (s.arc d).progs.erase p } → bits ≤ t.refreshBits d → u = t.verified d p →
    exec (.copyVerified d bits) s = .next (s.settle ((u.setArc d (u.arc d).dropAccs).arcDrain d)))
  ∧ (∀ (s t : State) (d bits : Nat) (p : Prog), s.isL d = true → s.stopped d = false →
    (s.arc d).progs.find? (fun p => p.programmed && s.lineFollows d p) = some p →
    t = s.setArc d { s.arc d with progs := (s.arc d).progs.erase p } → t.refreshBits d < bits →
    exec (.copyVerified d bits) s = .next (s.settle (t.arcStart d ((s.arc d).lunOf p.blk) { p with programmed := false })))
  ∧ (∀ (s t u : State) (d b : Nat) (a : Arc), s.isL d = true → s.stopped d = false → s.erasable d b = true →
    a = (s.arc d).setBlk b { ec := ((s.arc d).blk b).ec + 1, rebuilt := ((s.arc d).blk b).rebuilt } →
    t = s.setArc d { a with relocating := a.relocating.filter (fun e => e.1 != b), failed := a.failed.filter (fun e => e.1 != b) } →
    u = (if (s.arc d).relocating.any (fun e => e.1 == b && e.2 == 0) then t.inc d ARC_GC_CNT else t) →
    exec (.nandEraseStatus d b true) s = .next (s.settle (((u.putEc d).arcUnblock d).spareCheck d)))
  ∧ (∀ (s t : State) (d b : Nat), s.isL d = true → s.stopped d = false → s.erasable d b = true →
    t = (s.inc d ARC_ERASE_FAIL_CNT).setArc d
      { s.arc d with health := { (s.arc d).health with eraseFail := (s.arc d).health.eraseFail + 1 } } →
    exec (.nandEraseStatus d b false) s = .next (s.settle (t.retire d b 2)))
  ∧ (∀ (s t : State) (d key : Nat) (x : Place) (rowOk : Bool), s.isL d = true → smGet (s.arc d).map key = some x →
    t = s.inc d ARC_RETRY_CNT → exec (.sectorDecodeFail d key true rowOk) s = .next (s.settle (t.setArc d
      { s.arc d with health := { (s.arc d).health with retried := (s.arc d).health.retried + 1 } })))
  ∧ (∀ (s : State) (d b : Nat), s.isL d = true → s.stopped d = false → s.arcRunning d = true → (s.arc d).victim = some b →
    exec (.garbageCollection d) s = .next (s.settle (s.relocate d b 0)))

/-- The patrol, the daily wear check, the checkpoint pass, the journal, the hourly governor and the trim, on a running controller. The patrol
reads the next block of a pass that a command began, or that is in progress, or is due; with none left it ends, and an aborted pass ends with
its status. The wear check waits a day, and a spread over the limit relocates the closed block with the lowest count. A checkpoint page of a pass
with pages left is written; a pass whose end has come writes its remaining pages and the next begins. One block of each LUN is erased for the
journal, and a LUN whose erase fails retires its block. The governor keeps the hour's sums and shows the life and the write amplification. The
oldest archive block is trimmed where the namespace is low and neither checkpoint nor open billing period needs it. -/
def Obligations.ArchiveUpkeepCompletes : Prop :=
  (∀ (s : State) (d b bits : Nat) (k : Blk), s.isL d = true → s.stopped d = false → s.arcRunning d = true →
    (s.longOp d 0x45).any (fun o => o.aborted) = false →
    (s.arc d).patrolCmd = true ∨ (s.arc d).patrolled.isEmpty = false ∨ s.due (s.arc d).patrolFrom = true →
    (s.arc d).patrolNext = some (b, k) →
    exec (.patrolRead d bits) s = .next (s.settle (s.patrolBlock d b bits k)))
  ∧ (∀ (s : State) (d bits : Nat), s.isL d = true → s.stopped d = false → s.arcRunning d = true → (s.arc d).patrolCmd = true →
    (s.longOp d 0x45).any (fun o => o.aborted) = false → (s.arc d).patrolNext = none →
    exec (.patrolRead d bits) s = .next (s.settle ((s.patrolStop d 0).patrolEnd d)))
  ∧ (∀ (s : State) (d bits : Nat) (o : LongOp), s.isL d = true → s.stopped d = false → s.arcRunning d = true →
    (s.arc d).patrolCmd = true → s.longOp d 0x45 = some o → o.aborted = true →
    exec (.patrolRead d bits) s = .next (s.settle (s.patrolStop d o.abortStatus)))
  ∧ (∀ (s t : State) (d : Nat), s.isL d = true → s.stopped d = false → s.arcRunning d = true → s.due (s.arc d).wearNext = true →
    t = s.setArc d { s.arc d with wearNext := s.now + 86400 * 10 ^ 8 } → (s.arc d).ecMax ≤ (s.arc d).ecMin + t.get d ARC_WEAR_spread →
    exec (.wearLevelCheck d) s = .next (s.settle t))
  ∧ (∀ (s t : State) (d b : Nat), s.isL d = true → s.stopped d = false → s.arcRunning d = true → s.due (s.arc d).wearNext = true →
    t = s.setArc d { s.arc d with wearNext := s.now + 86400 * 10 ^ 8 } → (s.arc d).ecMin + t.get d ARC_WEAR_spread < (s.arc d).ecMax →
    (s.arc d).leastWorn = some b →
    exec (.wearLevelCheck d) s = .next (s.settle (t.relocate d b 4)))
  ∧ (∀ (s : State) (d : Nat), s.isL d = true → s.stopped d = false → s.arcRunning d = true → (s.arc d).ckptLeft ≠ 0 →
    s.ckptBound d = false →
    exec (.checkpointPass d) s = .next (s.settle (s.ckptPage d)))
  ∧ (∀ (s t u : State) (d : Nat), s.isL d = true → s.stopped d = false → s.arcRunning d = true → s.ckptBound d = true →
    t = s.ckptRest d (s.arc d).ckptLeft → u = t.setArc d { t.arc d with ckptLeft := ckptPages, ckptStart := t.now, ckptLog := 0 } →
    exec (.checkpointPass d) s = .next (s.settle (u.ckptPage d)))
  ∧ (∀ (s : State) (d bad : Nat) (a a' : Arc) (l : List Nat), s.isL d = true → s.stopped d = false → s.arcRunning d = true → a = s.arc d →
    a.jrn.length < max 4 (min 32 (s.get d ARC_CFG_jrn_target)) → (List.range a.luns).filterMap a.freeBlock = l → l.length = a.luns →
    a.luns ≤ bad → a' = l.foldl (fun a b => a.setBlk b { a.blk b with ec := (a.blk b).ec + 1, st := .journal }) a →
    exec (.journalBlockErase d bad) s = .next (s.settle
      ((((s.setArc d a').putJrn d (a'.jrn ++ [l])).jrnCheck d).putEc d)))
  ∧ (∀ (s t : State) (d bad b : Nat) (a : Arc) (l : List Nat), s.isL d = true → s.stopped d = false → s.arcRunning d = true → a = s.arc d →
    a.jrn.length < max 4 (min 32 (s.get d ARC_CFG_jrn_target)) → (List.range a.luns).filterMap a.freeBlock = l → l.length = a.luns →
    bad < a.luns → b = l.getD bad 0 →
    t = (s.inc d ARC_ERASE_FAIL_CNT).setArc d { a with health := { a.health with eraseFail := a.health.eraseFail + 1 } } →
    exec (.journalBlockErase d bad) s = .next (s.settle (t.retire d b 2)))
  ∧ (∀ (s t u : State) (d days wa : Nat) (a : Arc), s.isL d = true → s.arcRunning d = true → a = s.arc d → s.due a.govNext = true →
    t = s.setArc d { a with
      govNext := s.now + 3600 * 10 ^ 8, hours := ((a.hourFull, a.hourApp, a.hourProg) :: a.hours).take 256,
      hourFull := 0, hourApp := 0, hourProg := 0,
      health := { a.health with
        summaryHours := a.health.summaryHours + b2n (s.flag d ARC_STAT_summary),
        tempHours := hourCount a.health.tempHours (s.getZ d PWR_TEMP_tj) } } →
    days = lifeDays (govLife (t.arcBudget d) (t.govSums d) (t.govSums d).2.2.1) →
    wa = (if (t.govSums d).2.2.1 = 0 then 100 else min 0xFFFF (100 * (t.govSums d).2.2.2 / (t.govSums d).2.2.1)) →
    u = (t.put d ARC_LIFE_days days).put d ARC_LIFE_wa wa → u.flag d ARC_CTRL_gov_en = false →
    exec (.governorRun d) s = .next (s.settle u))
  ∧ (∀ (s t u : State) (d b first : Nat) (a : Arc) (e : Blk) (units : List Nat), s.isL d = true → s.stopped d = false →
    s.arcRunning d = true → a = s.arc d → s.logLow d = true →
    a.blocks.any (fun e => e.2.st == .closed && decide (a.valid e.1 < 4 * e.2.used)) = false →
    a.trimBlock = some (b, e) → units = a.logUnits b → a.seqAfter units ≤ a.ckptOldest → s.holdsOpenColumn d units = false →
    t = s.setArc d (a.trimmed units) → first = t.firstHeld d →
    u = (t.put2 d ARC_FIRST_LO_first_lo ARC_FIRST_HI_first_hi first).inc d ARC_TRIM_CNT →
    exec (.archiveTrim d) s = .next (s.settle (if limiterOpen a.lim119 u.now (86400 * 10 ^ 8) then
      (u.setArc d { u.arc d with lim119 := some u.now }).raise d 119 (arg 0 first) else u)))

/-- The archive's ring commands on a running controller. Entries from a number still held are read, up to the byte count and to a lost
entry, and the next number is reported. The health report is read. A range of the host namespace with no lost sector is read, a sector never written as a free
value; a range is written while the spare pool is above its minimum, and completes once its pages are verified; a range is
trimmed. A patrol pass starts as a long operation where none runs. A format with its key, the ledger and the queues disabled and no host
write in progress, erases the blocks and records the layout of the registers. -/
def Obligations.ArchiveCommandsComplete : Prop :=
  (∀ (s t u : State) (d next : Nat) (c : Cmd) (l : List ArcEntry) (b : Bytes) (pages : List (Nat × Nat × Nat)), s.isL d = true →
    s.nextCmd d 0x40 = some c → s.arcRunning d = true → 64 ≤ c.op 24 4 → c.op 24 4 ≤ 1048576 →
    s.get2 d ARC_FIRST_LO_first_lo ARC_FIRST_HI_first_hi ≤ c.op 16 8 →
    l = takeEntries (s.arc d).lostSeqs ((s.arc d).entries.filter (fun e => decide (c.op 16 8 ≤ e.seq))) (c.op 24 4) →
    next = nextSeq l (c.op 16 8) → (s.arc d).lostSeqs.contains next = false →
    b = l.flatMap ArcEntry.bytes →
    pages = (s.arc d).pageSeqs.filter (fun p => l.any (fun e => decide (p.2.1 ≤ e.seq ∧ e.seq < p.2.2))) →
    t = s.mapTouchAll d (pages.map (fun p => keyPage p.1)) →
    u = t.setArc d { t.arc d with health := { (t.arc d).health with read := (t.arc d).health.read + 16384 * pages.length } } →
    exec (.readArchive d) s = .next (s.settle
      ((u.toHost c.port (c.op 32 8) b).complete c.id 0 (leBytes 8 next ++ leBytes 4 l.length ++ leBytes 4 b.length))))
  ∧ (∀ (s : State) (d : Nat) (c : Cmd), s.isL d = true → s.nextCmd d 0x41 = some c → s.arcRunning d = true →
    exec (.readHealth d) s = .next (s.settle ((s.toHost c.port (c.op 16 8) (s.healthReport d)).complete c.id 0)))
  ∧ (∀ (s t u : State) (d f n : Nat) (c : Cmd), s.isL d = true → s.nextCmd d 0x42 = some c → s.arcRunning d = true →
    c.op 16 8 = f → c.op 24 2 = n → n ≠ 0 → n ≤ 256 → c.op 32 8 % 4096 = 0 → s.hostRange d f n = true →
    (List.range n).any (fun i => (s.arc d).hostLost.contains (f + i)) = false →
    t = s.mapTouchAll d ((List.range n).map (fun i => keyHost (f + i))) →
    u = (List.range n).foldl (fun (s : State) i =>
      (match smGet (s.arc d).host (f + i) with
        | some b => (slice b 0 4096, s)
        | none => s.freeBytes 4096).2.toHost c.port (c.op 32 8 + 4096 * i)
          (match smGet (s.arc d).host (f + i) with
            | some b => (slice b 0 4096, s)
            | none => s.freeBytes 4096).1) t →
    exec (.hostRead d) s = .next (s.settle ((u.setArc d { u.arc d with
      health := { (u.arc d).health with read := (u.arc d).health.read + 4096 * n } }).complete c.id 0)))
  ∧ (∀ (s : State) (d f n : Nat) (data : Bytes) (c : Cmd) (groups : List (List Nat)), s.isL d = true → s.nextCmd d 0x43 = some c →
    s.arcRunning d = true → c.op 16 8 = f → c.op 24 2 = n → n ≠ 0 → n ≤ 256 → c.op 32 8 % 4096 = 0 → s.hostRange d f n = true →
    s.flag d ARC_STAT_spare_min = false → groups = chunk4 ((List.range n).map (fun i => keyHost (f + i))) →
    exec (.hostWrite d data) s = .next (s.settle ((List.range groups.length).foldl (fun (s : State) i => s.arcWrite d
      { keys := groups.getD i [], stream := 1, data := slice data (16384 * i) 16384, cmd := some c.id }) (s.markStarted c.id))))
  ∧ (∀ (s t : State) (d f n : Nat) (c : Cmd) (keys : List Nat) (a : Arc), s.isL d = true → s.nextCmd d 0x44 = some c →
    s.arcRunning d = true → c.op 16 8 = f → c.op 24 4 = n → s.hostRange d f n = true →
    keys = ((s.arc d).map.filter (fun e => keyKind e.1 == 2 && decide (f ≤ keyNo e.1 ∧ keyNo e.1 < f + n))).map (·.1) →
    t = s.mapTouchAll d keys → a = keys.foldl (fun a k => a.unplace k) (t.arc d) →
    exec (.hostTrim d) s = .next (s.settle ((t.setArc d { a with
      host := a.host.filter (fun e => !decide (f ≤ e.1 ∧ e.1 < f + n)),
      hostLost := a.hostLost.filter (fun k => !decide (f ≤ k ∧ k < f + n)) }).complete c.id 0)))
  ∧ (∀ (s t : State) (d : Nat) (c : Cmd), s.isL d = true → s.nextCmd d 0x45 = some c → s.arcRunning d = true → s.longOp d 0x45 = none →
    t = s.setArc d { s.arc d with
      patrolled := [], eraseChecked := [], patrolBits := 0, patrolPages := 0, patrolRefreshed := 0, patrolCmd := true } →
    exec (.patrolPass d) s = .next (s.settle
      (((t.put d ARC_PATROL_PROG_percent 0).putB d ARC_PATROL_PROG_running true).startLong { cmd := c.id, die := d, opcode := 0x45 })))
  ∧ (∀ (s t u v : State) (d n : Nat) (c : Cmd) (l : Layout), s.isL d = true → s.nextCmd d 0x46 = some c → s.arcRunning d = true →
    c.op 16 1 = 0xA5 → s.flag d LEDG_CTRL_enable = false → [0, 1, 2, 3].any (fun q => s.flag d QUE_n_CTRL_enable q) = false →
    ((s.arc d).progs ++ (s.arc d).blocked).any (fun p => p.cmd.isSome) = false →
    (s.arc d).layout = some l → s.arcNext d = n → t = s.setArc d ((s.arc d).formatted n) →
    u = t.setLayout d { l with
      hostGib := min 256 (t.get d ARC_NS_HOST_gib), made := t.devTime d, paired := none, package := none, number := none } →
    v = (u.put2 d ARC_FIRST_LO_first_lo ARC_FIRST_HI_first_hi n).putB d ARC_STAT_layout_mismatch false →
    exec (.format d) s = .next (s.settle ((((v.putJrn d []).jrnCheck d).spareCheck d).complete c.id 0)))

/-! ### The mirror, fencing and redundancy (11_substitute_redundancy) -/

/-- The mirror rows on an L-die. A Substitute or Resyncing die with room in its archive takes the first mirror message for it: its items are applied in order and it
is confirmed. The first confirmation for a die ends what was outstanding up to it, is counted with its latency, and releases what waited. A
confirmation overdue while the wire lives makes what it covers unprotected, and the partner is declared failed with cause 3. A heartbeat of a
running partner notes its fault flag, the link and a faultless wire. A path silent too long is in fault, with source 130 where the other
lives and the partner declared failed with cause 1 where it does not; a partner that reports a fault is declared failed with cause 2. A faulted
wire is restored with the partner's, and a faulted link after 10 ms of life. A Fenced die restarts where it may and is cool. A granted fence
lets a Substitute take over, and an Active die go on alone. An own fatal fault is reported. A resynchronisation ends with the whole mirror
set copied, and an archive catches up with the entries it lacks. -/
def Obligations.MirrorRowsComplete : Prop :=
  (∀ (s t u : State) (d : Nat) (m : MirMsg), s.isL d = true → s.role d = 2 ∨ s.role d = 3 → s.arcFull d = false →
    s.mirrors.find? (fun m => m.dst == d) = some m → t = { s with mirrors := s.mirrors.erase m } →
    u = m.items.foldl (fun (s : State) i => s.mirApply d i) t →
    exec (.mirrorMessage d) s = .next (s.settle { u with confirms := u.confirms ++ [(m.src, m.seq)] }))
  ∧ (∀ (s t u v : State) (d n at_ : Nat), s.isL d = true → s.confirms.find? (fun c => c.1 == d) = some (d, n) →
    t = { s with confirms := s.confirms.erase (d, n) } → (t.mir d).outstanding.find? (fun o => o.1 == n) = some (n, at_) →
    u = (t.setMir d { t.mir d with
      outstanding := (t.mir d).outstanding.filter (fun o => decide (n < o.1)),
      unconf := (t.mir d).unconf.filter (fun u => decide (n < u.1)) }).inc d MIRR_CONF_CNT →
    v = u.put d MIRR_LAT_max (max (u.get d MIRR_LAT_max) (min 0xFFFF ((u.now - at_) / 10))) →
    exec (.mirrorConfirm d) s = .next (s.settle (v.mirRelease d (fun k => decide (k ≤ n)))))
  ∧ (∀ (s t u : State) (d n at_ : Nat) (rest : List (Nat × Nat)), s.isL d = true → (s.mir d).outstanding = (n, at_) :: rest →
    s.mirroring d = true → (s.mir d).wireFault = false → s.due (at_ + s.confirmTicks d) = true →
    t = (s.markUnprotected d).mirRelease d (fun _ => true) → u = t.setMir d { t.mir d with outstanding := [], unconf := [] } →
    exec (.mirrorConfirmTimeout d) s = .next (s.settle ((((u.putPair d 2).inc d MIRR_TIMEOUT_CNT).declareFailed d 3).raise d 131)))
  ∧ (∀ (s t : State) (d : Nat), s.isL d = true → s.partnerUp d = true →
    (s.mir (partnerOf d)).ownFault = false ∨ s.due ((s.mir (partnerOf d)).ownFaultAt + 10 * Config.tUs) = false →
    t = (s.setMir d { s.mir d with partnerFault := (s.mir (partnerOf d)).ownFault }).pathSeen d false →
    exec (.heartbeatMessage d) s = .next (s.settle (if (t.mir d).wireFault then t else t.pathSeen d true)))
  ∧ (∀ (s t : State) (d : Nat) (m : Mirror), s.isL d = true → s.mir d = m → s.inPair d = true → m.fencing = false →
    s.pkg.fenced.contains (partnerOf d) = false → s.role d ≠ 0 → s.role d < 4 → s.role (partnerOf d) ≠ 6 →
    (s.mir (partnerOf d)).ownFault = false → m.wireFault = false → s.due (m.wireSeen + s.silenceTicks d) = true →
    t = (s.setMir d { m with wireFault := true, wireLive := none }).putB d MIRR_STAT_wire_ok false →
    exec (.pathSilence d true) s = .next (s.settle
      (if m.linkFault then t.declareFailed d 1 else (t.inc d MIRR_PATHFAULT_CNT).raise d 130 (arg 0 1))))
  ∧ (∀ (s t : State) (d : Nat) (m : Mirror), s.isL d = true → s.mir d = m → s.inPair d = true → m.fencing = false →
    s.pkg.fenced.contains (partnerOf d) = false → s.role d ≠ 0 → s.role d < 4 → s.role (partnerOf d) ≠ 6 →
    (s.mir (partnerOf d)).ownFault = false → m.linkFault = false → s.due (m.linkSeen + s.silenceTicks d) = true →
    t = (s.setMir d { m with linkFault := true, linkLive := none }).putB d MIRR_STAT_link_ok false →
    exec (.pathSilence d false) s = .next (s.settle
      (if m.wireFault then t.declareFailed d 1 else (t.inc d MIRR_PATHFAULT_CNT).raise d 130 (arg 0 0))))
  ∧ (∀ (s : State) (d : Nat) (wire : Bool) (m : Mirror), s.isL d = true → s.mir d = m → s.inPair d = true → m.fencing = false →
    s.pkg.fenced.contains (partnerOf d) = false → s.role d ≠ 0 → s.role d < 4 → s.role (partnerOf d) ≠ 6 →
    (s.mir (partnerOf d)).ownFault = true → s.due ((if wire then m.wireSeen else m.linkSeen) + s.faultQuiet d) = true →
    exec (.pathSilence d wire) s = .next (s.settle (s.declareFailed d 2)))
  ∧ (∀ (s : State) (d : Nat) (m : Mirror), s.isL d = true → s.mir d = m → m.wireFault = true → s.partnerUp d = true →
    exec (.pathRestored d true) s = .next (s.settle
      (((s.setMir d { m with wireFault := false, wireLive := none, wireSeen := s.now }).putB d MIRR_STAT_wire_ok true).raise d 130
        (arg 0 1 + arg 1 1))))
  ∧ (∀ (s : State) (d at_ : Nat) (m : Mirror), s.isL d = true → s.mir d = m → m.linkFault = true → m.linkLive = some at_ →
    s.due (at_ + 10 * Config.tMs) = true →
    exec (.pathRestored d false) s = .next (s.settle
      (((s.setMir d { m with linkFault := false, linkLive := none }).putB d MIRR_STAT_link_ok true).raise d 130 (arg 1 1))))
  ∧ (∀ (s : State) (d : Nat), s.isL d = true → s.pkg.fenced.contains d = true → s.role d = 4 →
    s.inPair d = false ∨ s.serving (partnerOf d) = false ∨ s.flag (partnerOf d) MIRR_CTRL_auto_resync = true → s.coolEnough d = true →
    exec (.fencedDieRestart d) s = .next (s.settle (s.unfence d)))
  ∧ (∀ (s t u : State) (d : Nat), s.isL d = true → (s.mir d).fencing = true → (s.mir (partnerOf d)).fencing = false →
    t = s.setMir d { s.mir d with fencing := false } → t.role d = 2 → t.role (partnerOf d) = 1 →
    u = ((t.copyRun (partnerOf d) d).reroute (partnerOf d) d).fenceDie (partnerOf d) → u.stage d ≠ 0 →
    exec (.fenceConfirmed d) s = .next (s.settle
      ((u.takeover d (t.queSeqs (partnerOf d))).ppsAfter d (t.flag (partnerOf d) CLK_STAT_master) (t.disc (partnerOf d)).ppsSec)))
  ∧ (∀ (s t u v w : State) (d : Nat), s.isL d = true → (s.mir d).fencing = true → t = s.setMir d { s.mir d with fencing := false } →
    t.role d ≠ 2 → t.role (partnerOf d) ≠ 1 → s.role (partnerOf d) ≠ 1 → u = (t.markUnprotected d).mirRelease d (fun _ => true) →
    v = u.setMir d { u.mir d with outstanding := [], unconf := [], opened := [] } →
    w = (v.fenceDie (partnerOf d)).putPair d 2 →
    exec (.fenceConfirmed d) s = .next (s.settle (if v.get d MIRR_STAT_pair_state = 2 then w else w.raise d 131)))
  ∧ (∀ (s : State) (d : Nat), s.isL d = true → exec (.ownFatalFault d) s = .next (s.settle (s.ownFault d)))
  ∧ (∀ (s t : State) (d : Nat), s.isL d = true → s.role d = 3 → s.role (partnerOf d) = 1 → s.flag d MIRR_RS_PROG_running = true →
    t = ((((((s.drainMirror (partnerOf d)).bulkCopy (partnerOf d) d).put d MIRR_STAT_role 2).putPair d 1).putB d
      MIRR_RS_PROG_running false).putB d MIRR_RS_PROG_done true).put d MIRR_RS_PROG_percent 100 →
    exec (.resyncComplete d) s = .next (s.settle
      ((((t.inc d MIRR_RESYNC_CNT).put d MIRR_ARC_LAG_entries (t.arcLag d)).resyncDone d).raise (partnerOf d) 132)))
  ∧ (∀ (s : State) (d : Nat), s.isL d = true → s.role d = 2 → s.get d MIRR_ARC_LAG_entries ≠ 0 →
    exec (.arcCatchupComplete d) s = .next (s.settle
      (((((s.arc (partnerOf d)).entries.filter (fun e => decide (s.arcNext d ≤ e.seq))).foldl
        (fun (s : State) e => s.arcPut d e) s).put d MIRR_ARC_LAG_entries 0).raise d 137)))

/-- The mirror's commands and the loss of an F-die. A switchover of a Protected pair swaps the roles and answers with the partner's device
time. A Fenced or Failed die of a pair is let back by a resync, and a Failed die by a release: it restarts, or stays held, Fenced. A lost F-die
is fenced with source 136, the answers for it are dropped, and its following timetables go on elsewhere. A test that passes is counted; one that
fails on an F-die raises source 66, and on an L-die that is alone it is counted with source 133. The report card is read. A valid image is staged
into the bank that is not preferred. A Substitute is updated by a restart and resynchronisation, a Single die's cores with the data path going on. -/
def Obligations.MirrorCommandsComplete : Prop :=
  (∀ (s t : State) (d : Nat) (c : Cmd), s.isL d = true → s.nextCmd d 0x50 = some c → s.inPair d = true → s.role d = 1 →
    s.get d MIRR_STAT_pair_state = 1 → t = s.swapRoles d →
    exec (.switchover d) s = .next (s.settle (t.complete c.id 0 (leBytes 8 (t.devTime (partnerOf d))))))
  ∧ (∀ (s : State) (d : Nat) (c : Cmd), s.isL d = true → s.nextCmd d 0x51 = some c → s.inPair d = true → s.role d = 4 ∨ s.role d = 5 →
    s.pairBusy d = false →
    exec (.resync d) s = .next (s.settle ((s.startLong { cmd := c.id, die := d, opcode := 0x51 }).unfence d)))
  ∧ (∀ (s t : State) (d : Nat) (c : Cmd), s.isL d = true → s.nextCmd d 0x55 = some c → s.role d = 5 →
    t = ({ s with pkg := { s.pkg with failures := s.pkg.failures.filter (fun f => f.1 != d) } } : State).put d MIRR_STAT_role 4 →
    t.inPair d = false ∨ t.serving (partnerOf d) = false ∨ c.op 16 1 % 2 = 1 →
    exec (.release d) s = .next (s.settle ((t.unfence d).complete c.id 0)))
  ∧ (∀ (s t : State) (d : Nat) (c : Cmd), s.isL d = true → s.nextCmd d 0x55 = some c → s.role d = 5 →
    t = ({ s with pkg := { s.pkg with failures := s.pkg.failures.filter (fun f => f.1 != d) } } : State).put d MIRR_STAT_role 4 →
    t.inPair d = true → t.serving (partnerOf d) = true → c.op 16 1 % 2 = 0 →
    exec (.release d) s = .next (s.settle (t.complete c.id 0)))
  ∧ (∀ (s t u v : State) (d f : Nat), s.isL d = true → s.isF f = true → s.serving d = true → s.pkg.fenced.contains f = false →
    t = { s with pkg := { s.pkg with fenced := s.pkg.fenced ++ [f] } } → u = (t.dieReset f false).raise d 136 (arg 0 f) →
    v = u.setMir d { u.mir d with waits := (u.mir d).waits.filter (fun w => !w.2.releases f) } →
    exec (.fdieLost d f) s = .next (s.settle
      ((((List.range v.variant.fDies).map v.fIndex).filter (fun o => o != f && v.alive o)).foldl
        (fun (s : State) o => s.followTakeover o) v)))
  ∧ (∀ (s : State) (d id corrected : Nat), d < s.nDies → testOf (s.isL d) id = true → s.alive d = true →
    exec (.invigilatorTest d id corrected false) s = .next (s.settle (s.testCount d id corrected false)))
  ∧ (∀ (s t : State) (d id corrected : Nat), d < s.nDies → testOf (s.isL d) id = true → s.alive d = true →
    t = s.testCount d id corrected true → t.isF d = true →
    exec (.invigilatorTest d id corrected true) s = .next (s.settle (t.raise d 66 (arg 0 id))))
  ∧ (∀ (s t : State) (d id corrected : Nat), d < s.nDies → testOf (s.isL d) id = true → s.alive d = true →
    t = ((s.testCount d id corrected true).inc d MIRR_INVIG_FAIL_CNT).raise d 133 (arg 0 id) →
    (s.testCount d id corrected true).isF d = false → t.role d ≠ 2 → t.role d ≠ 1 →
    exec (.invigilatorTest d id corrected true) s = .next (s.settle t))
  ∧ (∀ (s : State) (d : Nat) (c : Cmd), d < s.nDies → s.nextCmd d 0x54 = some c →
    exec (.readReportCard d) s = .next (s.settle ((s.toHost c.port (c.op 16 8) (s.reportCard d)).complete c.id 0)))
  ∧ (∀ (s t : State) (d bank : Nat) (img : Image) (c : Cmd), s.isL d = true → s.nextCmd d 0x52 = some c → c.op 24 4 ≠ 0 →
    c.op 24 4 ≤ 16 * 2 ^ 20 → s.hif.longOps.any (fun o => o.opcode == 0x52 && o.done.isNone) = false →
    signerOk (s.lock d).lc img.signer = true → img.mainOk = true →
    (s.lock d).fuses.svn ≤ img.svn → bank = (if s.boot.preferred = 0 then 1 else 0) →
    t = (s.setBoot { s.boot with images := smPut s.boot.images bank img, preferred := bank, trial := some bank }).raise d 134 (arg 0 1) →
    exec (.stageFirmware d img) s = .next (s.settle
      ((t.startLong { cmd := c.id, die := d, opcode := 0x52 }).setLong
        { cmd := c.id, die := d, opcode := 0x52, percent := 100, countA := img.version, done := some 0 })))
  ∧ (∀ (s t u v : State) (d : Nat) (img : Image) (c : Cmd), d < s.nDies → s.nextCmd d 0x53 = some c → s.boot.nextImage = some img →
    s.isF d = false → s.pairBusy d = false → s.inPair d = true → s.role d = 2 → s.get d MIRR_STAT_pair_state = 1 →
    t = ((((s.startLong { cmd := c.id, die := d, opcode := 0x53, pos := 3 }).drainMirror (partnerOf d)).portFailover d).dieReset d false) →
    u = ((t.put d MIRR_STAT_role 6).putPair d 2) →
    v = ((u.putB d MIRR_FW_PROG_running true).putB d MIRR_FW_PROG_done false).put d MIRR_FW_PROG_step 3 →
    exec (.updateDie d) s = .next (s.settle ((v.setBootDie d { since := v.now, alone := true }).raise (partnerOf d) 131)))
  ∧ (∀ (s t u : State) (d : Nat) (img : Image) (c : Cmd), d < s.nDies → s.nextCmd d 0x53 = some c → s.boot.nextImage = some img →
    s.isF d = false → s.pairBusy d = false → s.inPair d = false → s.role d = 0 → img.svn ≤ (s.lock d).fuses.svn →
    t = s.setBootDie d { s.bootDie d with pendingVersion := some img.version, version := img.version } →
    u = ((t.putB d MIRR_STAT_meas_pending true).putB d MIRR_FW_PROG_done true).raise d 134 (arg 0 3) →
    exec (.updateDie d) s = .next (s.settle
      ((u.startLong { cmd := c.id, die := d, opcode := 0x53 }).setLong
        { cmd := c.id, die := d, opcode := 0x53, percent := 100, countA := img.version, done := some 0 })))

/-! ### The Eufer fabric (12_eufer_fabric) -/

/-- The rows of the ports and flows on an L-die. A port is enabled, and trains once the package's dies are restored. It comes up on four or two
lanes with source 138 and its neighbour, and waits to retrain on another count; after 100 ms it trains again. A link that is up goes down:
the port waits to train, its neighbour and what was outstanding are forgotten, source 138, and the routes follow; a draining port is
done. A port is disabled: one that is up drains, one that is not is Idle with source 138. A flit with a bad check sequence is asked for
again; the next flit is taken with the message it completes, and the far end's acknowledgement frees what was outstanding, unless it is the
32nd replay without progress. A control message goes to the package's control messages, a ledger message for this package to the
flow of its die, and one for another package on with its ttl reduced; one whose ttl is 0 is discarded and counted. A message of a
flow that is the next is delivered, one that is not is dropped, each owing an acknowledgement; an acknowledgement owed for 20 us is sent; a flow without progress for
200 us is sent again; and messages without a route for unreach_ms are dropped and counted. -/
def Obligations.FabricLinksComplete : Prop :=
  (∀ (s t : State) (d : Nat), s.isL d = true → s.domOn d 11 = true →
    t = (s.putB d EUF_CTRL_enable true).putB d EUF_STAT_cfg_error false →
    t.get d EUF_STAT_port_state = 0 → t.allRestored = true → t.domOn d 11 = true →
    exec (.eufPortEnable d) s = .next (s.settle ((t.put d EUF_STAT_port_state 1).setEuf d { t.euf d with since := t.now })))
  ∧ (∀ (s t u : State) (d lanes far : Nat), s.isL d = true → s.get d EUF_STAT_port_state = 1 → lanes = 4 ∨ lanes = 2 →
    t = ((s.put d EUF_STAT_port_state (if lanes = 4 then 2 else 3)).put d EUF_NEIGH_addr far).putB d EUF_NEIGH_valid true →
    u = t.setEuf d { t.euf d with txNext := 0, rxNext := 0, out := [], progress := t.now, replays := 0, answer := none } →
    exec (.linkTrainingComplete d lanes far) s = .next (s.settle
      (((u.raise d 138 (arg 0 (if lanes = 4 then 1 else 2))).linkEvent).greet d)))
  ∧ (∀ (s : State) (d lanes far : Nat), s.isL d = true → s.get d EUF_STAT_port_state = 1 → lanes ≠ 4 → lanes ≠ 2 →
    exec (.linkTrainingComplete d lanes far) s = .next (s.settle
      ((s.put d EUF_STAT_port_state 4).setEuf d { s.euf d with since := s.now })))
  ∧ (∀ (s t : State) (d : Nat), s.isL d = true → s.get d EUF_STAT_port_state = 4 →
    s.due ((s.euf d).since + 100 * Config.tMs) = true → t = s.put d EUF_STAT_port_state 1 →
    exec (.linkRetrain d) s = .next (s.settle (t.setEuf d { t.euf d with since := t.now })))
  ∧ (∀ (s t : State) (d : Nat), s.isL d = true → s.get d EUF_STAT_port_state = 2 ∨ s.get d EUF_STAT_port_state = 3 →
    t = ((s.put d EUF_STAT_port_state 4).putB d EUF_NEIGH_valid false).inc d EUF_LINKDOWN_CNT →
    exec (.linkDown d) s = .next (s.settle
      ((((t.setEuf d { t.euf d with since := t.now, out := [] }).raise d 138 (arg 0 0)).linkEvent).coordLost)))
  ∧ (∀ (s : State) (d : Nat), s.isL d = true → s.get d EUF_STAT_port_state = 5 →
    exec (.linkDown d) s = .next (s.settle ((s.setEuf d { s.euf d with out := [] }).eufDrained d)))
  ∧ (∀ (s : State) (d : Nat), s.isL d = true → s.get d EUF_STAT_port_state = 2 ∨ s.get d EUF_STAT_port_state = 3 →
    exec (.eufPortDisable d) s = .next (s.settle
      ((((((s.putB d EUF_CTRL_enable false).putB d EUF_NEIGH_valid false).linkChange).put d EUF_STAT_port_state 5).eufDrained d))))
  ∧ (∀ (s : State) (d : Nat), s.isL d = true → s.get d EUF_STAT_port_state = 1 ∨ s.get d EUF_STAT_port_state = 4 →
    exec (.eufPortDisable d) s = .next (s.settle
      (((s.putB d EUF_CTRL_enable false).put d EUF_STAT_port_state 0).raise d 138 (arg 0 3))))
  ∧ (∀ (s t u : State) (d ackTo st : Nat) (x : FabMsg) (e : Euf) (out : List (Nat × FabMsg)), s.isL d = true →
    s.get d EUF_STAT_port_state = st → st = 2 ∨ st = 3 → out = (s.euf d).out.filter (fun o => decide (ackTo ≤ o.1)) →
    e = { s.euf d with
      out := out, progress := if out.length < (s.euf d).out.length then s.now else (s.euf d).progress,
      replays := if out.length < (s.euf d).out.length then 0 else (s.euf d).replays, rxNext := (s.euf d).rxNext + 1 } →
    t = s.setEuf d { e with answer := some (false, e.rxNext) } →
    u = (t.inc d EUF_RX_MSG_CNT).setEuf d { t.euf d with inq := (t.euf d).inq ++ [x] } → (u.euf d).replays < 32 →
    exec (.flitReceived d (s.euf d).rxNext true ackTo false (some x)) s = .next (s.settle (u.eufDrained d)))
  ∧ (∀ (s : State) (d seq ackTo st : Nat) (nack : Bool) (m : Option FabMsg), s.isL d = true →
    s.get d EUF_STAT_port_state = st → st = 2 ∨ st = 3 ∨ st = 5 →
    exec (.flitReceived d seq false ackTo nack m) s = .next (s.settle
      (s.setEuf d { s.euf d with answer := some (true, (s.euf d).rxNext) })))
  ∧ (∀ (s t : State) (d : Nat) (m : FabMsg) (c : FabCtl) (rest : List FabMsg), s.isL d = true → (s.euf d).inq = m :: rest →
    m.body = .ctl c → t = s.setEuf d { s.euf d with inq := rest } →
    exec (.fabricMessage d) s = .next (s.settle (t.setFab { t.fab with inbox := t.fab.inbox ++ [c] })))
  ∧ (∀ (s t : State) (d k : Nat) (m : FabMsg) (b : LedBody) (rest : List FabMsg), s.isL d = true → (s.euf d).inq = m :: rest →
    m.body = .led b → t = s.setEuf d { s.euf d with inq := rest } → t.flag d EUF_STAT_excluded = false → m.dst / 8 = t.ownPkg d →
    t.numbered = true → t.deliverDie m.dst = k → t.isL k = true →
    exec (.fabricMessage d) s = .next (s.settle (t.setEuf k { t.euf k with flowIn := (t.euf k).flowIn ++ [m] })))
  ∧ (∀ (s t : State) (d h : Nat) (m : FabMsg) (b : LedBody) (rest : List FabMsg), s.isL d = true → (s.euf d).inq = m :: rest →
    m.body = .led b → t = s.setEuf d { s.euf d with inq := rest } → t.flag d EUF_STAT_excluded = false → m.dst / 8 ≠ t.ownPkg d →
    m.ttl ≠ 0 → t.hopFor d m.src m.dst m.cls = some h →
    exec (.fabricMessage d) s = .next (s.settle (t.portSend h { m with ttl := m.ttl - 1 })))
  ∧ (∀ (s t : State) (d : Nat) (m : FabMsg) (b : LedBody) (rest : List FabMsg), s.isL d = true → (s.euf d).inq = m :: rest →
    m.body = .led b → t = s.setEuf d { s.euf d with inq := rest } → t.flag d EUF_STAT_excluded = false → m.dst / 8 ≠ t.ownPkg d →
    m.ttl = 0 →
    exec (.fabricMessage d) s = .next (s.settle (t.inc d EUF_TTL_CNT)))
  ∧ (∀ (s t : State) (d : Nat) (m : FabMsg) (b : LedBody) (rest : List FabMsg) (r : FlowDst), s.isL d = true →
    (s.euf d).flowIn = m :: rest → t = s.setEuf d { s.euf d with flowIn := rest } →
    (t.flowSrc d m.cls m.src).unacked.filter (fun x => decide (m.ack < x.seq)) = (t.flowSrc d m.cls m.src).unacked →
    m.body = .led b → r = t.flowDst d m.cls m.src → m.seq = r.expect →
    exec (.flowDelivery d) s = .next (s.settle
      { t.setFlowDst d m.cls m.src { expect := r.expect + 1, owed := some (r.owed.getD t.now) } with
        ledMsgs := t.ledMsgs ++ [⟨m.src, m.dst, b⟩] }))
  ∧ (∀ (s t : State) (d : Nat) (m : FabMsg) (b : LedBody) (rest : List FabMsg) (r : FlowDst), s.isL d = true →
    (s.euf d).flowIn = m :: rest → t = s.setEuf d { s.euf d with flowIn := rest } →
    (t.flowSrc d m.cls m.src).unacked.filter (fun x => decide (m.ack < x.seq)) = (t.flowSrc d m.cls m.src).unacked →
    m.body = .led b → r = t.flowDst d m.cls m.src → m.seq ≠ r.expect →
    exec (.flowDelivery d) s = .next (s.settle (t.setFlowDst d m.cls m.src { r with owed := some (r.owed.getD t.now) })))
  ∧ (∀ (s t : State) (d cls src at_ h : Nat) (r : FlowDst), s.isL d = true → r = s.flowDst d cls src → r.owed = some at_ →
    s.hopFor d (s.addrOf d) src cls = some h → s.due (at_ + 20 * Config.tUs) = true → t = s.setFlowDst d cls src { r with owed := none } →
    exec (.ackOnlyTimer d cls src) s = .next (s.settle
      (t.portSend h { dst := src, src := s.addrOf d, cls := cls, ack := r.expect - 1, body := .ackOnly })))
  ∧ (∀ (s : State) (d cls dst : Nat), s.isL d = true → (s.flowSrc d cls dst).noRoute = none →
    s.due ((s.flowSrc d cls dst).since + 200 * Config.tUs) = true →
    exec (.retransmitTimeout d cls dst) s = .next (s.settle (s.flowResend d cls dst)))
  ∧ (∀ (s t u : State) (d cls dst at_ n : Nat) (f : FlowSrc), s.isL d = true → s.flowSrc d cls dst = f → f.noRoute = some at_ →
    (f.unacked.filter (fun m => s.due (max at_ m.entered + s.unreachTicks d))).length = n → n ≠ 0 →
    t = s.setFlowSrc d cls dst { f with unacked := f.unacked.filter (fun m => !s.due (max at_ m.entered + s.unreachTicks d)) } →
    u = (t.inc d EUF_UNREACH_CNT n).drainWaiting d (t.flowWaiting d).length →
    exec (.unreachTimeout d cls dst) s = .next (s.settle
      (if limiterOpen (smGet (u.euf d).unreach dst) u.now (60 * Config.tS) then
        (u.setEuf d { u.euf d with unreach := smPut (u.euf d).unreach dst u.now }).raise d 141 (arg 0 dst) else u)))

/-- The roll call and routing on an L-die. A candidacy lower than the best is noted and floods, and another is only taken. After 20 ms of quiet in step 1 the package
with the lowest candidacy becomes the coordinator and grants the claims, and another sends it its claim. A new claim is granted by
the coordinator and forwarded by another package; a new table is adopted. A newer link-state record of another package is stored, floods, and the
routes follow. A partition of higher version is stored and floods. An online report reaches the coordinator, a new one floods on, and
"formed" ends step 5. The fabric's commands: the table and the partition are read; a partition of higher version with valid entries and no
records left behind is stored, and floods; a package number that no other package holds is taken. -/
def Obligations.FabricControlCompletes : Prop :=
  (∀ (s t : State) (d p i : Nat), s.isL d = true → s.fab.inbox.find? FabCtl.isCandidacy = some (.candidacy p i) →
    t = s.setFab { s.fab with inbox := s.fab.inbox.erase (.candidacy p i) } →
    t.fab.best.all (fun b => candBelow (p, i) b) = true →
    exec (.candidacy d) s = .next (s.settle
      ((t.setFab { t.fab with best := some (p, i), quietFrom := t.now }).flood (.candidacy p i))))
  ∧ (∀ (s t : State) (d : Nat), s.isL d = true → s.fab.best = some s.ownCand → s.due (s.fab.quietFrom + 20 * Config.tMs) = true →
    s.isCoord = false → s.rcStage = 1 → (s.eufAll EUF_STAT_coordinator 1).rcStage ≠ 6 →
    t = (s.eufAll EUF_STAT_coordinator 1).eufAll EUF_STAT_rc_stage 2 →
    exec (.electionQuiet d) s = .next (s.settle
      ((t.setFab { t.fab with claims := putClaim t.identity t.ownClaim t.fab.claims }).grantAll)))
  ∧ (∀ (s : State) (d : Nat) (b : Nat × Nat), s.isL d = true → s.fab.best = some b → b ≠ s.ownCand →
    s.due (s.fab.quietFrom + 20 * Config.tMs) = true → s.isCoord = false → s.rcStage = 1 →
    exec (.electionQuiet d) s = .next (s.settle ((s.eufAll EUF_STAT_rc_stage 2).flood (.claim s.identity s.ownClaim))))
  ∧ (∀ (s t u : State) (d i : Nat) (n : Option Nat), s.isL d = true → s.fab.inbox.find? FabCtl.isClaim = some (.claim i n) →
    t = s.setFab { s.fab with inbox := s.fab.inbox.erase (.claim i n) } → t.fab.claims.contains (i, n) = false →
    u = t.setFab { t.fab with claims := putClaim i n t.fab.claims } →
    exec (.claim d) s = .next (s.settle (if u.isCoord then u.grantAll else u.flood (.claim i n))))
  ∧ (∀ (s t : State) (d co : Nat) (l : List FabEnt), s.isL d = true → s.fab.inbox.find? FabCtl.isClaim = some (.table co l) →
    t = s.setFab { s.fab with inbox := s.fab.inbox.erase (.table co l) } → t.isCoord = false → t.get 0 EUF_COORD_coord ≠ co →
    exec (.claim d) s = .next (s.settle ((t.flood (.table co l)).adoptTable co l)))
  ∧ (∀ (s t u : State) (d : Nat) (r : LinkRec), s.isL d = true → s.fab.inbox.find? FabCtl.isLinkState = some (.linkState r) →
    t = s.setFab { s.fab with inbox := s.fab.inbox.erase (.linkState r) } →
    (smGet t.fab.links r.number).all (fun o => decide (o.version < r.version) || o.identity != r.identity) = true →
    r.number ≠ t.ownPkg 0 →
    u = t.setFab { t.fab with
      links := smPut t.fab.links r.number r,
      table := t.fab.table.map (fun e =>
        if e.number = some r.number then { e with partVer := r.partVer, seen := t.devTime t.acting } else e) } →
    exec (.linkStateRecord d) s = .next (s.settle ((((u.flood (.linkState r)).reroute1).coordLost).step3Check)))
  ∧ (∀ (s t : State) (d v : Nat) (runs : List (Nat × Nat)), s.isL d = true →
    s.fab.inbox.find? FabCtl.isPartition = some (.partition v runs) →
    t = s.setFab { s.fab with inbox := s.fab.inbox.erase (.partition v runs) } → t.fab.version < v →
    exec (.partitionPublication d) s = .next (s.settle (((t.storePart v runs).flood (.partition v runs)).step5)))
  ∧ (∀ (s t : State) (d a : Nat) (up : Bool), s.isL d = true → s.fab.inbox.find? FabCtl.isOnline = some (.online a up) →
    t = s.setFab { s.fab with inbox := s.fab.inbox.erase (.online a up) } → t.isCoord = true →
    exec (.ledgerOnlineReport d) s = .next (s.settle
      ((t.setFab { t.fab with online := smPut t.fab.online a up }).formCheck)))
  ∧ (∀ (s t : State) (d a : Nat) (up : Bool), s.isL d = true → s.fab.inbox.find? FabCtl.isOnline = some (.online a up) →
    t = s.setFab { s.fab with inbox := s.fab.inbox.erase (.online a up) } → t.isCoord = false → smGet t.fab.online a ≠ some up →
    exec (.ledgerOnlineReport d) s = .next (s.settle
      ((t.setFab { t.fab with online := smPut t.fab.online a up }).flood (.online a up))))
  ∧ (∀ (s t : State) (d : Nat), s.isL d = true → s.fab.inbox.find? FabCtl.isOnline = some .formed →
    t = s.setFab { s.fab with inbox := s.fab.inbox.erase .formed } → t.rcStage = 5 →
    exec (.ledgerOnlineReport d) s = .next (s.settle ((t.flood .formed).form)))
  ∧ (∀ (s : State) (d : Nat) (c : Cmd) (b : Bytes), s.isL d = true → s.nextCmd d 0x60 = some c →
    b = (fabLayout s.fab.table).flatMap (fun e => match e with
      | some x => x.bytes
      | none => emptyEnt) →
    exec (.readFabric d) s = .next (s.settle
      ((s.toHost c.port (c.op 16 8) b).complete c.id 0 (leBytes 2 (s.get d EUF_COORD_members)))))
  ∧ (∀ (s : State) (d others : Nat) (runs : List (Nat × Nat)) (c : Cmd), s.isL d = true → s.nextCmd d 0x61 = some c →
    s.formed d = true → s.fab.version < c.op 24 4 → runs.any (fun r => !s.entryOk d r.2) = false → s.orphans d runs = false →
    exec (.setPartition d runs 0 others) s = .next (s.settle
      (((s.storePart (c.op 24 4) runs).flood (.partition (c.op 24 4) runs)).complete c.id 0 (leBytes 2 (1 + others)))))
  ∧ (∀ (s : State) (d : Nat) (c : Cmd), s.isL d = true → s.nextCmd d 0x62 = some c →
    exec (.readPartition d) s = .next (s.settle
      ((s.toHost c.port (c.op 16 8) ((List.range 65536).flatMap (fun k => leBytes 2 (s.partEntry d k)))).complete c.id 0
        (leBytes 4 s.fab.version))))
  ∧ (∀ (s t : State) (d n : Nat) (c : Cmd), s.isL d = true → s.nextCmd d 0x63 = some c → c.op 16 1 = n → s.formed d = true →
    s.fab.table.any (fun e => e.number == some n && e.identity != s.identity) = false →
    t = (s.setFab { s.fab with links := smDel s.fab.links (s.ownPkg 0), claims := putClaim s.identity (some n) s.fab.claims }).setNumber n →
    exec (.setPackageNumber d) s = .next (s.settle
      ((if t.isCoord then t.grantAll else (t.eufAll EUF_STAT_rc_stage 2).flood (.claim t.identity (some n))).complete c.id 0)))

/-! ### Ethernet (13_ethernet_backhaul) and the panel (14_slate_panel) -/

/-- The rows of a MAC on a die with a port. Idle, it is enabled with a supported setting and runs (state 1). Running, it is disabled: its queues, alarm copies
and PTP state are cleared, the alarms among them counted as dropped, and it drains (state 2). A change of its link is noted with source 122. A short frame or one with a
wrong check sequence is counted; a frame without room is counted with source 125 at most once a second; a PAUSE frame is taken; a
frame for another address or too long, or with a VLAN tag that is not accepted, is counted; a frame for the MAC is consumed. A
collision in half duplex starts a back-off of a random number of slots, or drops the frame where it is late or was the 16th attempt; the end of a
back-off starts the frame again. A pause expires; one held longer than the watchdog allows is ignored for a second, with source 123; the
second ends. A Delay_Req goes out where a master is known, not sooner than its interval after the last. A master silent for 3 s is lost with
source 126. An MDIO access writes the PHY or brings its data. -/
def Obligations.EthernetCompletes : Prop :=
  (∀ (s t : State) (d : Nat), s.isPort d = true → s.domOn d 13 = true → s.ethState d = 0 →
    s.flag d ETH_CFG_auto = true ∨ s.flag d ETH_CFG_duplex = true ∨ s.get d ETH_CFG_speed < 2 →
    t = (((s.putB d ETH_CTRL_enable true).putB d ETH_STAT_cfg_error false).put d ETH_STAT_state 1) →
    exec (.ethEnable d) s = .next (s.settle ((t.ethSetting d).ethPump d)))
  ∧ (∀ (s t u : State) (d n : Nat), s.isPort d = true → t = s.putB d ETH_CTRL_enable false → t.ethState d = 1 → (t.eth d).backoff = none →
    n = ((t.eth d).q1.filter (·.alarm)).length + (t.eth d).copies.length →
    u = t.setEth d { t.eth d with
      q0 := [], q1 := [], copies := [], backoff := none, foreign := [], master := none, syncWait := none, dreqSent := none,
      pauseUntil := none, heldSince := none } →
    exec (.ethDisable d) s = .next (s.settle ((((u.inc d ETH_ALARM_DROP_CNT n).put d ETH_STAT_state 2).ethFinish d).ethIdle d)))
  ∧ (∀ (s t : State) (d speed : Nat) (up full : Bool), s.isPort d = true → s.flag d ETH_CFG_auto = false → s.ethLink d ≠ up →
    t = (s.putB d ETH_STAT_link up).raise d 122 (arg 0 (b2n up)) →
    exec (.ethLinkChange d up speed full) s = .next (s.settle ((t.setEth d { t.eth d with downAt := t.now }).ethPump d)))
  ∧ (∀ (s t : State) (d ts : Nat) (b : Bytes), s.isPort d = true → s.ethState d ≠ 0 → s.ethLink d = true → t = s.inc d ETH_RX_OVF_CNT →
    exec (.ethFrameReceived d b ts false) s = .next (s.settle (if limiterOpen (t.eth d).lim125 t.now Config.tS then
      (t.setEth d { t.eth d with lim125 := some t.now }).raise d 125 else t)))
  ∧ (∀ (s : State) (d ts : Nat) (b : Bytes), s.isPort d = true → s.ethState d ≠ 0 → s.ethLink d = true →
    b.length < 64 ∨ leNat (b.drop (b.length - 4)) ≠ ieee32 (b.take (b.length - 4)) →
    exec (.ethFrameReceived d b ts true) s = .next (s.settle (s.inc d ETH_RX_FCS_CNT)))
  ∧ (∀ (s : State) (d ts : Nat) (b f : Bytes), s.isPort d = true → s.ethState d ≠ 0 → s.ethLink d = true → 64 ≤ b.length →
    f = b.take (b.length - 4) → leNat (b.drop (b.length - 4)) = ieee32 f → beNat (slice f 12 4) = 0x88080001 →
    slice f 0 6 = beBytes 6 0x0180C2000001 ∨ slice f 0 6 = s.ethMac d →
    exec (.ethFrameReceived d b ts true) s = .next (s.settle (s.ethPause d (beNat (slice f 16 2)))))
  ∧ (∀ (s : State) (d ts : Nat) (b f : Bytes), s.isPort d = true → s.ethState d ≠ 0 → s.ethLink d = true → 64 ≤ b.length →
    f = b.take (b.length - 4) → leNat (b.drop (b.length - 4)) = ieee32 f → beNat (slice f 12 4) ≠ 0x88080001 →
    s.ethForMe d f = false ∨ 1522 < b.length →
    exec (.ethFrameReceived d b ts true) s = .next (s.settle (s.inc d ETH_RX_FILT_CNT)))
  ∧ (∀ (s : State) (d ts : Nat) (vid : Option Nat) (b f g : Bytes), s.isPort d = true → s.ethState d ≠ 0 → s.ethLink d = true → 64 ≤ b.length →
    b.length ≤ 1522 → f = b.take (b.length - 4) → leNat (b.drop (b.length - 4)) = ieee32 f → beNat (slice f 12 4) ≠ 0x88080001 →
    s.ethForMe d f = true → untag f = (vid, g) →
    exec (.ethFrameReceived d b ts true) s = .next (s.settle (if s.ethVidOk d vid then
      s.ethConsume d g (Int.ofNat ts - Int.ofNat (s.get d ETH_PTP_DLY_rx_delay)) else s.inc d ETH_RX_VLAN_CNT)))
  ∧ (∀ (s t u : State) (d start x r : Nat) (f : EthFrame), s.isPort d = true → (s.eth d).cur = some (f, start, x) →
    s.flag d ETH_STAT_duplex = false → t = (s.setEth d { s.eth d with cur := none }).inc d ETH_COLL_CNT →
    10 * (t.now - start) ≤ 72 * t.byteNs d → f.attempts < 16 → t.freeBelow (2 ^ min f.attempts 10) = (r, u) →
    exec (.collision d) s = .next (s.settle
      (u.setEth d { u.eth d with backoff := some (f, u.now + ((4 + 64 * r) * u.byteNs d + 9) / 10) })))
  ∧ (∀ (s t : State) (d start x : Nat) (f : EthFrame), s.isPort d = true → (s.eth d).cur = some (f, start, x) →
    s.flag d ETH_STAT_duplex = false → t = (s.setEth d { s.eth d with cur := none }).inc d ETH_COLL_CNT →
    72 * t.byteNs d < 10 * (t.now - start) →
    exec (.collision d) s = .next (s.settle (((t.inc d ETH_LATECOLL_CNT).ethIdle d).ethPump d)))
  ∧ (∀ (s t : State) (d start x : Nat) (f : EthFrame), s.isPort d = true → (s.eth d).cur = some (f, start, x) →
    s.flag d ETH_STAT_duplex = false → t = (s.setEth d { s.eth d with cur := none }).inc d ETH_COLL_CNT →
    10 * (t.now - start) ≤ 72 * t.byteNs d → 16 ≤ f.attempts →
    exec (.collision d) s = .next (s.settle (((t.inc d ETH_EXCOLL_CNT).ethIdle d).ethPump d)))
  ∧ (∀ (s : State) (d t : Nat) (f : EthFrame), s.isPort d = true → (s.eth d).backoff = some (f, t) → s.due t = true → s.ethLink d = true →
    s.ethState d ≠ 0 →
    exec (.backoffEnd d) s = .next (s.settle ((s.setEth d { s.eth d with backoff := none }).ethBegin d f)))
  ∧ (∀ (s : State) (d t : Nat), s.isPort d = true → (s.eth d).pauseUntil = some t → s.due t = true →
    exec (.pauseExpiry d) s = .next (s.settle ((s.setEth d { s.eth d with pauseUntil := none, heldSince := none }).ethPump d)))
  ∧ (∀ (s u : State) (d t : Nat), s.isPort d = true → (s.eth d).heldSince = some t → s.due (t + s.pauseWd d) = true →
    u = s.setEth d { s.eth d with pauseUntil := none, heldSince := none, ignoreUntil := some (s.now + Config.tS) } →
    exec (.pauseWatchdog d) s = .next (s.settle
      ((((u.putB d ETH_STAT_pause_ignored true).inc d ETH_PAUSE_WD_CNT).raise d 123).ethPump d)))
  ∧ (∀ (s : State) (d t : Nat), s.isPort d = true → (s.eth d).ignoreUntil = some t → s.due t = true →
    exec (.pauseIgnoreEnd d) s = .next (s.settle
      ((s.setEth d { s.eth d with ignoreUntil := none }).putB d ETH_STAT_pause_ignored false)))
  ∧ (∀ (s t : State) (d seq : Nat) (b : Bytes), s.isPort d = true → s.flag d ETH_CTRL_ptp_en = true → s.ethState d = 1 →
    (s.eth d).master ≠ none → (s.eth d).dreqAt.all (fun t => s.due (t + s.dreqTicks d)) = true →
    seq = ((s.eth d).dreqSeq + 1) % 65536 → b = s.delayReq d seq →
    t = s.setEth d { s.eth d with
      dreqSeq := seq, dreqAt := some s.now, ipId := ((s.eth d).ipId + s.get d ETH_PTP_transport) % 65536 } →
    exec (.delayReqTimer d) s = .next (s.settle ((t.ethQueue d { queue := 0, bytes := b, dreq := some seq }).ethPump d)))
  ∧ (∀ (s : State) (d : Nat) (p : Bytes), s.isPort d = true → (s.eth d).master = some p → s.due ((s.eth d).syncAt + 3 * Config.tS) = true →
    exec (.syncTimeout d) s = .next (s.settle ((s.setEth d { s.eth d with
      master := none, syncWait := none, foreign := (s.eth d).foreign.filter (fun a => a.port != p) }).raise d 126 (arg 0 2))))
  ∧ (∀ (s t : State) (d v : Nat), s.isPort d = true → t = s.putB d ETH_MDIO_go false → t.flag d ETH_MDIO_op = false →
    exec (.mdioAccess d v) s = .next (s.settle (t.put d ETH_MDIO_data v)))
  ∧ (∀ (s t : State) (d v : Nat), s.isPort d = true → t = s.putB d ETH_MDIO_go false → t.flag d ETH_MDIO_op = true →
    exec (.mdioAccess d v) s = .next (s.settle (t.setEth d { t.eth d with
      mdio := some (t.get d ETH_MDIO_phy, t.get d ETH_MDIO_reg, t.get d ETH_MDIO_data) })))

/-- The direct alarm. It is enabled with a valid template and key, and an enable without them sets cfg_error. It begins on an enabled MAC once the
SC0 ring has been full, or no port up, for wait_ms. An item of Q0 that has been applied is sent by the MAC that can, or counted as dropped
where none can. A copy that is due is sent by its MAC where that is up, and by the other where that is, and else dropped. -/
def Obligations.DirectAlarmCompletes : Prop :=
  (∀ (s : State) (d : Nat), s.isPort d = true → tplOk (s.ethTpl d) = true → s.alarmKeyOk d = true →
    exec (.alarmEnable d) s = .next (s.settle ((s.putB d ETH_CTRL_alarm_en true).putB d ETH_STAT_cfg_error false)))
  ∧ (∀ (s : State) (d : Nat), s.isPort d = true → tplOk (s.ethTpl d) = false ∨ s.alarmKeyOk d = false →
    exec (.alarmEnable d) s = .next (s.settle (s.putB d ETH_STAT_cfg_error true)))
  ∧ (∀ (s : State) (d t : Nat), s.isPort d = true → s.flag d ETH_CTRL_alarm_en = true → s.flag d ETH_STAT_alarm_active = false →
    s.hif.portsDown = some t ∨ s.scFullSince = some t → s.due (t + max 1 (s.get d ETH_ALARM_wait_ms) * Config.tMs) = true →
    exec (.directAlarmActivate d) s = .next (s.settle (s.alarmBegin d)))
  ∧ (∀ (s t : State) (d n m : Nat) (p : Packet), s.isL d = true → (s.eth d).alarmNext = some n →
    (s.que d 0).packets.find? (fun p => decide (n ≤ p.seq)) = some p → p.applied = true →
    t = s.setEth d { s.eth d with alarmNext := some (p.seq + 1) } → t.alarmMac = some m →
    exec (.directAlarmSend d) s = .next (s.settle (t.alarmSend m
      { die := d, seq := p.seq, handle := p.handle, kind := p.kind, identity := p.identity, start := p.start, payload := p.payload,
        copy := 0, due := t.now })))
  ∧ (∀ (s t : State) (d n : Nat) (p : Packet), s.isL d = true → (s.eth d).alarmNext = some n →
    (s.que d 0).packets.find? (fun p => decide (n ≤ p.seq)) = some p → p.applied = true →
    t = s.setEth d { s.eth d with alarmNext := some (p.seq + 1) } → t.alarmMac = none →
    exec (.directAlarmSend d) s = .next (s.settle (t.inc (if t.flag 0 ETH_STAT_alarm_active then 0 else 1) ETH_ALARM_DROP_CNT)))
  ∧ (∀ (s t : State) (d : Nat) (c : AlarmCopy) (r : List AlarmCopy), s.isPort d = true → (s.eth d).copies = c :: r → s.due c.due = true →
    t = s.setEth d { s.eth d with copies := r } → t.ethUp d = true →
    exec (.alarmCopyTimer d) s = .next (s.settle (t.alarmSend d c)))
  ∧ (∀ (s t : State) (d m : Nat) (c : AlarmCopy) (r : List AlarmCopy), s.isPort d = true → (s.eth d).copies = c :: r → s.due c.due = true →
    t = s.setEth d { s.eth d with copies := r } → t.ethUp d = false → t.alarmMac = some m →
    exec (.alarmCopyTimer d) s = .next (s.settle (t.alarmSend m c)))
  ∧ (∀ (s t : State) (d : Nat) (c : AlarmCopy) (r : List AlarmCopy), s.isPort d = true → (s.eth d).copies = c :: r → s.due c.due = true →
    t = s.setEth d { s.eth d with copies := r } → t.ethUp d = false → t.alarmMac = none →
    exec (.alarmCopyTimer d) s = .next (s.settle (t.inc d ETH_ALARM_DROP_CNT)))

/-- The Slate rows on an F-die. Enabled from Off, the Slate powers up (state 1). Disabled, it discharges at once from power-up, and finishes what
an LCD shows first. A settled pump brings an LCD to state 2 at the voltage of its temperature, and an electrophoretic panel to Running, or
first to clear an update that its journal says was interrupted. A discharged pump ends in Off with source 76. An update takes the image, and one of an electrophoretic
panel whose tables are not valid is refused with source 73. A waveform check judges every table. A temperature sample sets the band and the goal voltage. A rest timer
tries what waits. A frame pair of a running LCD steps the voltage by up to 50 mV and shows a new image with source 72, or begins a power-off
that waited. A phase that has run its length is followed by the next, and the last phase of an update by its end. -/
def Obligations.SlateCompletes : Prop :=
  (∀ (s t : State) (d : Nat), s.isF d = true → t = s.putB d SLATE_CTRL_enable true → t.slateState d = 0 →
    exec (.slateEnable d) s = .next (s.settle
      ((t.put d SLATE_STAT_state 1).setSlate d { t.slate d with brown := false, stopping := false })))
  ∧ (∀ (s t : State) (d : Nat), s.isF d = true → t = s.putB d SLATE_CTRL_enable false → t.slateState d = 1 →
    exec (.slateDisable d) s = .next (s.settle (t.slateDischarge d)))
  ∧ (∀ (s t u : State) (d : Nat), s.isF d = true → t = s.putB d SLATE_CTRL_enable false → t.slateState d = 2 → t.isEpd d = false →
    u = (t.putB d SLATE_STAT_deferred false).putB d SLATE_STAT_refresh_pending false →
    exec (.slateDisable d) s = .next (s.settle (u.setSlate d { t.slate d with stopping := true, next := none, refresh := 0 })))
  ∧ (∀ (s t : State) (d v : Nat), s.isF d = true → s.slateState d = 1 → s.isEpd d = false → v = s.vlcdOf d (s.slateT d) →
    t = s.setSlate d { s.slate d with vlcdGoal := v } →
    exec (.pumpSettled d) s = .next (s.settle ((t.putVlcd d v).put d SLATE_STAT_state 2)))
  ∧ (∀ (s : State) (d : Nat), s.isF d = true → s.slateState d = 1 → s.isEpd d = true →
    exec (.pumpSettled d) s = .next (s.settle (if s.flag d SLATE_STAT_jrn_valid then s.slateClear d else s.slateRun d)))
  ∧ (∀ (s t : State) (d : Nat), s.isF d = true → s.slateState d = 5 → (s.slate d).brown = false →
    t = ((((s.put d SLATE_STAT_state 0).putVlcd d 0).slateStore d).raise d 76) → t.flag d SLATE_CTRL_enable = false →
    exec (.pumpDischarged d) s = .next (s.settle t))
  ∧ (∀ (s : State) (d : Nat), s.isF d = true → s.slateState d ≠ 0 → s.slateState d ≠ 5 →
    s.isEpd d = false ∨ s.flag d SLATE_STAT_wf_ok = true →
    exec (.slateUpdate d) s = .next (s.settle
      ((s.setSlate d { s.slate d with next := some (s.slateImg d) }).slateTry d)))
  ∧ (∀ (s : State) (d : Nat), s.isF d = true → s.slateState d ≠ 0 → s.slateState d ≠ 5 → s.isEpd d = true →
    s.flag d SLATE_STAT_wf_ok = false →
    exec (.slateUpdate d) s = .next (s.settle (s.raise d 73 (arg 0 0))))
  ∧ (∀ (s : State) (d : Nat), s.isF d = true →
    exec (.wfCheck d) s = .next (s.settle (s.putB d SLATE_STAT_wf_ok ((List.range 8).all (s.slate d).tableOk))))
  ∧ (∀ (s t u : State) (d : Nat) (temp : Int), s.isF d = true → temp = s.slateSample d →
    t = (s.putZ d SLATE_TEMP_temp temp).put d SLATE_STAT_band (s.slateBandOf d temp) →
    u = t.setSlate d { t.slate d with vlcdGoal := t.vlcdOf d temp } →
    exec (.tempSample d) s = .next (s.settle (if u.flag d SLATE_STAT_deferred then u.slateTry d else u)))
  ∧ (∀ (s : State) (d : Nat), s.isF d = true → exec (.restTimer d) s = .next (s.settle (s.slateTry d)))
  ∧ (∀ (s : State) (d : Nat), s.isF d = true → s.slateState d = 2 → s.isEpd d = false → (s.slate d).stopping = true →
    exec (.framePairBoundary d) s = .next (s.settle (s.slateDischarge d)))
  ∧ (∀ (s : State) (d v : Nat), s.isF d = true → s.slateState d = 2 → s.isEpd d = false → (s.slate d).stopping = false →
    s.get d PWR_STAT_recess = 0 → (s.slate d).next = none →
    v = (if (s.slate d).vlcd < (s.slate d).vlcdGoal then min (s.slate d).vlcdGoal ((s.slate d).vlcd + 50)
      else max (s.slate d).vlcdGoal ((s.slate d).vlcd - 50)) →
    exec (.framePairBoundary d) s = .next (s.settle (s.putVlcd d v)))
  ∧ (∀ (s t u : State) (d v : Nat) (img : List Nat), s.isF d = true → s.slateState d = 2 → s.isEpd d = false → (s.slate d).stopping = false →
    s.get d PWR_STAT_recess = 0 → (s.slate d).next = some img →
    v = (if (s.slate d).vlcd < (s.slate d).vlcdGoal then min (s.slate d).vlcdGoal ((s.slate d).vlcd + 50)
      else max (s.slate d).vlcdGoal ((s.slate d).vlcd - 50)) → t = s.putVlcd d v → t.switchGap = false →
    u = (t.putShown d img).setSlate d { t.slate d with next := none } →
    exec (.framePairBoundary d) s = .next (s.settle ((u.inc d SLATE_UPD_CNT).raise d 72)))
  ∧ (∀ (s t : State) (d : Nat) (r r' : SlateRun), s.isF d = true → (s.slate d).run = some r →
    s.due (r.since + (s.slate d).runMs r * Config.tMs) = true → r.step ≠ .compensate → r.phase + 1 < (s.slate d).phases r.band →
    r' = { r with phase := r.phase + 1, since := s.now } → t = s.setSlate d { s.slate d with run := some r' } →
    exec (.phaseBoundary d) s = .next (s.settle (if r'.journalled then t.putJournal d (jrnBytes r' 0) else t)))
  ∧ (∀ (s : State) (d : Nat) (r : SlateRun), s.isF d = true → (s.slate d).run = some r →
    s.due (r.since + (s.slate d).runMs r * Config.tMs) = true → r.step = .update ∨ r.step = .refresh →
    (s.slate d).phases r.band ≤ r.phase + 1 →
    exec (.phaseBoundary d) s = .next (s.settle (s.slateEnd d r)))

/-! ### Clocks and time (15_power_clocks_ageing) -/

/-- The clock rows. Quality and holdover are checked (R331); a measurement beyond step_ms steps device time, one within does not; a
host-time write, a PTP offset of the steering MAC and a PPS_IN edge within 100 ms of a whole second are measured, an edge further
away is counted in CLK_PPS_MISS_CNT, and one that the polarity or the enable leaves out does nothing (R330); a PPS_IN without edges
for 3 s raises source 27, and so does the first edge after it (R332); PPS_OUT rises at a whole second of the master (R332); a die
takes the master's source, rate and quality, and keeps its counter within 20 ns (R329); the mains comparison of 24 h stores its
deviation, and beyond 500 ppm shows a reference fault that one within 200 ppm clears (R333). -/
def Obligations.ClocksComplete : Prop :=
  (∀ (s : State) (d : Nat), d < s.nDies → exec (.timeQualityChange d) s = .next (s.settle (s.qualityCheck d)))
  ∧ (∀ (s : State) (d : Nat), d < s.nDies → s.get d CLK_STAT_quality = 0 →
    exec (.holdoverEntry d) s = .next (s.settle (if s.lastDelivery + 3 * Config.tS ≤ s.now then s.setQuality d 1 else s)))
  ∧ (∀ (s : State) (d : Nat), d < s.nDies → s.get d CLK_STAT_quality ≠ 0 → exec (.holdoverEntry d) s = .next (s.settle s))
  ∧ (∀ (s : State) (d h : Nat), d < s.nDies → s.get d CLK_STAT_quality = 1 → (s.disc d).lockNow = false → (s.disc d).holdFrom = some h →
    exec (.holdoverExpiry d) s = .next (s.settle (if h + 14400 * Config.tS ≤ s.now then s.setQuality d 2 else s)))
  ∧ (∀ (s : State) (d : Nat), d < s.nDies → s.get d CLK_STAT_quality ≠ 1 → exec (.holdoverExpiry d) s = .next (s.settle s))
  ∧ (∀ (s : State) (d ticks : Nat), d < s.nDies → s.stepNs d < 10 * ticks →
    exec (.deviceTimeStep d true ticks) s = .next (s.settle (s.stepTime d (-Int.ofNat (10 * ticks))))
    ∧ exec (.deviceTimeStep d false ticks) s = .next (s.settle (s.stepTime d (Int.ofNat (10 * ticks)))))
  ∧ (∀ (s : State) (d ticks : Nat) (back : Bool), d < s.nDies → 10 * ticks ≤ s.stepNs d →
    exec (.deviceTimeStep d back ticks) s = .next (s.settle s))
  ∧ (∀ (s : State) (d : Nat), s.isPort d = true →
    exec (.setGo d) s = .next (s.settle
      (s.measure d 3 (Int.ofNat (10 * s.get2 d CLK_SET_LO_set_lo CLK_SET_HI_set_hi) - s.devNs d))))
  ∧ (∀ (s t : State) (d : Nat) (e : Int), s.isPort d = true → (s.disc d).ptp = some e → t = s.setDisc d { s.disc d with ptp := none } →
    exec (.ptpMeasurement d) s = .next (s.settle (if t.ptpSteer = some d then t.measure d 1 e else t)))
  ∧ (∀ (s : State) (d : Nat), s.isPort d = true → (s.disc d).ptp = none → exec (.ptpMeasurement d) s = .next (s.settle s))
  ∧ (∀ (s : State) (d : Nat) (rising : Bool), s.isPort d = true →
    (s.flag d CLK_PPS_in_en = false ∨ rising = s.flag d CLK_PPS_in_pol) → exec (.ppsInEdge d rising) s = .next (s.settle s))
  ∧ (∀ (s t u : State) (d : Nat) (rising : Bool), s.isPort d = true → s.flag d CLK_PPS_in_en = true → rising ≠ s.flag d CLK_PPS_in_pol →
    t = (s.setDisc d { s.disc d with ppsLast := some s.now, ppsLost := false }).putB d CLK_STAT_pps_ok true →
    u = (if (s.disc d).ppsLost then t.raise d 27 (arg 0 1) else t) →
    (d ≠ u.ppsTaker → exec (.ppsInEdge d rising) s = .next (s.settle u))
    ∧ (d = u.ppsTaker → u.devNs d % 1000000000 ≤ 100000000 →
      exec (.ppsInEdge d rising) s = .next (s.settle (u.measure d 2 (-(u.devNs d % 1000000000)))))
    ∧ (d = u.ppsTaker → 900000000 ≤ u.devNs d % 1000000000 →
      exec (.ppsInEdge d rising) s = .next (s.settle (u.measure d 2 (1000000000 - u.devNs d % 1000000000))))
    ∧ (d = u.ppsTaker → 100000000 < u.devNs d % 1000000000 → u.devNs d % 1000000000 < 900000000 →
      exec (.ppsInEdge d rising) s = .next (s.settle (u.inc d CLK_PPS_MISS_CNT))))
  ∧ (∀ (s : State) (d : Nat), s.isPort d = true → s.flag d CLK_PPS_in_en = true → (s.disc d).ppsLost = false →
    s.due ((s.disc d).ppsLast.getD 0 + 3 * Config.tS) = true →
    exec (.ppsInLoss d) s = .next (s.settle
      (((s.putB d CLK_STAT_pps_ok false).setDisc d { s.disc d with ppsLost := true }).raise d 27 (arg 0 0))))
  ∧ (∀ (s : State) (d : Nat), s.isPort d = true → (s.flag d CLK_PPS_in_en = false ∨ (s.disc d).ppsLost = true
      ∨ s.due ((s.disc d).ppsLast.getD 0 + 3 * Config.tS) = false) → exec (.ppsInLoss d) s = .next (s.settle s))
  ∧ (∀ (s t : State) (d : Nat), s.isPort d = true → s.flag d CLK_CTRL_pps_out_en = true → s.flag d CLK_STAT_master = true →
    (s.disc d).ppsSec < s.devTime d / 10 ^ 8 →
    t = s.setDisc d { s.disc d with ppsSec := s.devTime d / 10 ^ 8, ppsOff := some (s.now + s.ppsWidth d) } →
    exec (.ppsOutEdge d) s = .next (s.settle
      (t.setCom d { t.com1 d with pwr := { (t.com1 d).pwr with ppsOut := true } })))
  ∧ (∀ (s : State) (d : Nat), s.isPort d = true → (s.flag d CLK_CTRL_pps_out_en = false ∨ s.flag d CLK_STAT_master = false
      ∨ s.devTime d / 10 ^ 8 ≤ (s.disc d).ppsSec) → exec (.ppsOutEdge d) s = .next (s.settle s))
  ∧ (∀ (s : State) (d : Nat) (om : Option Nat), d < s.nDies →
    (List.range s.nDies).find? (fun m => s.flag m CLK_STAT_master && !s.pkg.fenced.contains m) = om → (om = none ∨ om = some d) →
    exec (.timingMessage d) s = .next (s.settle s))
  ∧ (∀ (s t u : State) (d m : Nat), d < s.nDies →
    (List.range s.nDies).find? (fun m => s.flag m CLK_STAT_master && !s.pkg.fenced.contains m) = some m → m ≠ d →
    t = s.setDisc d { s.disc d with learned := (s.disc m).learned, toSlew := (s.disc m).toSlew } →
    u = t.put d CLK_STAT_source (t.get m CLK_STAT_source) →
    (Int.ofNat (u.com1 m).clk - Int.ofNat (u.com1 d).clk).natAbs ≤ 2000000000 →
    exec (.timingMessage d) s = .next (s.settle (u.setQuality d (u.get m CLK_STAT_quality))))
  ∧ (∀ (s t u w : State) (d m k : Nat) (diff : Int), d < s.nDies →
    (List.range s.nDies).find? (fun m => s.flag m CLK_STAT_master && !s.pkg.fenced.contains m) = some m → m ≠ d →
    t = s.setDisc d { s.disc d with learned := (s.disc m).learned, toSlew := (s.disc m).toSlew } →
    u = t.put d CLK_STAT_source (t.get m CLK_STAT_source) → diff = Int.ofNat (u.com1 m).clk - Int.ofNat (u.com1 d).clk →
    u.freeBelow 41 = (k, w) → 2000000000 < diff.natAbs → w.stepNs d * 100000000 < diff.natAbs →
    exec (.timingMessage d) s = .next (s.settle
      (let x := w.stepTime d (Int.tdiv (diff + (Int.ofNat k - 20) * clkNs) clkNs)
       x.setQuality d (x.get m CLK_STAT_quality))))
  ∧ (∀ (s : State) (d uhz : Nat), d < s.nDies → (s.zcDie = none ∨ s.flag d CLK_STAT_master = false
      ∨ s.due ((s.disc d).zcFrom + 86400 * Config.tS) = false) → exec (.zcComparison d uhz) s = .next (s.settle s))
  ∧ (∀ (s t : State) (d f uhz : Nat) (nominal dev ppm : Int), d < s.nDies → s.zcDie = some f → s.flag d CLK_STAT_master = true →
    s.due ((s.disc d).zcFrom + 86400 * Config.tS) = true → s.due ((s.f f).plc.zcOkAt + 86400 * Config.tS) = true →
    nominal = (if uhz < 55000000 then 50000000 else 60000000) → dev = Int.ofNat uhz - nominal →
    ppm = max (-32768) (min 32767 (Int.tdiv (dev * 1000000) nominal)) →
    t = (s.putZ d CLK_ZC_DEV_ppm ppm).setDisc d { s.disc d with zcFrom := s.now } →
    (500 * nominal < Int.ofNat dev.natAbs * 1000000 → t.flag d CLK_STAT_ref_fault = false →
      exec (.zcComparison d uhz) s = .next (s.settle
        (((t.putB d CLK_STAT_ref_fault true).setQuality d 2).raise d 26 (arg 0 (ofSigned 16 ppm) + arg 2 1))))
    ∧ (Int.ofNat dev.natAbs * 1000000 ≤ 200 * nominal → t.flag d CLK_STAT_ref_fault = true →
      exec (.zcComparison d uhz) s = .next (s.settle ((t.putB d CLK_STAT_ref_fault false).raise d 26 (arg 0 (ofSigned 16 ppm)))))
    ∧ (Int.ofNat dev.natAbs * 1000000 ≤ 500 * nominal → t.flag d CLK_STAT_ref_fault = false →
      exec (.zcComparison d uhz) s = .next (s.settle t)))

/-! ### Power, margin and faults (15_power_clocks_ageing) -/

/-- The power rows. A domain change is made, or refused with cfg_error and source 20 where a domain it clears is busy or kept, and a
domain comes up (R322); Recess is entered, ignored at level 0, or refused, and a wake source leaves it (R325, R326); a warning, a
recovery and a reset act on each die below its level, a reset waiting for the saves (R334 to R336, R369); a save commits its journal,
after which a reset or a recovery that has come takes effect (R335, R336); a junction temperature sets its stage, and at 115 °C
trips (R339); a PLL that loses lock is counted and raises source 23 (R327); loss of CLK_REF halts every die, and its return
resets the package (R366). -/
def Obligations.PowerCompletes : Prop :=
  (∀ (s t : State) (d v w : Nat), d < s.nDies → s.domValue d v = w →
    ((List.range 16).filter (fun n => (s.get d PWR_DOM_EN_en).testBit n && !w.testBit n)).any (fun n => s.domBusy d n || s.domKept d n)
      = false →
    t = (s.put d PWR_DOM_EN_en w).putB d PWR_STAT_cfg_error false →
    exec (.domainEnable d v) s = .next (s.settle (
      let u := t.put d PWR_DOM_STAT_on (t.get d PWR_DOM_STAT_on &&& w)
      u.setPwr d { u.pwr d with rising := w &&& (0xFFFF ^^^ t.get d PWR_DOM_STAT_on) })))
  ∧ (∀ (s : State) (d v w : Nat), d < s.nDies → s.domValue d v = w →
    ((List.range 16).filter (fun n => (s.get d PWR_DOM_EN_en).testBit n && !w.testBit n)).any (fun n => s.domBusy d n || s.domKept d n)
      = true →
    exec (.domainEnable d v) s = .next (s.settle ((s.putB d PWR_STAT_cfg_error true).raise d 20 (arg 0 v))))
  ∧ (∀ (s t : State) (d : Nat), d < s.nDies →
    t = s.put d PWR_DOM_STAT_on (s.get d PWR_DOM_STAT_on ||| ((s.pwr d).rising &&& s.get d PWR_DOM_EN_en)) →
    exec (.domainPowerUpComplete d) s = .next (s.settle (t.setPwr d { s.pwr d with rising := 0 })))
  ∧ (∀ (s : State) (d : Nat), d < s.nDies → s.get d PWR_RECESS_level = 0 → exec (.recessGo d) s = .next (s.settle s))
  ∧ (∀ (s : State) (d : Nat), d < s.nDies → s.get d PWR_RECESS_level ≠ 0 → s.recessOk d (s.get d PWR_RECESS_level) = true →
    exec (.recessGo d) s = .next (s.settle (s.recessEnter d (s.get d PWR_RECESS_level))))
  ∧ (∀ (s : State) (d : Nat), d < s.nDies → s.get d PWR_RECESS_level ≠ 0 → s.recessOk d (s.get d PWR_RECESS_level) = false →
    exec (.recessGo d) s = .next (s.settle ((s.putB d PWR_STAT_cfg_error true).raise d 20 (arg 0 (s.get d PWR_DOM_EN_en)))))
  ∧ (∀ (s : State) (d src : Nat), d < s.nDies → exec (.wake d src) s = .next (s.settle (s.wake d src)))
  ∧ (∀ (s : State) (mv : Nat),
    exec (.brownoutWarning mv) s = .next (s.settle (s.dies.foldl (fun (s : State) d =>
      if s.powered d && !s.flag d PWR_STAT_bo_warn && decide (mv < s.get d PWR_VMON_warn_mv) then s.warn d else s) s)))
  ∧ (∀ (s : State) (d : Nat), s.isL d = true → (s.saving d = false ∨ (s.arc d).jrn = []) →
    exec (.saveCommit d) s = .next (s.settle s))
  ∧ (∀ (s t : State) (d : Nat) (bs : List (List Nat)) (blocks : List Nat), s.isL d = true → s.saving d = true →
    (s.arc d).jrn = blocks :: bs →
    t = (((s.setArc d { s.arc d with saves := s.saveOf d blocks :: (s.arc d).saves }).putJrn d bs).jrnCheck d).putB d PWR_STAT_saved true →
    (t.dies.any (fun e => (t.pwr e).resetWaits) = false → (t.pwr d).recovering = false →
      exec (.saveCommit d) s = .next (s.settle t))
    ∧ (t.dies.any (fun e => (t.pwr e).resetWaits) = false → (t.pwr d).recovering = true →
      exec (.saveCommit d) s = .next (s.settle (t.recover d)))
    ∧ (t.dies.any (fun e => (t.pwr e).resetWaits) = true → t.dies.any t.saving = true →
      exec (.saveCommit d) s = .next (s.settle t))
    ∧ (t.dies.any (fun e => (t.pwr e).resetWaits) = true → t.dies.any t.saving = false →
      exec (.saveCommit d) s = .next (s.settle t.resetAll)))
  ∧ (∀ (s : State) (mv : Nat),
    exec (.supplyRecovery mv) s = .next (s.settle (s.dies.foldl (fun (s : State) d =>
      if s.flag d PWR_STAT_bo_warn && decide (s.get d PWR_VMON_warn_mv + s.get d PWR_VMON_hyst < mv) then
        (if s.saving d then s.setPwr d { s.pwr d with recovering := true } else s.recover d)
      else s) s)))
  ∧ (∀ (s : State) (mv : Nat), s.dies.filter (fun d => decide (mv < s.resetMv d)) = [] →
    exec (.vmonReset mv) s = .next (s.settle s))
  ∧ (∀ (s : State) (mv d : Nat) (ds : List Nat), s.dies.filter (fun d => decide (mv < s.resetMv d)) = d :: ds →
    s.dies.any s.saveHolds = false →
    exec (.vmonReset mv) s = .next (s.settle s.resetAll))
  ∧ (∀ (s : State) (mv d : Nat) (ds : List Nat), s.dies.filter (fun d => decide (mv < s.resetMv d)) = d :: ds →
    s.dies.any s.saveHolds = true →
    exec (.vmonReset mv) s = .next (s.settle
      ((d :: ds).foldl (fun (s : State) d => s.setPwr d { s.pwr d with resetWaits := true }) s)))
  ∧ (∀ (s t u v w : State) (d sensor : Nat) (tj : Int), d < s.nDies → -128 ≤ tj → tj ≤ 127 →
    t = (s.putZ d PWR_TEMP_tj tj).put d PWR_TEMP_sensor (min 4 sensor) →
    u = (if t.getZ d PWR_TEMP_MAX_max < tj then t.putZ d PWR_TEMP_MAX_max tj else t) →
    v = (if u.get d PWR_STAT_stage = u.thermStage d tj then u
      else ((u.put d PWR_STAT_stage (u.thermStage d tj)).raise d 21 (arg 0 (u.thermStage d tj) + arg 1 (ofSigned 8 tj))).wake d 4) →
    w = (if u.thermStage d tj = 0 then v else v.inc d PWR_THROT_CNT) →
    exec (.thermalSample d tj sensor) s = .next (s.settle (if 115 ≤ tj then w.trip d tj else w)))
  ∧ (∀ (s t : State) (d k : Nat) (f : Field), d < s.nDies →
    ((k = 0 ∧ f = CLK_STAT_root_lock) ∨ (k = 1 ∧ f = CLK_STAT_ser_lock) ∨ (k = 2 ∧ f = CLK_STAT_eth_lock)) → s.flag d f = true →
    t = (s.putB d f false).inc d CLK_UNLOCK_CNT →
    exec (.pllUnlock d k) s = .next (s.settle (t.raise d 23 (arg 0 (t.clkStat8 d)))))
  ∧ (∀ (s : State), exec .clkRefLoss s = .next (s.settle (s.dies.foldl (fun (s : State) d =>
      if (s.pwr d).refLost then s
      else (((s.setPwr d { s.pwr d with refLost := true, halted := true }).putB d SYS_STAT_clk_lost true).setQuality d 2).raise d 23
        (arg 0 ((((s.setPwr d { s.pwr d with refLost := true, halted := true }).putB d SYS_STAT_clk_lost true).setQuality d 2).clkStat8 d)))
      s)))
  ∧ (∀ (s : State), s.dies.any (fun d => (s.pwr d).refLost) = true →
    exec .clkRefRestored s = .next (s.settle
      (s.dies.foldl (fun (s : State) d => s.setPwr d { s.pwr d with refLost := false }) s).resetAll))
  ∧ (∀ (s : State), s.dies.any (fun d => (s.pwr d).refLost) = false → exec .clkRefRestored s = .next (s.settle s))

/-- The margin rows. A plan that is due, or that a write has started, is made (R342); a slack below half the guard raises the core
voltage by 10 mV up to vmax_mv, or, while AVSBus has failed, invokes the fall-back divider once (R342, R343); a failed AVSBus command
pauses voltage re-planning and raises source 30; enabling AVSBus control starts without its fault (R343). -/
def Obligations.MarginCompletes : Prop :=
  (∀ (s : State) (d : Nat) (v : AgeView), d < s.nDies → (s.planDue d = true ∨ s.flag d AGE_STAT_planning = true) →
    exec (.marginReplan d v) s = .next (s.settle (s.replan d v)))
  ∧ (∀ (s : State) (d : Nat) (v : AgeView), d < s.nDies → s.planDue d = false → s.flag d AGE_STAT_planning = false →
    exec (.marginReplan d v) s = .next (s.settle s))
  ∧ (∀ (s : State) (d : Nat), d < s.nDies → exec (.planNow d) s = .next (s.settle (s.putB d AGE_STAT_planning true)))
  ∧ (∀ (s t : State) (d monitor : Nat) (slack : Int), d < s.nDies → t = (s.putZ d AGE_SLACK_slack slack).put d AGE_SLACK_monitor monitor →
    (Int.ofNat (t.guardPs d) ≤ 2 * slack → exec (.slackDeficit d slack monitor) s = .next (s.settle t))
    ∧ (2 * slack < Int.ofNat (t.guardPs d) → t.flag d AGE_CTRL_avs_en = true → t.flag d AGE_STAT_avs_fault = false →
      t.get d AGE_VCORE_target_mv < t.vmax d →
      exec (.slackDeficit d slack monitor) s = .next (s.settle
        ((t.put d AGE_VCORE_target_mv (min (t.vmax d) (t.get d AGE_VCORE_target_mv + 10))).inc d AGE_VSTEP_CNT)))
    ∧ (2 * slack < Int.ofNat (t.guardPs d) → t.flag d AGE_STAT_avs_fault = true → t.flag d AGE_STAT_clk_derated = false →
      exec (.slackDeficit d slack monitor) s = .next (s.settle ((t.putB d AGE_STAT_clk_derated true).raise d 30 (arg 0 3)))))
  ∧ (∀ (s t : State) (d : Nat), d < s.nDies → s.flag d AGE_CTRL_avs_en = true →
    t = (s.putB d AGE_STAT_avs_fault true).inc d AGE_AVS_ERR_CNT →
    exec (.avsCommandFail d) s = .next (s.settle (t.raise d 30 (arg 0 (1 + 2 * t.get d AGE_STAT_clk_derated)))))
  ∧ (∀ (s : State) (d : Nat), d < s.nDies → s.flag d AGE_CTRL_avs_en = false → exec (.avsCommandFail d) s = .next (s.settle s))
  ∧ (∀ (s : State) (d : Nat), d < s.nDies →
    exec (.avsEnable d) s = .next (s.settle ((s.putB d AGE_CTRL_avs_en true).putB d AGE_STAT_avs_fault false)))

/-! ### Start-up and Remedial mode (16_bringup_rollcall) -/

/-- The start-up rows. A die released with good fuses and DRAM starts, and L0 boots from its ROM; bad fuses or lifecycle Retired lead to
Remedial mode (R346, R354); a sent image is measured, or refused with 0x0901 or 0x0902 (R346, R352); a die that does not answer is
replaced by L1, or fails the start with 0x0905; a stage ends in the next, or over its bound fails with 0x0906 (R348); Restoring ends in
Joining, or with 0x0908 (R349, R352); a roll call not heard for 60 s leaves a die Online alone with source 9 (R351); recovery ends with
source 7 (R350); RESET_N resets the package, and a start still in progress has failed (R352, R360). -/
def Obligations.StartUpCompletes : Prop :=
  (∀ (s : State) (d : Nat) (p f m : Bool), d < s.nDies → (s.stage d ≠ 0 ∨ s.pkg.fenced.contains d = true) →
    exec (.resetRelease d p f m) s = .next (s.settle s))
  ∧ (∀ (s t u : State) (d : Nat), d < s.nDies → 2 ≤ d → s.stage d = 0 → s.pkg.fenced.contains d = false → (s.bootDie d).alone = false →
    t = s.release d → s.boot.remedial = 0 → u = t.startBegin → (u.lock d).lc ≠ 3 → u.boot.remedial = 0 →
    exec (.resetRelease d false true true) s = .next (s.settle u))
  ∧ (∀ (s u : State), 0 < s.nDies → s.stage 0 = 0 → s.pkg.fenced.contains 0 = false → (s.bootDie 0).alone = false →
    s.boot.remedial = 0 → u = (s.release 0).startBegin → (u.lock 0).lc ≠ 3 → u.boot.remedial = 0 →
    exec (.resetRelease 0 false true true) s = .next (s.settle (u.romBoot 0)))
  ∧ (∀ (s u : State) (d : Nat) (m : Bool), d < s.nDies → s.stage d = 0 → s.pkg.fenced.contains d = false → (s.bootDie d).alone = false →
    s.boot.remedial = 0 → u = (s.release d).startBegin →
    exec (.resetRelease d false false m) s = .next (s.settle (((u.putB d LOCK_STAT_fuse_error true).raise d 12).fuseFault d)))
  ∧ (∀ (s : State) (d bank : Nat) (i : Image), d < s.nDies → s.stage d = 1 → (s.bootDie d).imageIn = false → s.boot.remedial = 0 →
    (s.bootDie d).alone = false → d ≠ s.bootSource → 2 ≤ s.stage s.bootSource → s.sentImage d = some (bank, i) →
    (s.imageOk d i = true → i.mainOk = true → exec (.bootImageMessage d) s = .next (s.settle ((s.takeImage d bank i).measure1 d i)))
    ∧ (s.imageOk d i = false → exec (.bootImageMessage d) s = .next (s.settle (s.failStart 0x0901 d)))
    ∧ (s.imageOk d i = true → i.mainOk = false → exec (.bootImageMessage d) s = .next (s.settle (s.failStart 0x0902 d))))
  ∧ (∀ (s : State) (d : Nat), d < s.nDies → (s.stage d ≠ 1 ∨ (s.bootDie d).imageIn = true ∨ s.boot.remedial ≠ 0) →
    exec (.bootImageMessage d) s = .next (s.settle s))
  ∧ (∀ (s : State), 0 < s.nDies → s.isL 1 = true → s.stage 1 = 1 → (s.bootDie 1).imageIn = false →
    (s.boot.remedial = 0 → exec (.bootAnswerTimeout 0) s = .next (s.settle (s.romBoot 1)))
    ∧ (s.boot.remedial ≠ 0 → s.stage 0 ≠ 15 → exec (.bootAnswerTimeout 0) s = .next (s.settle (s.remedialEnter 1))))
  ∧ (∀ (s : State) (d : Nat), d < s.nDies → d ≠ 0 → s.boot.current.isSome = true → s.stage d ≤ 1 → (s.bootDie d).alone = false →
    s.pkg.fenced.contains d = false → exec (.bootAnswerTimeout d) s = .next (s.settle (s.failStart 0x0905 d)))
  ∧ (∀ (s : State) (d : Nat) (ok : Bool), d < s.nDies → s.stage d = 1 →
    exec (.bootStageAdvance d ok) s = .next (s.settle (if (s.bootDie d).imageIn then s.enterLoaded d else s)))
  ∧ (∀ (s : State) (d : Nat), d < s.nDies → s.stage d = 2 → (s.bootDie d).alone = false →
    s.dies.any (fun e => s.inStart e && decide (s.stage e < 2)) = false →
    exec (.bootStageAdvance d true) s = .next (s.settle (s.enterMemory d))
    ∧ exec (.bootStageAdvance d false) s = .next (s.settle (s.failStart 0x0904 d)))
  ∧ (∀ (s : State) (d : Nat) (ok : Bool), s.isL d = true → s.stage d = 3 → s.flag d MIRR_FW_PROG_running = false →
    exec (.bootStageAdvance d ok) s = .next (s.settle (s.enterStage d 4)))
  ∧ (∀ (s : State) (d : Nat) (ok : Bool), d < s.nDies → s.stage d = 5 → s.rcStage = 6 →
    exec (.bootStageAdvance d ok) s = .next (s.settle (s.goOnline d)))
  ∧ (∀ (s : State) (d : Nat), d < s.nDies → (s.bootDie d).alone = false → s.boot.remedial = 0 →
    ((s.stage d = 1 ∧ s.due ((s.bootDie d).since + 600 * Config.tMs) = true)
      ∨ (s.stage d = 2 ∧ s.due ((s.bootDie d).since + 800 * Config.tMs) = true)) →
    exec (.stageBoundExpiry d) s = .next (s.settle (s.failStart 0x0906 d)))
  ∧ (∀ (s : State) (d : Nat), d < s.nDies → s.stage d ≠ 1 → s.stage d ≠ 2 → exec (.stageBoundExpiry d) s = .next (s.settle s))
  ∧ (∀ (s : State) (d : Nat) (ok : Bool), s.isL d = true → s.stage d ≠ 4 → exec (.restoringComplete d ok) s = .next (s.settle s))
  ∧ (∀ (s : State) (d : Nat) (ok : Bool), s.isL d = true → s.stage d = 4 → (s.bootDie d).alone = false →
    (ok = false ∨ (s.arc d).layout = none) → exec (.restoringComplete d ok) s = .next (s.settle (s.failStart 0x0908 d)))
  ∧ (∀ (s t u : State) (d : Nat) (l : Layout), s.isL d = true → s.stage d = 4 → (s.arc d).layout = some l →
    t = (s.restore d).enterStage d 5 → t.stage d = 5 →
    u = (t.setBootDie d { t.bootDie d with joinAt := t.now }).decideRoles d → u.allRestored = false →
    exec (.restoringComplete d true) s = .next (s.settle u))
  ∧ (∀ (s : State) (d : Nat), s.isL d = true → s.stage d = 5 → s.due ((s.bootDie d).joinAt + 60 * Config.tS) = true → s.rcStage ≠ 6 →
    (s.goOnline d).stage d = 6 →
    exec (.joiningTimeout d) s = .next (s.settle ((s.goOnline d).raise d 9)))
  ∧ (∀ (s : State) (d : Nat), s.isL d = true → (s.stage d ≠ 5 ∨ s.rcStage = 6) → exec (.joiningTimeout d) s = .next (s.settle s))
  ∧ (∀ (s : State) (d : Nat), d < s.nDies → s.stage d = 6 → s.isF d = true →
    exec (.startUpRecoveryComplete d) s = .next (s.settle (s.put d SYS_BOOT_stage 7)))
  ∧ (∀ (s t : State) (d : Nat), d < s.nDies → s.stage d = 6 → s.isF d = false →
    t = (s.recovery d).putB d ARC_STAT_parity_full (s.flag d ARC_CTRL_full_stripe) →
    exec (.startUpRecoveryComplete d) s = .next (s.settle ((t.put d SYS_BOOT_stage 7).raise d 7)))
  ∧ (∀ (s : State), s.boot.current = none → exec .resetNAsserted s = .next (s.settle s.resetAll))
  ∧ (∀ (s : State), s.boot.current.isSome = true → exec .resetNAsserted s = .next (s.settle (s.failStart 0x0906 0xFF)))

/-- The start-up commands (R354), each with its completion: the start log is read; a recovery image that checks is stored for one trial
start, one that does not is refused with 0x0103 or 0x090C; a restart completes before its reset, and an image below the fuses' security
version is refused with 0x0902; failed starts are cleared, or refused with 0x0903 at a fuse fault; a diagnostic runs and counts; a
configuration that checks is stored, one that does not is refused with 0x0103 or 0x0909; the configuration reads back. -/
def Obligations.StartUpCommandsComplete : Prop :=
  (∀ (s : State) (d : Nat) (c : Cmd), d < s.nDies → s.nextCmd d 0x70 = some c →
    exec (.readStartLog d) s = .next (s.settle
      ((s.toHost c.port (c.op 16 8) (s.boot.log.flatMap StartEnt.bytes ++ fillBytes (32 * (16 - s.boot.log.length)) 0)).complete c.id 0
        (leBytes 1 (s.get d SYS_BOOT_reason) ++ leBytes 1 s.boot.log.length))))
  ∧ (∀ (s : State) (d : Nat) (img : Image) (c : Cmd), d < s.nDies → s.nextCmd d 0x71 = some c → s.longOp d 0x71 = none →
    ((c.op 24 4 = 0 ∨ 16 * 2 ^ 20 < c.op 24 4) → exec (.loadRecoveryImage d img) s = .next (s.settle (s.complete c.id 0x0103)))
    ∧ (c.op 24 4 ≠ 0 → c.op 24 4 ≤ 16 * 2 ^ 20 → (s.imageOk d img = false ∨ img.mainOk = false) →
      exec (.loadRecoveryImage d img) s = .next (s.settle (s.complete c.id 0x090C))))
  ∧ (∀ (s t : State) (d : Nat) (img : Image) (c : Cmd), d < s.nDies → s.nextCmd d 0x71 = some c → s.longOp d 0x71 = none →
    c.op 24 4 ≠ 0 → c.op 24 4 ≤ 16 * 2 ^ 20 → s.imageOk d img = true → img.mainOk = true →
    t = s.setBoot { s.boot with images := smPut s.boot.images 2 img, trial := some 2 } →
    exec (.loadRecoveryImage d img) s = .next (s.settle
      (t.longAtOnce { cmd := c.id, die := d, opcode := 0x71, countA := img.version } 0)))
  ∧ (∀ (s t u : State) (d : Nat) (c : Cmd) (i : Image), d < s.nDies → s.nextCmd d 0x72 = some c → c.op 16 1 = 0 →
    smGet s.boot.images (s.boot.bankOf 0) = some i →
    t = (if s.stage d = 15 then s else s.saveAll).complete c.id 0 → u = t.writeOut c.group (t.grp c.group).waiting.length →
    ((s.lock d).fuses.svn ≤ i.svn → exec (.restart d) s = .next (s.settle (u.setBoot { u.boot with named := none }).resetAll))
    ∧ (i.svn < (s.lock d).fuses.svn → exec (.restart d) s = .next (s.settle (s.complete c.id 0x0902))))
  ∧ (∀ (s t u : State) (d n : Nat) (c : Cmd) (i : Image), d < s.nDies → s.nextCmd d 0x72 = some c → c.op 16 1 = n → 1 ≤ n → n ≤ 3 →
    smGet s.boot.images (n - 1) = some i → (s.lock d).fuses.svn ≤ i.svn →
    t = (if s.stage d = 15 then s else s.saveAll).complete c.id 0 → u = t.writeOut c.group (t.grp c.group).waiting.length →
    exec (.restart d) s = .next (s.settle (u.setBoot { u.boot with named := some (n - 1) }).resetAll))
  ∧ (∀ (s : State) (d : Nat) (c : Cmd), d < s.nDies → s.nextCmd d 0x72 = some c → 3 < c.op 16 1 →
    exec (.restart d) s = .next (s.settle (s.complete c.id 0x0103)))
  ∧ (∀ (s t : State) (d : Nat) (c : Cmd), d < s.nDies → s.nextCmd d 0x73 = some c →
    s.dies.any (fun e => s.flag e LOCK_STAT_fuse_error || (s.lock e).lc == 3) = false →
    t = s.setBoot { s.boot with remedial := 0, fails := [], rejected := 0 } →
    exec (.clearFailedStarts d) s = .next (s.settle
      ((t.dies.foldl (fun (s : State) e => s.putB e SYS_BOOT_remedial false) t).complete c.id 0 (leBytes 1 s.boot.fails.length))))
  ∧ (∀ (s : State) (d : Nat) (c : Cmd), d < s.nDies → s.nextCmd d 0x73 = some c →
    s.dies.any (fun e => s.flag e LOCK_STAT_fuse_error || (s.lock e).lc == 3) = true →
    exec (.clearFailedStarts d) s = .next (s.settle (s.complete c.id 0x0903)))
  ∧ (∀ (s t : State) (d corrected : Nat) (failed upOk : Bool) (c : Cmd) (x : Nat × Nat × Nat), d < s.nDies → s.nextCmd d 0x74 = some c →
    s.longOp d 0x74 = none → testOf (s.isL d) (c.op 16 1) = true → (s.boot.remedial = 0 ∨ upOk = true) →
    t = s.testCount d (c.op 16 1) corrected failed → x = smGetD (t.com1 d).tests (0, 0, 0) (c.op 16 1) →
    exec (.runDiagnostic d corrected failed upOk) s = .next (s.settle
      (t.longAtOnce { cmd := c.id, die := d, opcode := 0x74, countA := x.1, countB := x.2.1 + 65536 * x.2.2 } 0)))
  ∧ (∀ (s : State) (d corrected : Nat) (failed upOk : Bool) (c : Cmd), d < s.nDies → s.nextCmd d 0x74 = some c → s.longOp d 0x74 = none →
    testOf (s.isL d) (c.op 16 1) = false →
    exec (.runDiagnostic d corrected failed upOk) s = .next (s.settle (s.complete c.id 0x0103)))
  ∧ (∀ (s t : State) (d : Nat) (blob : Bytes) (writes : List CfgWrite) (c : Cmd), d < s.nDies → s.nextCmd d 0x75 = some c →
    s.longOp d 0x75 = none → c.op 24 4 ≤ 512 * 1024 → s.blobOk writes = true →
    t = s.setBoot { s.boot with config := slice blob 0 (c.op 24 4), writes := writes } →
    exec (.writeConfig d blob writes true) s = .next (s.settle
      (t.longAtOnce { cmd := c.id, die := d, opcode := 0x75, countA := ieee32 (slice blob 0 (c.op 24 4)) } 0)))
  ∧ (∀ (s : State) (d : Nat) (blob : Bytes) (writes : List CfgWrite) (crcOk : Bool) (c : Cmd), d < s.nDies → s.nextCmd d 0x75 = some c →
    s.longOp d 0x75 = none →
    (512 * 1024 < c.op 24 4 → exec (.writeConfig d blob writes crcOk) s = .next (s.settle (s.complete c.id 0x0103)))
    ∧ (c.op 24 4 ≤ 512 * 1024 → (crcOk = false ∨ s.blobOk writes = false) →
      exec (.writeConfig d blob writes crcOk) s = .next (s.settle (s.complete c.id 0x0909))))
  ∧ (∀ (s : State) (d n : Nat) (c : Cmd), d < s.nDies → s.nextCmd d 0x76 = some c → n = min (c.op 24 4) s.boot.config.length →
    exec (.readConfig d) s = .next (s.settle
      ((s.toHost c.port (c.op 16 8) (s.boot.config.take n)).complete c.id 0 (leBytes 4 n))))

/-! ### The block as a whole: steps, commands, reset, dies (00_scope) -/

/-- A step on a queue with a command in front is `exec` of that command with the rest of the queue. -/
def Obligations.StepRunsTheFrontCommand : Prop :=
  ∀ (s : State) (c : Instr) (cs : List Instr), s.pending = c :: cs → step s = exec c { s with pending := cs }

/-- On an empty queue one tick of 10 ns passes (R13 gives the tick; that it passes then and only then is the model's choice, assumption
log 9): the variant and the queue stay. -/
def Obligations.EmptyQueueStepIsOneTick : Prop :=
  ∀ s : State, s.pending = [] → ∃ t, step s = .next t ∧ t.now = s.now + 1 ∧ t.pending = [] ∧ t.variant = s.variant
    ∧ t = { s.elapse with variant := s.variant, pending := [], now := s.now + 1 }

/-- Every command, in every state and with every operand, answers a next state where the package has the unit that the command names,
and stops with the fault of an absent unit where it has not; none is refused. (The variants of R1 and the die indices of R2 say
which units there are.) -/
def Obligations.CommandsCompleteWhereTheirUnitExists : Prop :=
  ∀ (c : Instr) (s : State),
    ((siteOf s c).present s = true → ∃ t, exec c s = .next t)
    ∧ ((siteOf s c).present s = false → exec c s = .fault .absentUnit)

/-- No command changes which dies the package has, the commands that wait behind it, or the time. -/
def Obligations.CommandsKeepVariantQueueAndTime : Prop :=
  ∀ (c : Instr) (s t : State), exec c s = .next t → t.variant = s.variant ∧ t.pending = s.pending ∧ t.now = s.now

/-- What every step keeps, from every state: a queue of well-formed commands stays one, taken from the front one command at a step;
time never runs back, and runs only while the queue is empty; the package keeps its variant. -/
def Obligations.EveryStepKeepsTheQueueWellFormed : Prop :=
  ∀ (s t : State), step s = .next t →
    (s.queueOk = true → t.queueOk = true) ∧ t.pending = s.pending.tail ∧ t.variant = s.variant
    ∧ t.now = s.now + (if s.pending = [] then 1 else 0)

/-- Right after reset no command waits, the stores are in canonical form, and every register field of every die reads as its reset
value: the dies stand at stage 0 (R348), no band entry is valid (R55), every mark is zero (R120). The variant, the fuses and the
contents of flash and NAND are the model's choice (assumption log 8). -/
def Obligations.ResetState : Prop :=
  State.reset.pending = [] ∧ State.reset.queueOk = true ∧ State.reset.regsOk = true
  ∧ (∀ (d : Nat) (f : Field) (i : Nat), State.reset.get d f i = State.reset.resetOf d f i)
  ∧ (∀ d : Nat, d < State.reset.nDies → State.reset.get d SYS_BOOT_stage = 0)
  ∧ (∀ (d : Nat) (f : TxFrame), State.reset.bandOf d f = none)
  ∧ (∀ d m : Nat, State.reset.mark d m = fillBytes 32 0)

/-- R2: die index 0 is always L0; L-dies occupy the lowest indices and F-dies follow them; in the SG4-F2L2, F0 is die 2 and F1 is die 3;
in the SG4-F1L1, F0 is die 1. -/
def Obligations.DieIndices : Prop :=
  ∀ s : State, s.isL 0 = true
    ∧ (∀ d e : Nat, s.isL d = true → s.isF e = true → d < e)
    ∧ (∀ d : Nat, d < s.nDies → (s.isL d = true ↔ s.isF d = false))
    ∧ (∀ f : Nat, f < s.variant.fDies → s.isF (s.fIndex f) = true)
    ∧ (s.variant = .f2l2 → s.fIndex 0 = 2 ∧ s.fIndex 1 = 3)
    ∧ (s.variant = .f1l1 → s.fIndex 0 = 1)

/-- Counters saturate at 0xFFFF_FFFF, and cnt_clear zeroes every counter of its block and no other field of any register. -/
def Obligations.CountersSaturateAndClear : Prop :=
  (∀ (s : State) (d k i : Nat) (f : Field), f.width = 32 →
    (s.inc d f k i).get d f i = min (s.get d f i + k) 0xFFFFFFFF)
  ∧ (∀ (s : State) (d : Nat) (b : Block), s.hasBlock d b = true → s.blockOn d b = true →
    ∃ t, exec (.counterClear d b) s = .next t
      ∧ (∃ regs, t = { s with regs := regs })
      ∧ (∀ f ∈ b.counters, ∀ i, i < f.count → t.get (b.home d) f i = 0)
      ∧ (∀ (e i : Nat) (g : Field), g.apart b.counters e i → t.get e g i = s.get e g i))

/-- SYS_SCRATCH is the host's own: what is written reads back, and the write changes nothing else, on its own die or another. -/
def Obligations.ScratchReadsBack : Prop :=
  ∀ (s : State) (d v : Nat), d < s.nDies → s.blockOn d .sys = true →
    ∃ t, exec (.registerWrite .regs (d * dieWindow + 0x20) v) s = .next t
      ∧ t.readWord d 0x20 = v % 2 ^ 32
      ∧ (∃ regs, t = { s with regs := regs })
      ∧ (∀ (e i : Nat) (g : Field), g.apart [SYS_SCRATCH_value] e i → t.get e g i = s.get e g i)

/-- R295: in the window of any L-die other than L0 and L1 the ETH offsets read as 0xFFFF_FFFF and ignore writes: no ETH register and
no Ethernet state of any die changes. -/
def Obligations.EthernetWindowsOfOtherDies : Prop :=
  ∀ (s : State) (d off v : Nat), s.isL d = true → 2 ≤ d → 0x280000 ≤ off → off < 0x2A0000 → off % 4 = 0 →
    s.readWord d off = 0xFFFFFFFF
    ∧ ∃ t, exec (.registerWrite .regs (d * dieWindow + off) v) s = .next t
      ∧ t.ldies = s.ldies ∧ t.readWord d off = 0xFFFFFFFF
      ∧ ∀ (e i : Nat) (f : Field), f ∈ Block.eth.fields → i < f.count → t.get e f i = s.get e f i

/-- A raise of an event source changes nothing but the event state: the entries that wait, the messages to the port die, MSI-X
signals and their writes to the host, the pending bits and the counters of the EVT block (R219, R378, R379). -/
def Obligations.RaisesTouchOnlyEventState : Prop :=
  ∀ (s t : State) (d n args handle : Nat), t = s.raise d n args handle →
    (∃ regs hif, t = { s with regs := regs, hif := hif })
    ∧ (∃ w n p q o, t.hif = { s.hif with evtWait := w, evtNet := n, msixPend := p, msixSent := q, hostOut := o })
    ∧ (∀ (e i : Nat) (g : Field), g.apart [EVT_RAISE_CNT, EVT_COALESCE_CNT, EVT_SAT_CNT, EVT_PENDw_pend] e i →
        t.get e g i = s.get e g i)

/-! ### Rules of single units -/

/-- R204: an entry whose opcode its SQ's kind does not accept (1 to 0x7F on kind 1, 0x80 on kind 2, 0x81 on kind 3) completes with
0x0101; only the ring's head, its fetch count and the completion change. -/
def Obligations.RingsRefuseOtherKinds : Prop :=
  ∀ (s : State) (g kind op : Nat) (e : Bytes), g < 256 → s.isPort (s.groupPort g) = true → s.sqCount g ≠ 0 →
    s.linkUp (s.groupPort g) = true → 3 ≤ s.get (s.groupPort g) SYS_BOOT_stage → s.get 0 HIF_GRPn_STAT_sq_state g = 1 →
    s.get 0 HIF_GRPn_CTRL_sq_kind g = kind → leField e 0 1 = op →
    ¬ ((kind = 1 ∧ 1 ≤ op ∧ op ≤ 0x7F) ∨ (kind = 2 ∧ op = 0x80) ∨ (kind = 3 ∧ op = 0x81)) →
    ∃ t, exec (.sqEntryFetch g e) s = .next t ∧ t = s.settle ((s.sqAdvance g).returnEntry g e 0x0101)
      ∧ t.hif.inflight = s.hif.inflight ∧ t.com = s.com ∧ t.ldies = s.ldies ∧ t.fdies = s.fdies ∧ t.pkg = s.pkg

/-- R10, R253: a command whose meter handle has a bit above 22 set, names a die that is no L-die, or in paired mode names the second
die of a pair completes with 0x0102, the invalid-handle status, and changes nothing but its ring. -/
def Obligations.InvalidHandlesAreRefused : Prop :=
  ∀ (s : State) (g op h : Nat) (e : Bytes), g < 256 → s.isPort (s.groupPort g) = true → s.sqCount g ≠ 0 →
    s.linkUp (s.groupPort g) = true → s.get (s.groupPort g) SYS_BOOT_stage = 6 → s.get 0 HIF_GRPn_STAT_sq_state g = 1 →
    s.get 0 HIF_GRPn_CTRL_sq_kind g = 1 → leField e 0 1 = op → leField e 8 4 = h →
    op ∈ [0x01, 0x02, 0x03, 0x05, 0x07, 0x08, 0x09, 0x0A, 0x10, 0x11, 0x12, 0x13, 0x28] →
    (2 ^ 23 ≤ h ∨ s.nL ≤ h / 2 ^ 20 ∨ (s.paired = true ∧ h / 2 ^ 20 % 2 = 1)) →
    ∃ t, exec (.sqEntryFetch g e) s = .next t ∧ t = s.settle ((s.sqAdvance g).returnEntry g e 0x0102)
      ∧ t.hif.inflight = s.hif.inflight ∧ t.com = s.com ∧ t.ldies = s.ldies ∧ t.fdies = s.fdies ∧ t.pkg = s.pkg

/-- R118, R112: a key operation finds its slot exactly when the fuses are sound, the slot is valid, its usage is set, its uses are not 0
and the lifecycle permits it. With faulty fuses the status is 0x0204, and else the first condition that fails names it. A refusal
leaves every Locker as it was, counts on LOCK_REFUSE_CNT and raises source 14. A performed operation takes one from finite uses
and leaves every other slot and every other die. -/
def Obligations.KeyOperationRules : Prop :=
  (∀ (s : State) (d n u : Nat) (x : Slot), s.keyCheck d n u = .inr x ↔
    s.flag d LOCK_STAT_fuse_error = false ∧ s.slot d n = some x ∧ bit x.usage u = true ∧ x.uses ≠ 0 ∧ (s.lock d).lc ≠ 3)
  ∧ (∀ (s : State) (d n u : Nat), s.flag d LOCK_STAT_fuse_error = true → s.keyCheck d n u = .inl 0x0204)
  ∧ (∀ (s : State) (d n u st : Nat), s.flag d LOCK_STAT_fuse_error = false → (s.keyCheck d n u = .inl st ↔
    (st = 0x0201 ∧ s.slot d n = none)
    ∨ (∃ x, s.slot d n = some x ∧ ((st = 0x0202 ∧ bit x.usage u = false)
        ∨ (st = 0x0203 ∧ bit x.usage u = true ∧ x.uses = 0)
        ∨ (st = 0x0204 ∧ bit x.usage u = true ∧ x.uses ≠ 0 ∧ (s.lock d).lc = 3)))))
  ∧ (∀ (s t : State) (d n st : Nat), t = s.lockRefuse d n st →
    t.com = s.com ∧ t.pkg = s.pkg ∧ t.ldies = s.ldies ∧ t.fdies = s.fdies
    ∧ t.get d LOCK_REFUSE_CNT = min (s.get d LOCK_REFUSE_CNT + 1) 0xFFFFFFFF
    ∧ t = (s.inc d LOCK_REFUSE_CNT).raise d 14 (n + 2 ^ 16 * st))
  ∧ (∀ (s t : State) (d n : Nat) (x : Slot), s.slot d n = some x → t = s.keyUsed d n x →
    t.slot d n = some { x with uses := if x.uses = 0xFFFFFFFF then x.uses else x.uses - 1 }
    ∧ (∀ e k, (e, k) ≠ (d, n) → t.slot e k = s.slot e k) ∧ (∀ e, e ≠ d → t.com1 e = s.com1 e) ∧ t.ldies = s.ldies)

/-- R120, R121, R112: an extend from the host of mark 4 to 7 that is not locked replaces that mark by SHA-256 of the mark and the 32
bytes of LOCK_EXT_DATA; one of mark 0 to 3 changes no mark and shows error 0x05 (status 0x0205), one of a locked mark likewise, and
with faulty fuses one of mark 4 to 7 changes no mark and shows error 0x04 (status 0x0204). No other mark, no slot, no other die and no
L-die or F-die state changes. -/
def Obligations.MarksExtendOrRefuse : Prop :=
  ∀ (s : State) (d m : Nat), d < s.nDies → m < 8 →
    ∃ t, exec (.markExtend d m) s = .next t
      ∧ (if m < 4 then t.com = s.com ∧ t.get d LOCK_EXT_CTRL_error = 0x05
        else if s.flag d LOCK_STAT_fuse_error = true then t.com = s.com ∧ t.get d LOCK_EXT_CTRL_error = 0x04
        else if bit (s.get d LOCK_MARK_LOCK_lock) m = true then t.com = s.com ∧ t.get d LOCK_EXT_CTRL_error = 0x05
        else t.mark d m = sha256 (s.mark d m ++ s.extData d) ∧ t.get d LOCK_EXT_CTRL_error = 0)
      ∧ (∀ e k, (e, k) ≠ (d, m) → t.mark e k = s.mark e k) ∧ (∀ e k, t.slot e k = s.slot e k)
      ∧ (∀ e, e ≠ d → t.com1 e = s.com1 e) ∧ t.ldies = s.ldies ∧ t.fdies = s.fdies ∧ t.pkg = s.pkg

/-- R115: a zeroise request and an integrity fault clear every slot except slot 0, and on an L-die the whole key cache, and set
LOCK_STAT.integrity_alarm; the marks, the fuses, the meters' wrapped keys and every other die stay as they were. -/
def Obligations.ZeroiseClearsTheKeys : Prop :=
  ∀ (s : State) (d : Nat) (c : Instr), d < s.nDies → (c = .lockZeroise d ∨ c = .integrityFault d) →
    ∃ t, exec c s = .next t
      ∧ (∀ n, n ≠ 0 → t.slot d n = none) ∧ t.slot d 0 = s.slot d 0
      ∧ (s.isL d = true → (t.l d).sec.cache = [] ∧ (t.l d).sec.wrapped = (s.l d).sec.wrapped)
      ∧ t.flag d LOCK_STAT_integrity_alarm = true
      ∧ (∀ e k, t.mark e k = s.mark e k) ∧ (t.lock d).fuses = (s.lock d).fuses
      ∧ (∀ e, e ≠ d → t.com1 e = s.com1 e ∧ t.l e = s.l e) ∧ t.fdies = s.fdies ∧ t.pkg = s.pkg

/-- R136: the counter of a verdict is the frame's counter, except under profile A (suite 2) with a bound meter: there it is the one
value from m − 127 to m + 128 that agrees with the 8-bit access number modulo 256, m being the mark compared. -/
def Obligations.AccessNumberIsExtended : Prop :=
  (∀ (f : Parsed) (unbound : Bool) (m : Nat), (f.suite ≠ 2 ∨ unbound = true) → f.count unbound m = Int.ofNat f.counter)
  ∧ (∀ (f : Parsed) (m : Nat) (c : Int), f.suite = 2 → (f.count false m = c ↔
      Int.ofNat m - 127 ≤ c ∧ c ≤ Int.ofNat m + 128 ∧ (c - Int.ofNat f.counter) % 256 = 0))

/-- R55: a transmission is permitted only within a valid band entry (RFT_DC_HI above RFT_DC_LO) that wholly contains its occupied
bandwidth, the lowest-numbered one that matches; without one the check refuses it with 0x0502; at reset no entry is valid. -/
def Obligations.TransmissionsStayInTheirBand : Prop :=
  (∀ (s : State) (d n : Nat) (f : TxFrame), s.dcCheck d f = .inr n →
    n < 8 ∧ s.get d RFT_DC_LOn_lo n < s.get d RFT_DC_HIn_hi n ∧ s.get d RFT_DC_LOn_lo n ≤ f.lo ∧ f.hi ≤ s.get d RFT_DC_HIn_hi n
    ∧ ∀ m, m < n → ¬ (s.get d RFT_DC_LOn_lo m < s.get d RFT_DC_HIn_hi m ∧ s.get d RFT_DC_LOn_lo m ≤ f.lo ∧ f.hi ≤ s.get d RFT_DC_HIn_hi m))
  ∧ (∀ (s : State) (d : Nat) (f : TxFrame),
    (∀ n, n < 8 → ¬ (s.get d RFT_DC_LOn_lo n < s.get d RFT_DC_HIn_hi n ∧ s.get d RFT_DC_LOn_lo n ≤ f.lo ∧ f.hi ≤ s.get d RFT_DC_HIn_hi n)) →
    s.dcCheck d f = .inl 0x0502)
  ∧ (∀ (d n : Nat), ¬ State.reset.get d RFT_DC_LOn_lo n < State.reset.get d RFT_DC_HIn_hi n)

/-- R238: the block that the controller takes on a LUN is free, no free block of the LUN has a lower erase count, and among those of
its count it has the lowest number; it takes one whenever the LUN has a free block. -/
def Obligations.TheLeastWornFreeBlockIsTaken : Prop :=
  ∀ (a : Arc) (lun : Nat),
    (∀ b, a.freeBlock lun = some b →
      lun * a.bpl ≤ b ∧ b < (lun + 1) * a.bpl ∧ (a.blk b).st = .free
      ∧ ∀ c, lun * a.bpl ≤ c → c < (lun + 1) * a.bpl → (a.blk c).st = .free →
          (a.blk b).ec < (a.blk c).ec ∨ ((a.blk b).ec = (a.blk c).ec ∧ b ≤ c))
    ∧ (a.freeBlock lun = none → ∀ c, lun * a.bpl ≤ c → c < (lun + 1) * a.bpl → (a.blk c).st ≠ .free)

/-- R310, R313: a temperature sample sets the VLCD that the panel goes to, which lies from 2,500 to 5,500 mV and is
v25 + tc × (T − 25) wherever that lies in the range; at a frame pair boundary VLCD changes by at most 50 mV, and the sample itself
changes no register but SLATE_TEMP.temp and SLATE_STAT.band while no update waits for the temperature. -/
def Obligations.PanelVoltageFollowsTheTemperature : Prop :=
  (∀ (s : State) (d : Nat) (T : Int), 2500 ≤ s.vlcdOf d T ∧ s.vlcdOf d T ≤ 5500)
  ∧ (∀ (s : State) (d : Nat) (T v : Int), v = Int.ofNat (s.get d SLATE_VLCD_v25) + s.getZ d SLATE_VLCD_tc * (T - 25) → 2500 ≤ v → v ≤ 5500 →
    Int.ofNat (s.vlcdOf d T) = v)
  ∧ (∀ (s : State) (d : Nat), s.isF d = true → s.flag d SLATE_STAT_deferred = false →
    ∃ t, exec (.tempSample d) s = .next t ∧ (t.slate d).vlcdGoal = s.vlcdOf d (s.slateSample d)
      ∧ (t.slate d).vlcd = (s.slate d).vlcd ∧ t.ldies = s.ldies
      ∧ ∀ (e i : Nat) (g : Field), g.apart [SLATE_TEMP_temp, SLATE_STAT_band] e i → t.get e g i = s.get e g i)
  ∧ (∀ (s : State) (d : Nat), s.isF d = true →
    ∃ t, exec (.framePairBoundary d) s = .next t ∧ (t.slate d).vlcd ≤ (s.slate d).vlcd + 50 ∧ (s.slate d).vlcd ≤ (t.slate d).vlcd + 50)
end

