-- ==== Sys2Proof/Laws/Maps.lean ====
section
/-! SUPPORT. The laws of the sorted maps: a read after a write, and that the operations keep the canonical form. -/

namespace Sys2Proof.Machine

variable {α : Type}

/-- A put reads back, and leaves every other key alone. -/
theorem smGet_smPut (m : SMap α) (k q : Nat) (v : α) : smGet (smPut m k v) q = if q = k then some v else smGet m q := by
  induction m with
  | nil => rfl
  | cons e t ih =>
    obtain ⟨x, w⟩ := e
    simp only [smPut]
    split
    · subst k; simp only [smGet]; split <;> rfl
    · split
      · rfl
      · simp only [smGet, ih]
        by_cases hq : q = x
        · subst hq; rw [if_pos rfl, if_pos rfl, if_neg (by omega)]
        · rw [if_neg hq, if_neg hq]

/-- A deletion makes its key unlisted, and leaves every other alone. -/
theorem smGet_smDel (m : SMap α) (k q : Nat) : smGet (smDel m k) q = if q = k then none else smGet m q := by
  induction m with
  | nil => simp [smDel, smGet]
  | cons e t ih =>
    obtain ⟨x, w⟩ := e
    simp only [smDel]
    split
    · subst k
      rw [ih]; simp only [smGet]
      by_cases hq : q = x
      · rw [if_pos hq, if_pos hq]
      · rw [if_neg hq, if_neg hq, if_neg hq]
    · simp only [smGet, ih]
      by_cases hq : q = x
      · subst hq; rw [if_pos rfl, if_pos rfl, if_neg (by omega)]
      · rw [if_neg hq, if_neg hq]

/-- The lowest key of a sorted map bounds the rest. -/
theorem smOk_cons {k : Nat} {v : α} {t : SMap α} :
    smOk ((k, v) :: t) = true ↔ (∀ e ∈ t, k < e.1) ∧ smOk t = true := by
  induction t generalizing k v with
  | nil => simp [smOk]
  | cons e t ih =>
    obtain ⟨q, w⟩ := e
    simp only [smOk, Bool.and_eq_true, decide_eq_true_eq]
    constructor
    · rintro ⟨h1, h2⟩
      refine ⟨?_, h2⟩
      intro e he
      rcases List.mem_cons.1 he with rfl | he
      · exact h1
      · exact lt_trans h1 ((ih.1 h2).1 e he)
    · rintro ⟨h1, h2⟩
      exact ⟨h1 _ List.mem_cons_self, h2⟩

/-- A put's keys are the old ones and its own. -/
theorem mem_smPut {m : SMap α} {k : Nat} {v : α} {e : Nat × α} (h : e ∈ smPut m k v) : e = (k, v) ∨ e ∈ m := by
  induction m with
  | nil => simp_all [smPut]
  | cons x t ih =>
    obtain ⟨y, w⟩ := x
    simp only [smPut] at h
    split at h
    · rcases List.mem_cons.1 h with h | h
      · exact .inl h
      · exact .inr (List.mem_cons_of_mem _ h)
    · split at h
      · rcases List.mem_cons.1 h with h | h
        · exact .inl h
        · exact .inr h
      · rcases List.mem_cons.1 h with h | h
        · exact .inr (h ▸ List.mem_cons_self)
        · exact (ih h).imp id (List.mem_cons_of_mem _)

/-- A put keeps the canonical form. -/
theorem smOk_smPut (m : SMap α) (k : Nat) (v : α) (h : smOk m = true) : smOk (smPut m k v) = true := by
  induction m with
  | nil => rfl
  | cons e t ih =>
    obtain ⟨x, w⟩ := e
    obtain ⟨hb, ht⟩ := smOk_cons.1 h
    simp only [smPut]
    split
    · subst k; exact smOk_cons.2 ⟨hb, ht⟩
    · split
      · rename_i hlt
        refine smOk_cons.2 ⟨?_, h⟩
        intro e he
        rcases List.mem_cons.1 he with rfl | he
        · exact hlt
        · exact lt_trans hlt (hb e he)
      · refine smOk_cons.2 ⟨?_, ih ht⟩
        intro e he
        rcases mem_smPut he with rfl | he
        · simp only; omega
        · exact hb e he

theorem mem_smDel {m : SMap α} {k : Nat} {e : Nat × α} (h : e ∈ smDel m k) : e ∈ m := by
  induction m with
  | nil => simp_all [smDel]
  | cons x t ih =>
    obtain ⟨y, w⟩ := x
    simp only [smDel] at h
    split at h
    · exact List.mem_cons_of_mem _ (ih h)
    · rcases List.mem_cons.1 h with h | h
      · exact h ▸ List.mem_cons_self
      · exact List.mem_cons_of_mem _ (ih h)

/-- A deletion keeps the canonical form. -/
theorem smOk_smDel (m : SMap α) (k : Nat) (h : smOk m = true) : smOk (smDel m k) = true := by
  induction m with
  | nil => rfl
  | cons e t ih =>
    obtain ⟨x, w⟩ := e
    obtain ⟨hb, ht⟩ := smOk_cons.1 h
    simp only [smDel]
    split
    · exact ih ht
    · exact smOk_cons.2 ⟨fun e he => hb e (mem_smDel he), ih ht⟩

/-- A set keeps the canonical form. -/
theorem smOk_smSet [DecidableEq α] (m : SMap α) (dflt : α) (k : Nat) (v : α) (h : smOk m = true) :
    smOk (smSet m dflt k v) = true := by
  unfold smSet
  split
  · exact smOk_smDel m k h
  · exact smOk_smPut m k v h

/-- A read after a set. -/
theorem smGetD_smSet [DecidableEq α] (m : SMap α) (dflt : α) (k q : Nat) (v : α) :
    smGetD (smSet m dflt k v) dflt q = if q = k then v else smGetD m dflt q := by
  unfold smSet smGetD
  by_cases hv : v = dflt
  · rw [if_pos hv, smGet_smDel]; split <;> simp_all
  · rw [if_neg hv, smGet_smPut]; split <;> simp_all

/-! ### Lists of dies -/

/-- An element reads as what was set; the others keep what they read as. -/
theorem getD_setAt (dflt : α) (l : List α) (d e : Nat) (x : α) :
    (setAt dflt l d x).getD e dflt = if e = d then x else l.getD e dflt := by
  induction d generalizing l e with
  | zero => cases l <;> cases e <;> simp [setAt]
  | succ d ih =>
    cases e with
    | zero => cases l <;> simp [setAt]
    | succ e => cases l with
      | nil => simpa [setAt] using ih [] e
      | cons y t => simpa [setAt] using ih t e

/-- Within the list, setting an element keeps its length. -/
theorem length_setAt (dflt : α) (l : List α) (d : Nat) (x : α) (h : d < l.length) : (setAt dflt l d x).length = l.length := by
  induction l generalizing d with
  | nil => simp at h
  | cons y t ih => cases d with
    | zero => rfl
    | succ d => simp only [setAt, List.length_cons] at *; rw [ih d (by omega)]

/-! ### Host memory -/

/-- Writes of the device to host memory keep its canonical form. -/
theorem smOk_hostWrite (m : SMap Byte) (p a : Nat) (bs : Bytes) (h : smOk m = true) : smOk (hostWrite m p a bs) = true := by
  induction bs generalizing m a with
  | nil => exact h
  | cons b t ih => exact ih _ _ (smOk_smPut _ _ _ h)

end Sys2Proof.Machine
end

