-- ==== Sys2Proof/Laws/State.lean ====
section
/-! SUPPORT. One lemma per field of State per update: what an update leaves alone, and what it sets. -/

namespace Sys2Proof.Machine

variable (s : State)

/-! ### put -/

@[simp] theorem put_variant (d : Nat) (f : Field) (v i : Nat) : (s.put d f v i).variant = s.variant := rfl
@[simp] theorem put_now (d : Nat) (f : Field) (v i : Nat) : (s.put d f v i).now = s.now := rfl
@[simp] theorem put_free (d : Nat) (f : Field) (v i : Nat) : (s.put d f v i).free = s.free := rfl
@[simp] theorem put_pending (d : Nat) (f : Field) (v i : Nat) : (s.put d f v i).pending = s.pending := rfl
@[simp] theorem put_busRead (d : Nat) (f : Field) (v i : Nat) : (s.put d f v i).busRead = s.busRead := rfl
@[simp] theorem put_regs (d : Nat) (f : Field) (v i : Nat) : (s.put d f v i).regs = smSet s.regs (s.resetOf d f i) (f.key d i) (v % 2 ^ f.width) := rfl
@[simp] theorem put_hif (d : Nat) (f : Field) (v i : Nat) : (s.put d f v i).hif = s.hif := rfl
@[simp] theorem put_com (d : Nat) (f : Field) (v i : Nat) : (s.put d f v i).com = s.com := rfl
@[simp] theorem put_pkg (d : Nat) (f : Field) (v i : Nat) : (s.put d f v i).pkg = s.pkg := rfl
@[simp] theorem put_fdies (d : Nat) (f : Field) (v i : Nat) : (s.put d f v i).fdies = s.fdies := rfl
@[simp] theorem put_ldies (d : Nat) (f : Field) (v i : Nat) : (s.put d f v i).ldies = s.ldies := rfl
@[simp] theorem put_hand (d : Nat) (f : Field) (v i : Nat) : (s.put d f v i).hand = s.hand := rfl
@[simp] theorem put_back (d : Nat) (f : Field) (v i : Nat) : (s.put d f v i).back = s.back := rfl
@[simp] theorem put_ttPub (d : Nat) (f : Field) (v i : Nat) : (s.put d f v i).ttPub = s.ttPub := rfl
@[simp] theorem put_partPub (d : Nat) (f : Field) (v i : Nat) : (s.put d f v i).partPub = s.partPub := rfl
@[simp] theorem put_mirrors (d : Nat) (f : Field) (v i : Nat) : (s.put d f v i).mirrors = s.mirrors := rfl
@[simp] theorem put_confirms (d : Nat) (f : Field) (v i : Nat) : (s.put d f v i).confirms = s.confirms := rfl
@[simp] theorem put_ledMsgs (d : Nat) (f : Field) (v i : Nat) : (s.put d f v i).ledMsgs = s.ledMsgs := rfl

/-! ### setCom -/

@[simp] theorem setCom_variant (d : Nat) (c : Com) : (s.setCom d c).variant = s.variant := rfl
@[simp] theorem setCom_now (d : Nat) (c : Com) : (s.setCom d c).now = s.now := rfl
@[simp] theorem setCom_free (d : Nat) (c : Com) : (s.setCom d c).free = s.free := rfl
@[simp] theorem setCom_pending (d : Nat) (c : Com) : (s.setCom d c).pending = s.pending := rfl
@[simp] theorem setCom_busRead (d : Nat) (c : Com) : (s.setCom d c).busRead = s.busRead := rfl
@[simp] theorem setCom_regs (d : Nat) (c : Com) : (s.setCom d c).regs = s.regs := rfl
@[simp] theorem setCom_hif (d : Nat) (c : Com) : (s.setCom d c).hif = s.hif := rfl
@[simp] theorem setCom_com (d : Nat) (c : Com) : (s.setCom d c).com = setAt {} s.com d c := rfl
@[simp] theorem setCom_pkg (d : Nat) (c : Com) : (s.setCom d c).pkg = s.pkg := rfl
@[simp] theorem setCom_fdies (d : Nat) (c : Com) : (s.setCom d c).fdies = s.fdies := rfl
@[simp] theorem setCom_ldies (d : Nat) (c : Com) : (s.setCom d c).ldies = s.ldies := rfl
@[simp] theorem setCom_hand (d : Nat) (c : Com) : (s.setCom d c).hand = s.hand := rfl
@[simp] theorem setCom_back (d : Nat) (c : Com) : (s.setCom d c).back = s.back := rfl
@[simp] theorem setCom_ttPub (d : Nat) (c : Com) : (s.setCom d c).ttPub = s.ttPub := rfl
@[simp] theorem setCom_partPub (d : Nat) (c : Com) : (s.setCom d c).partPub = s.partPub := rfl
@[simp] theorem setCom_mirrors (d : Nat) (c : Com) : (s.setCom d c).mirrors = s.mirrors := rfl
@[simp] theorem setCom_confirms (d : Nat) (c : Com) : (s.setCom d c).confirms = s.confirms := rfl
@[simp] theorem setCom_ledMsgs (d : Nat) (c : Com) : (s.setCom d c).ledMsgs = s.ledMsgs := rfl

/-! ### setL -/

@[simp] theorem setL_variant (d : Nat) (x : LDie) : (s.setL d x).variant = s.variant := rfl
@[simp] theorem setL_now (d : Nat) (x : LDie) : (s.setL d x).now = s.now := rfl
@[simp] theorem setL_free (d : Nat) (x : LDie) : (s.setL d x).free = s.free := rfl
@[simp] theorem setL_pending (d : Nat) (x : LDie) : (s.setL d x).pending = s.pending := rfl
@[simp] theorem setL_busRead (d : Nat) (x : LDie) : (s.setL d x).busRead = s.busRead := rfl
@[simp] theorem setL_regs (d : Nat) (x : LDie) : (s.setL d x).regs = s.regs := rfl
@[simp] theorem setL_hif (d : Nat) (x : LDie) : (s.setL d x).hif = s.hif := rfl
@[simp] theorem setL_com (d : Nat) (x : LDie) : (s.setL d x).com = s.com := rfl
@[simp] theorem setL_pkg (d : Nat) (x : LDie) : (s.setL d x).pkg = s.pkg := rfl
@[simp] theorem setL_fdies (d : Nat) (x : LDie) : (s.setL d x).fdies = s.fdies := rfl
@[simp] theorem setL_ldies (d : Nat) (x : LDie) : (s.setL d x).ldies = setAt {} s.ldies d x := rfl
@[simp] theorem setL_hand (d : Nat) (x : LDie) : (s.setL d x).hand = s.hand := rfl
@[simp] theorem setL_back (d : Nat) (x : LDie) : (s.setL d x).back = s.back := rfl
@[simp] theorem setL_ttPub (d : Nat) (x : LDie) : (s.setL d x).ttPub = s.ttPub := rfl
@[simp] theorem setL_partPub (d : Nat) (x : LDie) : (s.setL d x).partPub = s.partPub := rfl
@[simp] theorem setL_mirrors (d : Nat) (x : LDie) : (s.setL d x).mirrors = s.mirrors := rfl
@[simp] theorem setL_confirms (d : Nat) (x : LDie) : (s.setL d x).confirms = s.confirms := rfl
@[simp] theorem setL_ledMsgs (d : Nat) (x : LDie) : (s.setL d x).ledMsgs = s.ledMsgs := rfl

/-! ### setFd -/

@[simp] theorem setFd_variant (d : Nat) (x : FDie) : (s.setFd d x).variant = s.variant := rfl
@[simp] theorem setFd_now (d : Nat) (x : FDie) : (s.setFd d x).now = s.now := rfl
@[simp] theorem setFd_free (d : Nat) (x : FDie) : (s.setFd d x).free = s.free := rfl
@[simp] theorem setFd_pending (d : Nat) (x : FDie) : (s.setFd d x).pending = s.pending := rfl
@[simp] theorem setFd_busRead (d : Nat) (x : FDie) : (s.setFd d x).busRead = s.busRead := rfl
@[simp] theorem setFd_regs (d : Nat) (x : FDie) : (s.setFd d x).regs = s.regs := rfl
@[simp] theorem setFd_hif (d : Nat) (x : FDie) : (s.setFd d x).hif = s.hif := rfl
@[simp] theorem setFd_com (d : Nat) (x : FDie) : (s.setFd d x).com = s.com := rfl
@[simp] theorem setFd_pkg (d : Nat) (x : FDie) : (s.setFd d x).pkg = s.pkg := rfl
@[simp] theorem setFd_fdies (d : Nat) (x : FDie) : (s.setFd d x).fdies = setAt {} s.fdies (d - s.variant.lDies) x := rfl
@[simp] theorem setFd_ldies (d : Nat) (x : FDie) : (s.setFd d x).ldies = s.ldies := rfl
@[simp] theorem setFd_hand (d : Nat) (x : FDie) : (s.setFd d x).hand = s.hand := rfl
@[simp] theorem setFd_back (d : Nat) (x : FDie) : (s.setFd d x).back = s.back := rfl
@[simp] theorem setFd_ttPub (d : Nat) (x : FDie) : (s.setFd d x).ttPub = s.ttPub := rfl
@[simp] theorem setFd_partPub (d : Nat) (x : FDie) : (s.setFd d x).partPub = s.partPub := rfl
@[simp] theorem setFd_mirrors (d : Nat) (x : FDie) : (s.setFd d x).mirrors = s.mirrors := rfl
@[simp] theorem setFd_confirms (d : Nat) (x : FDie) : (s.setFd d x).confirms = s.confirms := rfl
@[simp] theorem setFd_ledMsgs (d : Nat) (x : FDie) : (s.setFd d x).ledMsgs = s.ledMsgs := rfl

/-! ### setGrp -/

@[simp] theorem setGrp_variant (g : Nat) (x : Grp) : (s.setGrp g x).variant = s.variant := rfl
@[simp] theorem setGrp_now (g : Nat) (x : Grp) : (s.setGrp g x).now = s.now := rfl
@[simp] theorem setGrp_free (g : Nat) (x : Grp) : (s.setGrp g x).free = s.free := rfl
@[simp] theorem setGrp_pending (g : Nat) (x : Grp) : (s.setGrp g x).pending = s.pending := rfl
@[simp] theorem setGrp_busRead (g : Nat) (x : Grp) : (s.setGrp g x).busRead = s.busRead := rfl
@[simp] theorem setGrp_regs (g : Nat) (x : Grp) : (s.setGrp g x).regs = s.regs := rfl
@[simp] theorem setGrp_com (g : Nat) (x : Grp) : (s.setGrp g x).com = s.com := rfl
@[simp] theorem setGrp_pkg (g : Nat) (x : Grp) : (s.setGrp g x).pkg = s.pkg := rfl
@[simp] theorem setGrp_fdies (g : Nat) (x : Grp) : (s.setGrp g x).fdies = s.fdies := rfl
@[simp] theorem setGrp_ldies (g : Nat) (x : Grp) : (s.setGrp g x).ldies = s.ldies := rfl
@[simp] theorem setGrp_hand (g : Nat) (x : Grp) : (s.setGrp g x).hand = s.hand := rfl
@[simp] theorem setGrp_back (g : Nat) (x : Grp) : (s.setGrp g x).back = s.back := rfl
@[simp] theorem setGrp_ttPub (g : Nat) (x : Grp) : (s.setGrp g x).ttPub = s.ttPub := rfl
@[simp] theorem setGrp_partPub (g : Nat) (x : Grp) : (s.setGrp g x).partPub = s.partPub := rfl
@[simp] theorem setGrp_mirrors (g : Nat) (x : Grp) : (s.setGrp g x).mirrors = s.mirrors := rfl
@[simp] theorem setGrp_confirms (g : Nat) (x : Grp) : (s.setGrp g x).confirms = s.confirms := rfl
@[simp] theorem setGrp_ledMsgs (g : Nat) (x : Grp) : (s.setGrp g x).ledMsgs = s.ledMsgs := rfl

/-! ### toHost -/

@[simp] theorem toHost_variant (p a : Nat) (b : Bytes) : (s.toHost p a b).variant = s.variant := rfl
@[simp] theorem toHost_now (p a : Nat) (b : Bytes) : (s.toHost p a b).now = s.now := rfl
@[simp] theorem toHost_free (p a : Nat) (b : Bytes) : (s.toHost p a b).free = s.free := rfl
@[simp] theorem toHost_pending (p a : Nat) (b : Bytes) : (s.toHost p a b).pending = s.pending := rfl
@[simp] theorem toHost_busRead (p a : Nat) (b : Bytes) : (s.toHost p a b).busRead = s.busRead := rfl
@[simp] theorem toHost_regs (p a : Nat) (b : Bytes) : (s.toHost p a b).regs = s.regs := rfl
@[simp] theorem toHost_com (p a : Nat) (b : Bytes) : (s.toHost p a b).com = s.com := rfl
@[simp] theorem toHost_pkg (p a : Nat) (b : Bytes) : (s.toHost p a b).pkg = s.pkg := rfl
@[simp] theorem toHost_fdies (p a : Nat) (b : Bytes) : (s.toHost p a b).fdies = s.fdies := rfl
@[simp] theorem toHost_ldies (p a : Nat) (b : Bytes) : (s.toHost p a b).ldies = s.ldies := rfl
@[simp] theorem toHost_hand (p a : Nat) (b : Bytes) : (s.toHost p a b).hand = s.hand := rfl
@[simp] theorem toHost_back (p a : Nat) (b : Bytes) : (s.toHost p a b).back = s.back := rfl
@[simp] theorem toHost_ttPub (p a : Nat) (b : Bytes) : (s.toHost p a b).ttPub = s.ttPub := rfl
@[simp] theorem toHost_partPub (p a : Nat) (b : Bytes) : (s.toHost p a b).partPub = s.partPub := rfl
@[simp] theorem toHost_mirrors (p a : Nat) (b : Bytes) : (s.toHost p a b).mirrors = s.mirrors := rfl
@[simp] theorem toHost_confirms (p a : Nat) (b : Bytes) : (s.toHost p a b).confirms = s.confirms := rfl
@[simp] theorem toHost_ledMsgs (p a : Nat) (b : Bytes) : (s.toHost p a b).ledMsgs = s.ledMsgs := rfl

/-! ### setBoot -/

@[simp] theorem setBoot_variant (b : Boot) : (s.setBoot b).variant = s.variant := rfl
@[simp] theorem setBoot_now (b : Boot) : (s.setBoot b).now = s.now := rfl
@[simp] theorem setBoot_free (b : Boot) : (s.setBoot b).free = s.free := rfl
@[simp] theorem setBoot_pending (b : Boot) : (s.setBoot b).pending = s.pending := rfl
@[simp] theorem setBoot_busRead (b : Boot) : (s.setBoot b).busRead = s.busRead := rfl
@[simp] theorem setBoot_regs (b : Boot) : (s.setBoot b).regs = s.regs := rfl
@[simp] theorem setBoot_hif (b : Boot) : (s.setBoot b).hif = s.hif := rfl
@[simp] theorem setBoot_com (b : Boot) : (s.setBoot b).com = s.com := rfl
@[simp] theorem setBoot_fdies (b : Boot) : (s.setBoot b).fdies = s.fdies := rfl
@[simp] theorem setBoot_ldies (b : Boot) : (s.setBoot b).ldies = s.ldies := rfl
@[simp] theorem setBoot_hand (b : Boot) : (s.setBoot b).hand = s.hand := rfl
@[simp] theorem setBoot_back (b : Boot) : (s.setBoot b).back = s.back := rfl
@[simp] theorem setBoot_ttPub (b : Boot) : (s.setBoot b).ttPub = s.ttPub := rfl
@[simp] theorem setBoot_partPub (b : Boot) : (s.setBoot b).partPub = s.partPub := rfl
@[simp] theorem setBoot_mirrors (b : Boot) : (s.setBoot b).mirrors = s.mirrors := rfl
@[simp] theorem setBoot_confirms (b : Boot) : (s.setBoot b).confirms = s.confirms := rfl
@[simp] theorem setBoot_ledMsgs (b : Boot) : (s.setBoot b).ledMsgs = s.ledMsgs := rfl

/-! ### settle -/

@[simp] theorem settle_variant (t : State) : (s.settle t).variant = s.variant := rfl
@[simp] theorem settle_now (t : State) : (s.settle t).now = s.now := rfl
@[simp] theorem settle_free (t : State) : (s.settle t).free = t.free := rfl
@[simp] theorem settle_pending (t : State) : (s.settle t).pending = s.pending := rfl
@[simp] theorem settle_busRead (t : State) : (s.settle t).busRead = t.busRead := rfl
@[simp] theorem settle_regs (t : State) : (s.settle t).regs = t.regs := rfl
@[simp] theorem settle_hif (t : State) : (s.settle t).hif = t.hif := rfl
@[simp] theorem settle_com (t : State) : (s.settle t).com = t.com := rfl
@[simp] theorem settle_pkg (t : State) : (s.settle t).pkg = t.pkg := rfl
@[simp] theorem settle_fdies (t : State) : (s.settle t).fdies = t.fdies := rfl
@[simp] theorem settle_ldies (t : State) : (s.settle t).ldies = t.ldies := rfl
@[simp] theorem settle_hand (t : State) : (s.settle t).hand = t.hand := rfl
@[simp] theorem settle_back (t : State) : (s.settle t).back = t.back := rfl
@[simp] theorem settle_ttPub (t : State) : (s.settle t).ttPub = t.ttPub := rfl
@[simp] theorem settle_partPub (t : State) : (s.settle t).partPub = t.partPub := rfl
@[simp] theorem settle_mirrors (t : State) : (s.settle t).mirrors = t.mirrors := rfl
@[simp] theorem settle_confirms (t : State) : (s.settle t).confirms = t.confirms := rfl
@[simp] theorem settle_ledMsgs (t : State) : (s.settle t).ledMsgs = t.ledMsgs := rfl

/-! ### The host interface, the boot state and the common part of a die -/

@[simp] theorem setGrp_groups (g : Nat) (x : Grp) : (s.setGrp g x).hif.groups = smSet s.hif.groups {} g x := rfl
@[simp] theorem setGrp_inflight (g : Nat) (x : Grp) : (s.setGrp g x).hif.inflight = s.hif.inflight := rfl
@[simp] theorem setBoot_boot (b : Boot) : (s.setBoot b).boot = b := rfl
@[simp] theorem setBoot_fenced (b : Boot) : (s.setBoot b).pkg.fenced = s.pkg.fenced := rfl
@[simp] theorem put_boot (d : Nat) (f : Field) (v i : Nat) : (s.put d f v i).boot = s.boot := congrArg Pkg.boot (put_pkg s d f v i)
@[simp] theorem putB_boot (d : Nat) (f : Field) (b : Bool) (i : Nat) : (s.putB d f b i).boot = s.boot := congrArg Pkg.boot (put_pkg s d f (b2n b) i)
@[simp] theorem setCom_boot (d : Nat) (c : Com) : (s.setCom d c).boot = s.boot := congrArg Pkg.boot (setCom_pkg s d c)
@[simp] theorem setL_boot (d : Nat) (x : LDie) : (s.setL d x).boot = s.boot := congrArg Pkg.boot (setL_pkg s d x)
@[simp] theorem setFd_boot (d : Nat) (x : FDie) : (s.setFd d x).boot = s.boot := congrArg Pkg.boot (setFd_pkg s d x)
@[simp] theorem setBootDie_boot (d : Nat) (b : BootDie) : (s.setBootDie d b).boot = s.boot := congrArg Pkg.boot (setCom_pkg s d _)
@[simp] theorem putB_com1 (d : Nat) (f : Field) (b : Bool) (i e : Nat) : (s.putB d f b i).com1 e = s.com1 e := rfl
@[simp] theorem setFd_com1 (d : Nat) (x : FDie) (e : Nat) : (s.setFd d x).com1 e = s.com1 e := rfl
@[simp] theorem put_com1 (d : Nat) (f : Field) (v i e : Nat) : (s.put d f v i).com1 e = s.com1 e := rfl
@[simp] theorem put_l (d : Nat) (f : Field) (v i : Nat) (e : Nat) : (s.put d f v i).l e = s.l e := rfl
@[simp] theorem put_f (d : Nat) (f : Field) (v i : Nat) (e : Nat) : (s.put d f v i).f e = s.f e := rfl

end Sys2Proof.Machine
end

