-- ==== Sys2Proof/Laws/Ops.lean ====
section
/-! SUPPORT. The shared operations: what a meaning can answer, and register fields read after a write. -/

namespace Sys2Proof.Machine

/-! ### What a meaning answers -/

theorem onL_of_isL {s t : State} {d : Nat} (h : s.isL d = true) : onL s d t = .next (s.settle t) := by simp [onL, h]
theorem onF_of_isF {s t : State} {d : Nat} (h : s.isF d = true) : onF s d t = .next (s.settle t) := by simp [onF, h]
theorem onPort_of_isPort {s t : State} {d : Nat} (h : s.isPort d = true) : onPort s d t = .next (s.settle t) := by
  simp [onPort, h]
theorem onDie_of_lt {s t : State} {d : Nat} (h : d < s.nDies) : onDie s d t = .next (s.settle t) := by simp [onDie, h]

/-- A meaning at an L-die answers the state of its effect, or stops where there is no such die. -/
theorem onL_cases (s t : State) (d : Nat) :
    (s.isL d = true ∧ onL s d t = .next (s.settle t)) ∨ (s.isL d = false ∧ onL s d t = .fault .absentUnit) := by
  cases h : s.isL d <;> simp [onL, h]

theorem onF_cases (s t : State) (d : Nat) :
    (s.isF d = true ∧ onF s d t = .next (s.settle t)) ∨ (s.isF d = false ∧ onF s d t = .fault .absentUnit) := by
  cases h : s.isF d <;> simp [onF, h]

theorem onPort_cases (s t : State) (d : Nat) :
    (s.isPort d = true ∧ onPort s d t = .next (s.settle t)) ∨ (s.isPort d = false ∧ onPort s d t = .fault .absentUnit) := by
  cases h : s.isPort d <;> simp [onPort, h]

theorem onDie_cases (s t : State) (d : Nat) :
    (d < s.nDies ∧ onDie s d t = .next (s.settle t)) ∨ (¬ d < s.nDies ∧ onDie s d t = .fault .absentUnit) := by
  by_cases h : d < s.nDies <;> simp [onDie, h]

/-- Whatever a meaning answers as a next state has settled. -/
theorem onL_next {s t u : State} {d : Nat} (h : onL s d t = .next u) : u = s.settle t := by
  rcases onL_cases s t d with ⟨_, e⟩ | ⟨_, e⟩ <;> rw [e] at h <;> cases h; rfl
theorem onF_next {s t u : State} {d : Nat} (h : onF s d t = .next u) : u = s.settle t := by
  rcases onF_cases s t d with ⟨_, e⟩ | ⟨_, e⟩ <;> rw [e] at h <;> cases h; rfl
theorem onPort_next {s t u : State} {d : Nat} (h : onPort s d t = .next u) : u = s.settle t := by
  rcases onPort_cases s t d with ⟨_, e⟩ | ⟨_, e⟩ <;> rw [e] at h <;> cases h; rfl
theorem onDie_next {s t u : State} {d : Nat} (h : onDie s d t = .next u) : u = s.settle t := by
  rcases onDie_cases s t d with ⟨_, e⟩ | ⟨_, e⟩ <;> rw [e] at h <;> cases h; rfl
theorem onAll_next {s t u : State} (h : onAll s t = .next u) : u = s.settle t := by cases h; rfl

/-- What settles keeps the silicon, the queue and the time. -/
theorem settle_keeps (s t : State) : (s.settle t).variant = s.variant ∧ (s.settle t).pending = s.pending ∧ (s.settle t).now = s.now :=
  ⟨rfl, rfl, rfl⟩

/-! ### Register fields -/

theorem resetOf_put (s : State) (d e : Nat) (f g : Field) (v i j : Nat) :
    (s.put d f v i).resetOf e g j = s.resetOf e g j := rfl

theorem regsOk_put {s : State} (d : Nat) (f : Field) (v i : Nat) (h : s.regsOk = true) : (s.put d f v i).regsOk = true :=
  smOk_smSet _ _ _ _ h

/-- A field reads as what was put into it, cut to its width. -/
theorem get_put_same (s : State) (d : Nat) (f : Field) (v i : Nat) :
    (s.put d f v i).get d f i = v % 2 ^ f.width := by
  unfold State.get
  rw [resetOf_put, put_regs, smGetD_smSet, if_pos rfl]

/-- A put leaves the fields with another key alone. -/
theorem get_put_ne (s : State) (d e : Nat) (f g : Field) (v i j : Nat) (hk : g.key e j ≠ f.key d i) :
    (s.put d f v i).get e g j = s.get e g j := by
  unfold State.get
  rw [resetOf_put, put_regs]
  unfold smSet smGetD
  split
  · rw [smGet_smDel, if_neg hk]
  · rw [smGet_smPut, if_neg hk]

theorem regsOk_putB {s : State} (d : Nat) (f : Field) (b : Bool) (i : Nat) (h : s.regsOk = true) : (s.putB d f b i).regsOk = true :=
  regsOk_put d f _ i h

theorem get_settle (s t : State) (d : Nat) (f : Field) (i : Nat) (h : t.variant = s.variant) :
    (s.settle t).get d f i = t.get d f i := by
  simp [State.get, State.resetOf, h]

/-! ### Dies -/

theorem com1_setCom (s : State) (d e : Nat) (c : Com) : (s.setCom d c).com1 e = if e = d then c else s.com1 e := getD_setAt _ _ _ _ _
theorem l_setL (s : State) (d e : Nat) (x : LDie) : (s.setL d x).l e = if e = d then x else s.l e := getD_setAt _ _ _ _ _
theorem f_setFd (s : State) (d e : Nat) (x : FDie) :
    (s.setFd d x).f e = if e - s.variant.lDies = d - s.variant.lDies then x else s.f e := getD_setAt _ _ _ _ _

/-! ### Commands of the rings -/

/-- With no command of its opcode to start, a ring command changes nothing. -/
theorem withCmd_none {s : State} {d op : Nat} {k : State → Cmd → State} (h : s.nextCmd d op = none) : s.withCmd d op k = s := by
  simp [State.withCmd, h]

theorem withCmd_some {s : State} {d op : Nat} {k : State → Cmd → State} {c : Cmd} (h : s.nextCmd d op = some c) :
    s.withCmd d op k = k s c := by simp [State.withCmd, h]

/-- A reserved event source never raises (R377). -/
theorem raise_reserved {s : State} {d n : Nat} (args handle : Nat) (h : s.evtDefault d n = none) : s.raise d n args handle = s := by
  simp [State.raise, h]

end Sys2Proof.Machine
end

