-- ==== Sys2Proof/Laws/Boot.lean ====
section
/-! SUPPORT. What the operations of a start leave alone. -/

namespace Sys2Proof.Machine

theorem femRefresh_boot (s : State) (d : Nat) : (s.femRefresh d).boot = s.boot := setFd_boot s d _
theorem femRefresh_com1 (s : State) (d e : Nat) : (s.femRefresh d).com1 e = s.com1 e := setFd_com1 s d _ e

/-- A choice of two states whose start is that of `u` has it too. -/
theorem ite_boot {c : Prop} [Decidable c] {t v u : State} (ht : t.boot = u.boot) (hv : v.boot = u.boot) :
    (if c then t else v).boot = u.boot := by split <;> assumption

/-- The release of a die leaves the state of the package's start alone. -/
theorem release_boot (s : State) (d : Nat) : (s.release d).boot = s.boot := by
  have h : ∀ b, (((s.put d SYS_BOOT_stage 1).setBootDie d b).putB d CLK_STAT_root_lock true |>.putB d CLK_STAT_ser_lock true).boot = s.boot :=
    fun b => (putB_boot _ d _ _ _).trans ((putB_boot _ d _ _ _).trans ((setBootDie_boot _ d b).trans (put_boot s d _ _ _)))
  unfold State.release
  refine ite_boot ?_ ?_
  · rw [putB_boot]
    exact ite_boot ((femRefresh_boot _ d).trans (h _)) (h _)
  · exact ite_boot ((femRefresh_boot _ d).trans (h _)) (h _)

/-- A choice of two states whose common part of die `e` is `c` has it too. -/
theorem ite_com1 {p : Prop} [Decidable p] {t v : State} {e : Nat} {c : Com} (ht : t.com1 e = c) (hv : v.com1 e = c) :
    (if p then t else v).com1 e = c := by split <;> assumption

/-- The release of a die leaves open whether it restarts on its own. -/
theorem release_alone (s : State) (d : Nat) : ((s.release d).bootDie d).alone = (s.bootDie d).alone := by
  have h : ∀ b, (((s.put d SYS_BOOT_stage 1).setBootDie d b).putB d CLK_STAT_root_lock true |>.putB d CLK_STAT_ser_lock true).com1 d
      = { s.com1 d with boot := b } :=
    fun b => (putB_com1 _ d _ _ _ d).trans ((putB_com1 _ d _ _ _ d).trans ((com1_setCom _ d d _).trans (if_pos rfl)))
  have k : (s.release d).com1 d = { s.com1 d with boot := { s.bootDie d with since := s.now, imageIn := false } } := by
    unfold State.release
    refine ite_com1 ?_ ?_
    · rw [putB_com1]
      exact ite_com1 ((femRefresh_com1 _ d d).trans (h _)) (h _)
    · exact ite_com1 ((femRefresh_com1 _ d d).trans (h _)) (h _)
  have g : ((s.release d).bootDie d) = { s.bootDie d with since := s.now, imageIn := false } := congrArg Com.boot k
  rw [g]

/-- Outside a restart of its own, a die at which bring-up fails fails the start. -/
theorem bootFail_of_not_alone {s : State} {d : Nat} (n : Nat) (h : (s.bootDie d).alone = false) : s.bootFail d n = s.failStart n d := by
  simp [State.bootFail, h]

end Sys2Proof.Machine
end

