-- ==== Sys2Proof/Tests/Slice0.lean ====
section
/-! SUPPORT. Tests: ill-formed commands are refused, worked examples of the spec, and for every statement values that meet its
hypotheses. -/

namespace Sys2Proof.Tests

open Sys2Proof.Machine

set_option maxRecDepth 100000
set_option Elab.async false

/-! ## Ill-formed commands are refused -/

/-- Each check of Instr.wellFormed that is on a die index alone refuses die 8. -/
theorem test_illFormed_die :
    [Instr.counterClear 8 .sys, .headerMessage 8, .rxPathEnable 8 true true, .lockZeroise 8, .ledgerApply 8, .downlink 8 [],
      .arcDisable 8, .ethEnable 8, .slateEnable 8, .vmonReset 0, .resetNAsserted].map Instr.wellFormed
      = [false, false, false, false, false, false, false, false, false, true, true] := by decide +kernel
theorem test_illFormed_bar :
    [(Instr.registerWrite (.msix 2) 0 0).wellFormed, (Instr.narrowOrUnalignedRead ⟨.doorbell 2, 0⟩).wellFormed] = [false, false] := by
  decide +kernel
theorem test_illFormed_address : (Instr.registerWrite .regs (2 ^ 26) 0).wellFormed = false := by decide +kernel
theorem test_illFormed_value : (Instr.registerWrite .regs 0 (2 ^ 32)).wellFormed = false := by decide +kernel
theorem test_illFormed_narrow : (Instr.narrowOrUnalignedWrite ⟨.regs, 2 ^ 26⟩).wellFormed = false := by decide +kernel
theorem test_illFormed_unmapped : (Instr.unmappedWrite (2 ^ 26)).wellFormed = false := by decide +kernel
theorem test_illFormed_sync_die : (Instr.syncDetected 8 0 1 true 0 0 0 0).wellFormed = false := by decide +kernel
theorem test_illFormed_sync_slot : (Instr.syncDetected 2 128 1 true 0 0 0 0).wellFormed = false := by decide +kernel
theorem test_illFormed_sync_mode : (Instr.syncDetected 2 0 9 true 0 0 0 0).wellFormed = false := by decide +kernel
theorem test_illFormed_slot : [(Instr.slotEnable 2 128).wellFormed, (Instr.slotDisable 8 0).wellFormed] = [false, false] := by decide +kernel
theorem test_illFormed_cal : [(Instr.calComplete 2 3 true).wellFormed, (Instr.calComplete 8 0 true).wellFormed] = [false, false] := by
  decide +kernel
theorem test_illFormed_timetable : [(Instr.ttEnable 2 8 true).wellFormed, (Instr.ttEnable 8 0 true).wellFormed] = [false, false] := by
  decide +kernel
theorem test_illFormed_mark : [(Instr.markExtend 0 8).wellFormed, (Instr.markExtend 8 0).wellFormed] = [false, false] := by decide +kernel
theorem test_illFormed_markLock : [(Instr.markLock 0 256).wellFormed, (Instr.markLock 8 0).wellFormed] = [false, false] := by
  decide +kernel
theorem test_illFormed_class : [(Instr.packetCommit 0 4).wellFormed, (Instr.packetCommit 8 0).wellFormed] = [false, false] := by
  decide +kernel
theorem test_illFormed_doorbell :
    [(Instr.sqTailDoorbell 2 0 0).wellFormed, (Instr.sqTailDoorbell 0 256 0).wellFormed, (Instr.sqTailDoorbell 0 0 (2 ^ 32)).wellFormed]
      = [false, false, false] := by decide +kernel
theorem test_illFormed_group : (Instr.completionWrite 256).wellFormed = false := by decide +kernel
theorem test_illFormed_hifPort : (Instr.hifPortWrite (2 ^ 32)).wellFormed = false := by decide +kernel
theorem test_illFormed_port : [(Instr.portLinkDown 2).wellFormed, (Instr.portLinkUp 2 0 0).wellFormed] = [false, false] := by
  decide +kernel
theorem test_illFormed_domain : [(Instr.domainEnable 8 0).wellFormed, (Instr.domainEnable 0 (2 ^ 32)).wellFormed] = [false, false] := by
  decide +kernel
theorem test_illFormed_wake : [(Instr.wake 8 0).wellFormed, (Instr.wake 0 6).wellFormed] = [false, false] := by decide +kernel
theorem test_illFormed_gpio : [(Instr.gpioEdge 8 0 true).wellFormed, (Instr.gpioEdge 2 16 true).wellFormed] = [false, false] := by
  decide +kernel
theorem test_illFormed_evtTest : [(Instr.evtTest 8 0).wellFormed, (Instr.evtTest 0 256).wellFormed] = [false, false] := by decide +kernel
theorem test_illFormed_evtPend :
    [(Instr.evtPendClear 8 0 0).wellFormed, (Instr.evtPendClear 0 8 0).wellFormed, (Instr.evtPendClear 0 0 (2 ^ 32)).wellFormed]
      = [false, false, false] := by decide +kernel
theorem test_illFormed_vector : [(Instr.msiXUnmask 2 0).wellFormed, (Instr.msiXUnmask 0 64).wellFormed] = [false, false] := by
  decide +kernel

/-! ## Helpers -/

theorem somePair {α β : Type} {o : Option (α × β)} (h : o.isSome = true) : o = some ((o.get h).1, (o.get h).2) := by simp
theorem someTriple {α β γ : Type} {o : Option (α × β × γ)} (h : o.isSome = true) :
    o = some ((o.get h).1, (o.get h).2.1, (o.get h).2.2) := by simp
theorem pairSome {α β : Type} {x : Option α × β} (h : x.1.isSome = true) : x = (some (x.1.get h), x.2) := by simp
theorem pairFst {α β : Type} {x : α × β} {a : α} (h : x.1 = a) : x = (a, x.2) := by subst h; rfl
theorem pairSome2 {α β γ : Type} {x : α × Option (β × γ)} (h : x.2.isSome = true) :
    x = (x.1, some ((x.2.get h).1, (x.2.get h).2)) := by simp
theorem pairInr {α β γ : Type} {x : (α ⊕ β) × γ} (h : x.1.isRight = true) : x = (.inr (x.1.getRight h), x.2) := by
  obtain ⟨a | b, c⟩ := x
  · cases h
  · rfl
theorem pairInl {α β γ : Type} {x : (α ⊕ β) × γ} (h : x.1.isLeft = true) : x = (.inl (x.1.getLeft h), x.2) := by
  obtain ⟨a | b, c⟩ := x
  · rfl
  · cases h
theorem inrOf {α β : Type} {x : α ⊕ β} (h : x.isRight = true) : x = .inr (x.getRight h) := by
  cases x with
  | inl a => cases h
  | inr b => rfl
/-- Several register fields put. -/
def puts (s : State) (l : List (Nat × Field × Nat)) : State := l.foldl (fun s p => s.put p.1 p.2.1 p.2.2) s
/-- An SG4-F2L2 that is online since 10,000 s, L0 Active and L1 its Substitute. -/
def on : State := puts { State.reset with now := 10 ^ 12, com := List.replicate 4 { clk := 10 ^ 21 } }
  [(0, SYS_BOOT_stage, 6), (1, SYS_BOOT_stage, 6), (2, SYS_BOOT_stage, 6), (3, SYS_BOOT_stage, 6), (0, MIRR_STAT_role, 1),
   (1, MIRR_STAT_role, 2)]
/-- A frame at context 0 of an F-die. -/
def ctx0 : Ctx := { slot := 0, hold := 0, mode := 0x10, fec := false, rssi := 0, freqOffset := 0, noise := 0, syncTime := 0, start := 0 }
def rdo (r : Radio) : State := on.setRad 2 r
def frame0 (k : TxKind) (g : TxStage) (t : Nat) : TxFrame :=
  { kind := k, stage := g, start := t, dur := 1000, lo := 8680000, hi := 8681000, bytes := [] }
def ackw (w : Bool) : AckWait :=
  { wmb := w, hold := 0, tt := 0, due := 0, dur := 0, lo := 0, hi := 0, bytes := [], lastBit := 0, identity := [], follow := none,
    mode := 1, centre := 8680000 }

/-- A command of the rings in flight at die `d`, its operands written at offsets of the entry: offset, size, value. -/
def cmdOf (d op : Nat) (l : List (Nat × Nat × Nat)) : Cmd :=
  { id := 0, group := 0, port := 0, die := d, opcode := op, fetched := 0,
    entry := l.foldl (fun b x => putBytes b x.1 (leBytes x.2.1 x.2.2)) (fillBytes 64 0) }
def inCmd (s : State) (d op : Nat) (l : List (Nat × Nat × Nat)) : State :=
  { s with hif := { s.hif with inflight := [cmdOf d op l] } }
def plco (p : Plc) : State := on.setFd 2 { on.f 2 with plc := p }
def slot0 (alg usage : Nat) : Slot := { alg := alg, usage := usage, origin := 2, key := fillBytes 32 7 }
def lockOf (d : Nat) (l : List (Nat × Slot)) : State := on.setLock d { on.lock d with lc := 2, slots := l }
/-- A power-line MAC frame to the modem's short address, with a metering payload, its segment control before and its FCS after. -/
def plcPay : Bytes := plcHeaders 61618 [1, 2, 3]
def plcB : Bytes := withFcs ([1, 0, 0, 0x41, 0xC8, 1, 0xFF, 0xFF, 0xFE, 0xFF, 1, 2, 3, 4, 5, 6, 7, 8] ++ plcPay)
def recAt (s : State) (d slot : Nat) (m : MRec) : State := s.setRecs d [(slot, m)]
/-- A package for a Locker with key 1 at slot 4 of a die with die_id 0 (the ephemeral public key is the generator), with an AES-128
key of zeros. -/
def pkg0 : Bytes :=
  beBytes 64 (p256G.1 * 2 ^ 256 + p256G.2) ++ fillBytes 12 0
    ++ [20, 171, 36, 120, 65, 11, 186, 189, 93, 191, 231, 109, 243, 211, 159, 186, 197, 125, 229, 58, 186, 188, 29, 116, 205,
      137, 107, 212, 232, 112, 38, 0, 176, 79, 214, 176, 31, 213, 38, 207]
def slot4 : Slot := { alg := 4, usage := 2 ^ useUnwrap, origin := 0, key := beBytes 32 1 }
def hdr0 : Header := { die := 2, ctx := 0, slot := 0, mode := 1, hold := 0, syncTime := 0, identity := fillBytes 8 1, idHash := 0, idKind := 0, rssi := 0, freqOffset := 0 }
def trl0 : Trailer := { length := 10, lqi := 0, rssiMean := 0, lastBit := 0, arrival := 0 }
def frm0 : LFrame := { src := 2, ctx := 0, hold := 0, header := hdr0, headerAt := 0 }
def handOf (b : HandBody) : State := { on with hand := [⟨2, 0, 0, 0, b⟩] }
def pt0 : Bytes := leBytes 4 1 ++ leBytes 4 0xFFFFFFFF ++ fillBytes 16 0
theorem pkg0_opens (s : State) (d : Nat) (h : (s.lock d).fuses.dieId = fillBytes 8 0) :
    s.openPackage d slot4 (slice pkg0 0 116) = some pt0 := by
  unfold State.openPackage; rw [h]; decide +kernel
theorem pkg0_opensAt {s : State} {d n : Nat} (hn : n = 116) (h : (s.lock d).fuses.dieId = fillBytes 8 0) :
    s.openPackage d slot4 (slice pkg0 0 n) = some pt0 := by
  subst hn; exact pkg0_opens s d h
theorem fetchRec {s : State} {d slot h : Nat} {m : MRec} (hr : smGet (s.l d).recs slot = some m) (hh : s.slotHandle d slot = h)
    (ok : fetchOk m h = true) : s.fetch d slot = (some m, s) := by
  simp [State.fetch, State.rawRec, hr, hh, ok]
theorem fetchFree {s : State} {d slot h : Nat} (hr : smGet (s.l d).recs slot = none) (hh : s.slotHandle d slot = h)
    (ok : fetchOk (freeRec h) h = true) : s.fetch d slot = (some (freeRec h), s) := by
  simp [State.fetch, State.rawRec, hr, hh, ok]
/-- An Active prepayment meter with a relay, assigned to a slot of timetable 0; and one whose spare key is staged. -/
def rec1 : MRec :=
  { bytes := fillBytes 13 0 ++ ([1, 0, 6] ++ (fillBytes 10 0 ++ (fillBytes 6 0xFF ++ (fillBytes 309 0 ++ ([1] ++ (fillBytes 166 0
      ++ [7, 65, 77, 117])))))) }
def rec3 : MRec :=
  { bytes := fillBytes 13 0 ++ ([1] ++ (fillBytes 12 0 ++ (fillBytes 7 0xFF ++ (fillBytes 40 0 ++ ([3] ++ (fillBytes 434 0
      ++ [153, 196, 214, 116])))))) }
theorem rec1_ok : fetchOk rec1 0 = true := by decide +kernel
theorem rec3_ok : fetchOk rec3 0 = true := by decide +kernel
theorem free0_ok : fetchOk (freeRec 0) 0 = true := by decide +kernel
/-- A ring command at L0 for the meter in slot 0. -/
def recCmd (m : MRec) (op : Nat) (l : List (Nat × Nat × Nat)) : State := inCmd (recAt on 0 0 m) 0 op l
/-- A program of one season, one day profile and one switching point, with intervals of an hour. -/
def prog0 : Bytes :=
  [1, 0, 0, 0, 60, 0, 0, 0, 1, 1] ++ (fillBytes 50 0 ++ ([107, 13, 181, 226] ++ ([1, 1] ++ (fillBytes 94 0
    ++ ([1, 0, 0, 0, 0xFF, 0xFF, 0xFF, 0xFF] ++ fillBytes 1880 0)))))
def withProg (s : State) : State := s.setLed 0 { s.led 0 with progs := [⟨0, 0, prog0, false⟩] }
def pkt0 : Packet := { seq := 0, kind := 1, cls := 0, handle := 0xFFFFFFFF, start := 10 ^ 12, cost := 1, payload := [] }
def queOf (q : Queue) : State := on.setQue 0 0 q
def tt0 : TtParams := on.ttParams 2 0 true
def ttOf (s : State) (t : TtTab) : State := s.setL 0 { s.l 0 with tt := t }
/-- Group 0's completion ring runs on port A, whose link is up. -/
def ringOn (s : State) : State := puts s [(0, HIF_STAT_a_up, 1), (0, HIF_GRPn_STAT_cq_state, 1), (0, HIF_GRPn_SIZE_cq_log2, 8)]
/-- Group 0 of die 0. -/
def grpOn (s : State) (x : Group) : State := s.setL 0 { s.l 0 with bal := { groups := [(0, x)] } }
def findOn (s : State) (f : Finding) : State := s.setL 0 { s.l 0 with findings := [f] }
def ledOn (s : State) (b : LedBody) : State := { s with ledMsgs := [⟨0, 0, b⟩] }
/-- Ring group 0 with its part that no register shows. -/
def grpHost (s : State) (g : Grp) : State := { s with hif := { s.hif with groups := [(0, g)] } }
def cpl0 : Cpl := { first := fillBytes 63 0, exts := [], atOnce := false, isSub := false, item := none }
def lay0 : Layout := { luns := 4, blocksPerLun := 30, blockSectors := 8, planes := 1, slc := false, rawGib := 64, pe := 3000, hostGib := 64, made := 0 }
/-- An archive controller that runs with four LUNs of thirty blocks. -/
def arcOn (s : State) (a : Arc) : State := (s.put 0 ARC_STAT_state 1).setArc 0 { a with layout := some lay0 }
def arc1 : Arc := { layout := some lay0 }
def ent0 : ArcEntry := { seq := 0, kind := 1, flags := 0, handle := 0, lt := 0, body := [] }
/-- All but two of its 120 good blocks hold the log, and the oldest closed one holds a page of it that a checkpoint covers. -/
def trimArc : State :=
  ((arcOn on {}).put 0 ARC_CFG_jrn_target 0).setArc 0
    { blocks := (0, { st := .closed }) :: (List.range 117).map (fun i => (i + 1, { st := .opened })), map := [(0, ⟨0, 4⟩)],
      layout := some { lay0 with hostGib := 0, blockSectors := 2 ^ 22 } }
/-- An SG4-L4, not paired, with its dies Single. -/
def onL4 : State := puts { State.reset with variant := .l4, now := 10 ^ 12, com := List.replicate 4 { clk := 10 ^ 21 } }
  [(0, SYS_BOOT_stage, 6), (1, SYS_BOOT_stage, 6), (2, SYS_BOOT_stage, 6), (3, SYS_BOOT_stage, 6)]
/-- The pair is Protected, and die `d` holds this mirror state. -/
def mirOn (s : State) (d : Nat) (m : Mirror) : State := (s.put 0 MIRR_STAT_pair_state 1).setMir d m
def img0 : Image := { version := 1, svn := 1, signer := 2, digest := [] }
def eufOn (s : State) (e : Euf) : State := (s.put 0 EUF_STAT_port_state 2).setEuf 0 e
def fabIn (s : State) (l : List FabCtl) : State := s.setFab { s.fab with inbox := l }
def led0 : LedBody := .contrib ⟨true, false, false, false, 0, 0, 0, 0, 0⟩
/-- Package 5 is reached over the port of die 0, package 1 being its neighbour. -/
def routeOn : State := eufOn on { dsts := [(0, { owed := some 0 })] }
def routeUp : State := (routeOn.setEuf 0 { dsts := [(flowKey 0 8, { owed := some 0 })] }).put 0 EUF_ROUTEp_nh0 8 1
theorem routeUp_hop : routeUp.hopFor 0 (routeUp.addrOf 0) 8 0 = some 0 := by
  unfold State.hopFor; rw [show routeUp.nextHops 0 (8 / 8) = [0] from by decide +kernel]; simp [Nat.mod_one]
/-- The MAC of die 0 runs with its link up; and with this state. -/
def ethUp (s : State) : State := puts s [(0, ETH_STAT_state, 1), (0, ETH_STAT_link, 1), (0, ETH_STAT_duplex, 1)]
def ethOn (e : Eth) : State := (ethUp on).setEth 0 e
def frmE : EthFrame := { queue := 1, bytes := [] }
def slaOn (n : Nat) (x : Slate) : State := (on.put 2 SLATE_STAT_state n).setSlate 2 x
/-- L0 has image 0 of bank A and sends it. -/
def bootOn (s : State) : State :=
  let s := s.setBoot { images := [(0, img0)] }
  (s.setBootDie 0 { imageIn := true }).setLock 2 { s.lock 2 with lc := 2 }
def hold0 : Hold := { ctx := 0, verdict := some .accept }
def rel0 : BackMsg := ⟨0, 2, 0, 0, .release⟩
def inBack (s : State) (l : List BackMsg) : State := { s with back := l }
/-- The modem has a frame to send, and these group keys. -/
def plcTx (t : PlcTx) : State := (lockOf 2 [(32, slot0 0 5)]).setFd 2 { (lockOf 2 [(32, slot0 0 5)]).f 2 with plc := { cur := some t } }
def tx0 : PlcTx := { kind := .downlink, bytes := [0, 0, 0, 0x61, 0x88, 1, 0, 0, 5, 0, 6, 0] }
def meas0 : PlcMeas := ⟨[], [10], 0⟩
def rx0 : PlcRx := { hold := 0, pre := 0, rssi := 0 }
def he0 : HeFrame := { cmd := 0, entry := (cmdOf 0 0x81 []).entry, bytes := [0, 1, 2], arrived := 0 }
def pktT : Packet := { pkt0 with part := .tail, committed := true }
theorem pairSnd {α β : Type} {x : α × β} {b : β} (h : x.2 = b) : x = (x.1, b) := by subst h; rfl
def tt1 : TtParams := { tt0 with start := 0, guardMin := 0, winCap := 0, uInit := 0, slotLen := 1, slots := 8, hpFirst := 0, hpStride := 0, openFirst := 0, openStride := 0, bcFirst := 0, bcCount := 0, periodMax := 1 }
def asg0 : AssignEnt := { handle := 0, identity := [], tell := true, since := 0 }
/-- As `rec1`, last seen at second 15,000. -/
def rec2 : MRec :=
  { bytes := fillBytes 13 0 ++ ([1, 0, 6] ++ (fillBytes 10 0 ++ (fillBytes 6 0xFF ++ (fillBytes 16 0 ++ ([152, 58]
      ++ (fillBytes 291 0 ++ ([1] ++ (fillBytes 166 0 ++ [0xcf, 0xac, 0xb5, 0x2b])))))))) }
theorem rec2_ok : fetchOk rec2 0 = true := by decide +kernel
theorem hopOne {s : State} {d dst src c h : Nat} (hn : s.nextHops d (dst / 8) = [h]) : s.hopFor d src dst c = some h := by
  unfold State.hopFor; rw [hn]; simp [Nat.mod_one]
/-- A PAUSE frame without its check sequence. -/
def pauseF : Bytes := beBytes 6 0x0180C2000001 ++ (fillBytes 6 0 ++ ([0x88, 8, 0, 1] ++ fillBytes 44 0))

/-! ## Worked examples of the spec -/

/-- R10: handle 0x0013A2F4 names die L1 and slot 238,324; an SG4-F1L1 rejects it, its die 1 being F0. -/
theorem test_handle : onL4.handleDie 0x0013A2F4 = some 1 ∧ 0x0013A2F4 % 2 ^ 20 = 238324
    ∧ ({ onL4 with variant := .f1l1 } : State).handleOk 0x0013A2F4 = false := by decide +kernel
/-- 18_event_register_index, worked example: source 53 of F1 is set at BAR0 offset 0x018304D4 with 0x9B. -/
theorem test_evtSource : (match execRegisterWrite .regs 0x018304D4 0x9B on with
    | .next t => (t.get 3 EVT_SRCs_en 53, t.get 3 EVT_SRCs_class 53, t.get 3 EVT_SRCs_direct 53, t.get 3 EVT_SRCs_vector 53,
        t.get 3 EVT_SRCs_port 53)
    | _ => (0, 0, 0, 0, 0)) = (1, 1, 1, 9, 0) := by decide +kernel
/-- The same example: the event's pending bit is cleared by 0x00200000 at BAR0 offset 0x01830104. -/
theorem test_evtPend : (match execRegisterWrite .regs 0x01830104 0x00200000 (puts on [] |>.put 3 EVT_PENDw_pend 0x00200001 1) with
    | .next t => t.get 3 EVT_PENDw_pend 1
    | _ => 0) = 1 := by decide +kernel
/-- R57, example: lim 10,000 with ack_reserve 25 gives 360,000 ms an hour, 270,000 of them for downlinks; frames of 5.12 ms and
33.28 ms count as 6 and 34 ms. -/
theorem test_dutyCycle :
    let s := puts on [(2, RFT_DC_LIMn_lim, 10000), (2, RFT_DC_LIMn_ack_reserve, 25)]
    s.dcBudget 2 0 = 360000 ∧ s.dcUnreserved 2 0 = 270000
      ∧ s.frameMs 2 { frame0 .ack .queued 0 with dur := 512000 } = 6
      ∧ s.frameMs 2 { frame0 .broadcast .queued 0 with dur := 3328000 } = 34 := by decide +kernel
/-- Group 0x0107 of 07_balance_engine's worked example. -/
def group107 : Group := { gLen := 60, settle := 2, persist := 4, lossThr := 800, absMin := 500, stepK := 16, estMax := 25, meanR := 310, devR := 60 }
/-- Its interval 18:00: quiet, with ratio 302; dev_r becomes 59. -/
theorem test_balance_quiet :
    let v := classify group107 { n := 18, head := 14200, sum := 13770, headCovered := true } 0 {}
    v.cls = .quiet ∧ v.r = 302 ∧ v.l = 430
      ∧ (group107.count 18 { n := 18, head := 14200, sum := 13770, headCovered := true } v).devR = 59
      ∧ (group107.count 18 { n := 18, head := 14200, sum := 13770, headCovered := true } v).meanR = 310 := by decide +kernel
/-- Its interval 20:00: high, with 2,540 estimated for E and ratio 1,936. -/
theorem test_balance_high :
    let v := classify { group107 with devR := 59, runHi := 1 } { n := 20, head := 14100, sum := 8830, headCovered := true } 0 { est := 2540 }
    v.cls = .high true true ∧ v.r = 1936 ∧ v.l = 2730 ∧ v.est = 2540 := by decide +kernel
/-- R247, worked example: 15.69 years of life in full form and 23.76 in summary form. -/
theorem test_governor :
    (govLife (2100 * 1099511627776) (1, 0, 10, 11) (4240000 * 3600)).map (fun t => (t * 100 + 15778800) / 31557600) = some 1569
      ∧ (govLife (2100 * 1099511627776) (1, 0, 10, 11) (2800000 * 3600)).map (fun t => (t * 100 + 15778800) / 31557600) = some 2376 := by
  decide +kernel
/-- Handle 0x8A13 of package 3 is fabric handle 0x03008A13. -/
theorem test_fabricHandle : fabHandle (3 * 8) 0x8A13 = 0x03008A13 := by decide +kernel
/-- R73 to R75, worked example, the join and report 2: b_est, u and the rate hint after each, data slot 1,612 of 25 ms. -/
theorem test_learning :
    let p : TtParams := { tt0 with slotLen := 250, slots := 2400, uInit := 200, guardMin := 100, winCap := 2500, joinPpm := 25 }
    let m0 : MRec := { bytes := fillBytes 512 0 }
    let a := learn p m0 1612 (-79700) false
    a.corr = 797 ∧ toSigned 16 a.hint = 1978 := by decide +kernel
/-- 02_radio_reception, example: a 42-byte PSDU at 100 kb/s lasts 800 + 3,520 us uncoded, and 800 + 7,040 us coded with 32 symbols
of coded tail and padding. -/
theorem test_airTime : (sunTicks 2 false 42, sunTicks 2 true 42) = (432000, 816000) := by decide +kernel

/-! ## Witnesses -/

/-- Values that meet the hypotheses of Obligations.RegisterAccessCompletes, clause by clause. -/
theorem witness_RegisterAccessCompletes :
    (∃ (s : State) (d off : Nat) (b : Block), d < s.nDies ∧ off < dieWindow ∧ off % 4 = 0 ∧ s.blockAt d off = some b ∧ s.blockOn
        d b = true)
    ∧ (∃ (s : State) (d off : Nat) (b : Block), d < s.nDies ∧ off < dieWindow ∧ s.blockAt d off = some b ∧ s.blockOn d b = true
        ∧ b ≠ .ddr ∧ b ≠ .hold ∧ s.domOn d 1 = true)
    ∧ (∃ (bar : Bar), ((∀ p, bar ≠ .doorbell p)))
    ∧ (∃ (s : State) (d off : Nat), d < s.nDies ∧ off < dieWindow ∧ s.blockAt d off = none ∧ s.domOn d 1 = true)
    ∧ (∃ (s : State) (d : Nat) (b : Block), s.hasBlock d b = true ∧ s.blockOn d b = true) :=
  ⟨⟨on, 0, 0, _, ⟨(by decide +kernel), (by decide +kernel), (by decide +kernel), (Option.some_get (by decide +kernel)).symm,
      (by decide +kernel)⟩⟩,
   ⟨on, 0, 0, _, ⟨(by decide +kernel), (by decide +kernel), (Option.some_get (by decide +kernel)).symm, (by decide +kernel),
       (by decide +kernel), (by decide +kernel), (by decide +kernel)⟩⟩,
   ⟨.regs, (fun p h => nomatch h)⟩,
   ⟨on, 0, 0x80000, ⟨(by decide +kernel), (by decide +kernel), (by decide +kernel), (by decide +kernel)⟩⟩,
   ⟨on, 0, .sys, ⟨(by decide +kernel), (by decide +kernel)⟩⟩⟩

/-- Values that meet the hypotheses of Obligations.ReservedSourcesNeverRaise, clause by clause. -/
theorem witness_ReservedSourcesNeverRaise :
    (∃ (s : State) (d n : Nat), d < s.nDies ∧ n < 256 ∧ (((s.isL d = true ∧ (n ∈ [1, 2, 3, 10, 11, 31, 87, 93, 94, 95, 109, 110,
        111, 127] ∨ (40 ≤ n ∧ n ≤ 63) ∨ 144 ≤ n)) ∨ (s.isL d = false ∧ (n ∈ [1, 2, 3, 18, 27, 31, 77, 78, 79] ∨ (5 ≤ n ∧ n ≤ 11)
        ∨ (58 ≤ n ∧ n ≤ 63) ∨ (67 ≤ n ∧ n ≤ 71) ∨ 96 ≤ n)))))
    ∧ (∃ (s : State) (d n : Nat), d < s.nDies ∧ n < 256 ∧ (((s.isL d = true ∧ (n ∈ [1, 2, 3, 10, 11, 31, 87, 93, 94, 95, 109,
        110, 111, 127] ∨ (40 ≤ n ∧ n ≤ 63) ∨ 144 ≤ n)) ∨ (s.isL d = false ∧ (n ∈ [1, 2, 3, 18, 27, 31, 77, 78, 79] ∨ (5 ≤ n ∧ n
        ≤ 11) ∨ (58 ≤ n ∧ n ≤ 63) ∨ (67 ≤ n ∧ n ≤ 71) ∨ 96 ≤ n)))) ∧ s.blockOn d .evt = true) :=
  ⟨⟨on, 0, 1, ⟨(by decide +kernel), (by decide +kernel), (by decide +kernel)⟩⟩,
   ⟨on, 0, 144, ⟨(by decide +kernel), (by decide +kernel), (by decide +kernel), (by decide +kernel)⟩⟩⟩

/-- Values that meet the hypotheses of Obligations.EventCommandsComplete, clause by clause. -/
theorem witness_EventCommandsComplete :
    (∃ (s : State) (d n : Nat), d < s.nDies ∧ s.blockOn d .evt = true ∧ n < 256)
    ∧ (∃ (s : State) (d w : Nat), d < s.nDies ∧ s.blockOn d .evt = true ∧ w < 8)
    ∧ (∃ (s : State) (m : EvtMsg) (rest : List EvtMsg), s.hif.evtNet = m :: rest)
    ∧ (∃ (s t : State) (d n : Nat), s.isF d = true ∧ n < 16 ∧ bit (s.f d).pins n = false ∧ t = s.setFd d
        { s.f d with pins := (s.f d).pins ||| 2 ^ n } ∧ bit (t.get d GPIO_RISE_rise) n = true ∧ bit (t.get d GPIO_DIR_out) n =
        false ∧ t.domOn d 15 = true ∧ bit ((t.raise d (80 + n) (arg 0 1)).get d GPIO_WAKE_wake) n = false)
    ∧ (∃ (s t : State) (d n : Nat), s.isF d = true ∧ n < 16 ∧ bit (s.f d).pins n = true ∧ t = s.setFd d
        { s.f d with pins := (s.f d).pins - ((s.f d).pins &&& 2 ^ n) } ∧ bit (t.get d GPIO_FALL_fall) n = true ∧ bit (t.get d
        GPIO_DIR_out) n = false ∧ t.domOn d 15 = true ∧ bit ((t.raise d (80 + n) (arg 0 0)).get d GPIO_WAKE_wake) n = false) :=
  ⟨⟨on, 0, 0, ⟨(by decide +kernel), (by decide +kernel), (by decide +kernel)⟩⟩,
   ⟨on, 0, 0, ⟨(by decide +kernel), (by decide +kernel), (by decide +kernel)⟩⟩,
   ⟨{ on with hif := { on.hif with evtNet := [⟨2, 36, 0, noHandle, 0, true, none⟩] } }, ⟨2, 36, 0, noHandle, 0, true, none⟩, [],
       (by decide +kernel)⟩,
   ⟨(on.put 2 GPIO_RISE_rise 1), _, 2, 0, ⟨(by decide +kernel), (by decide +kernel), (by decide +kernel), rfl,
       (by decide +kernel), (by decide +kernel), (by decide +kernel), (by decide +kernel)⟩⟩,
   ⟨(on.put 2 GPIO_FALL_fall 1).setFd 2 { on.f 2 with pins := 1 }, _, 2, 0, ⟨(by decide +kernel), (by decide +kernel),
       (by decide +kernel), rfl, (by decide +kernel), (by decide +kernel), (by decide +kernel), (by decide +kernel)⟩⟩⟩

/-- Values that meet the hypotheses of Obligations.EventPortRefused, clause by clause. -/
theorem witness_EventPortRefused : ∃ (s : State) (d n v : Nat), d < s.nDies ∧ n < 256 ∧ s.nL = 1 ∧ (s.evtDefault d n).isSome =
    true ∧ s.blockOn d .evt = true ∧ EVT_SRCs_port.of (v % 2 ^ 32) = 1 :=
  ⟨{ on with variant := .f1l1 }, 0, 0, 0x400, ⟨(by decide +kernel), (by decide +kernel), (by decide +kernel),
      (by decide +kernel), (by decide +kernel), (by decide +kernel)⟩⟩

/-- Values that meet the hypotheses of Obligations.ReceptionCompletes, clause by clause. -/
theorem witness_ReceptionCompletes :
    (∃ (s : State) (d n mode b c h : Nat), s.isF d = true ∧ n < 128 ∧ s.get d CHN_SLOT_STATn_state n = 1 ∧ modeBit mode = some b
        ∧ bit (s.get d CHN_SLOT_MODEn_mode_mask n) b = true ∧ s.get d CHN_SLOT_MODEn_sync_rssi_min n = 0x80 ∧ s.blanked d
        (s.flag d CHN_SLOT_CFGn_path n) = false ∧ s.flag d (pathField (s.flag d CHN_SLOT_CFGn_path n) RFA_STAT_deaf) = false ∧
        (s.com1 d).pwr.halted = false ∧ firstFree (s.rad d).ctxs 128 0 = some c ∧ firstFree (s.rad d).hold holdEntries 0 = some
        h)
    ∧ (∃ (s : State) (d c psduLen k : Nat) (modeSwitch : Bool) (b identity : Bytes) (x : Ctx), s.isF d = true ∧ s.ctx d c = some
        x ∧ x.addrDone = false ∧ x.state = .receiving ∧ x.withheldFrom = none ∧ x.lastBit = none ∧ addrCheck (s.get d
        WMB_PASS_pass) x.mode psduLen modeSwitch b = some (some (identity, k)))
    ∧ (∃ (s : State) (d c : Nat) (x : Ctx), s.isF d = true ∧ s.ctx d c = some x ∧ x.lastBit = none ∧ x.addrDone = false)
    ∧ (∃ (s : State) (d c o : Nat) (x : Ctx), s.isF d = true ∧ s.ctx d c = some x ∧ x.lastBit = none ∧ x.addrDone = true ∧
        x.headerSent = true ∧ x.owner = some o)
    ∧ (∃ (s : State) (d c o : Nat) (b : Bytes) (x : Ctx), s.isF d = true ∧ s.ctx d c = some x ∧ x.addrDone = true ∧
        x.withheldFrom = none ∧ x.lastBit = none ∧ b.isEmpty = false ∧ b.length ≤ 64 ∧ x.owner = some o)
    ∧ (∃ (s : State) (d c : Nat) (x : Ctx), s.isF d = true ∧ s.ctx d c = some x ∧ x.lastBit = none ∧ x.withheldFrom = none ∧
        x.addrDone = true ∧ x.recovered = false)
    ∧ (∃ (s : State) (d weak strong k : Nat) (x : Ctx), s.isF d = true ∧ s.ctx d weak = some x ∧ x.withheldFrom = some k ∧
        x.state ≠ .unpicking ∧ x.overlaps.any (fun o => o.ctx == strong) = true ∧ x.overlaps.all (fun o => o.ok == some true) =
        true ∧ x.tooLong (s.devTime d) = false ∧ (s.rad d).unpicks.length < 16)
    ∧ (∃ (s : State) (d weak keep from_ o : Nat) (x : Ctx) (u : Unpick), s.isF d = true ∧ s.ctx d weak = some x ∧ (s.rad
        d).unpicks.find? (fun u => u.weak == weak) = some u ∧ x.addrDone = true ∧ x.owner = some o ∧ x.withheldFrom = some keep
        ∧ x.overlapFrom = some from_ ∧ x.lastBit = none) :=
  ⟨⟨(puts on [(2, CHN_SLOT_STATn_state, 1), (2, CHN_SLOT_MODEn_mode_mask, 1), (2, CHN_SLOT_MODEn_sync_rssi_min, 0x80)]), 2, 0,
      1, _, _, _, ⟨(by decide +kernel), (by decide +kernel), (by decide +kernel), (Option.some_get (by decide +kernel)).symm,
      (by decide +kernel), (by decide +kernel), (by decide +kernel), (by decide +kernel), (by decide +kernel), (Option.some_get
      (by decide +kernel)).symm, (Option.some_get (by decide +kernel)).symm⟩⟩,
   ⟨(rdo { ctxs := [(0, ctx0)] }), 2, 0, 0, 1, true, [20, 0x44, 1, 2, 3, 4, 5, 6, 7, 8], [1, 2, 3, 4, 5, 6, 7, 8], ctx0,
       ⟨(by decide +kernel), (by decide +kernel), (by decide +kernel), (by decide +kernel), (by decide +kernel),
       (by decide +kernel), (by decide +kernel)⟩⟩,
   ⟨(rdo { ctxs := [(0, ctx0)] }), 2, 0, ctx0, ⟨(by decide +kernel), (by decide +kernel), (by decide +kernel),
       (by decide +kernel)⟩⟩,
   ⟨(rdo { ctxs := [(0, { ctx0 with addrDone := true, headerSent := true, owner := some 0 })] }), 2, 0, _,
       { ctx0 with addrDone := true, headerSent := true, owner := some 0 }, ⟨(by decide +kernel), (by decide +kernel),
       (by decide +kernel), (by decide +kernel), (by decide +kernel), (Option.some_get (by decide +kernel)).symm⟩⟩,
   ⟨(rdo { ctxs := [(0, { ctx0 with addrDone := true, owner := some 0 })] }), 2, 0, _, [1],
       { ctx0 with addrDone := true, owner := some 0 }, ⟨(by decide +kernel), (by decide +kernel), (by decide +kernel),
       (by decide +kernel), (by decide +kernel), (by decide +kernel), (by decide +kernel), (Option.some_get
       (by decide +kernel)).symm⟩⟩,
   ⟨(rdo { ctxs := [(0, { ctx0 with addrDone := true, owner := some 0 })] }), 2, 0,
       { ctx0 with addrDone := true, owner := some 0 }, ⟨(by decide +kernel), (by decide +kernel), (by decide +kernel),
       (by decide +kernel), (by decide +kernel), (by decide +kernel)⟩⟩,
   ⟨(rdo
       { ctxs := [(0, { ctx0 with withheldFrom := some 3, start := 10 ^ 12, overlaps := [⟨1, 10 ^ 12, some (10 ^ 12), some true⟩] })] }),
       2, 0, 1, 3,
       { ctx0 with withheldFrom := some 3, start := 10 ^ 12, overlaps := [⟨1, 10 ^ 12, some (10 ^ 12), some true⟩] },
       ⟨(by decide +kernel), (by decide +kernel), (by decide +kernel), (by decide +kernel), (by decide +kernel),
       (by decide +kernel), (by decide +kernel), (by decide +kernel)⟩⟩,
   ⟨(rdo
       { ctxs := [(0, { ctx0 with addrDone := true, owner := some 0, withheldFrom := some 3, overlapFrom := some 3 })], unpicks := [⟨1, 0, 0, 8⟩] }),
       2, 0, 3, _, _, { ctx0 with addrDone := true, owner := some 0, withheldFrom := some 3, overlapFrom := some 3 }, ⟨1, 0, 0,
       8⟩, ⟨(by decide +kernel), (by decide +kernel), (by decide +kernel), (by decide +kernel), (Option.some_get
       (by decide +kernel)).symm, (by decide +kernel), (Option.some_get (by decide +kernel)).symm, (by decide +kernel)⟩⟩⟩

/-- Values that meet the hypotheses of Obligations.ReceivePathCompletes, clause by clause. -/
theorem witness_ReceivePathCompletes_part1 :
    (∃ (s : State) (d n : Nat), s.isF d = true ∧ s.domOn d 3 = true ∧ n < 128 ∧ s.get d CHN_SLOT_STATn_state n = 0 ∧ s.slotOk d
        n = true)
    ∧ (∃ (s : State) (d n : Nat), s.isF d = true ∧ n < 128 ∧ ((s.get d CHN_SLOT_STATn_state n = 1 ∨ s.get d CHN_SLOT_STATn_state
        n = 2)))
    ∧ (∃ (s : State) (d : Nat) (pathB on : Bool), s.isF d = true ∧ s.domOn d (if pathB then 9 else 8) = true ∧ ((on = true ∨
        s.pathBusy d pathB = false)))
    ∧ (∃ (s t : State) (d power : Nat) (pathB : Bool), s.isF d = true ∧ -120 < toSigned 16 power ∧ t = s.put d (pathField pathB
        RFA_POWER_power) power ∧ t.get d (pathField pathB RFA_CTRL_lna) = 0 ∧ t.pathReceiving d pathB = false ∧ t.flag d
        (pathField pathB RFA_STAT_lna_bypassed) = false ∧ -60 < toSigned 16 power)
    ∧ (∃ (s t u : State) (d power : Nat) (pathB : Bool), s.isF d = true ∧ -120 < toSigned 16 power ∧ toSigned 16 power ≤ -60 ∧ t
        = s.put d (pathField pathB RFA_POWER_power) power ∧ t.get d (pathField pathB RFA_CTRL_lna) = 0 ∧ t.flag d (pathField
        pathB RFA_STAT_lna_bypassed) = false ∧ u = t.putB d (pathField pathB RFA_STAT_overload) false ∧ u.pathReceiving d pathB
        = false)
    ∧ (∃ (s t u : State) (d power : Nat) (pathB : Bool), s.isF d = true ∧ toSigned 16 power < -144 ∧ t = s.put d (pathField
        pathB RFA_POWER_power) power ∧ t.get d (pathField pathB RFA_CTRL_lna) = 0 ∧ t.flag d (pathField pathB
        RFA_STAT_lna_bypassed) = true ∧ u = t.putB d (pathField pathB RFA_STAT_overload) false ∧ u.pathReceiving d pathB =
        false) :=
  ⟨⟨(puts on [(2, RFA_CTRL_enable, 1), (2, RFA_STAT_cal_state, 2), (2, CHN_SLOT_MODEn_mode_mask, 1)]), 2, 0,
      ⟨(by decide +kernel), (by decide +kernel), (by decide +kernel), (by decide +kernel), (by decide +kernel)⟩⟩,
   ⟨(on.put 2 CHN_SLOT_STATn_state 1), 2, 0, ⟨(by decide +kernel), (by decide +kernel), (by decide +kernel)⟩⟩,
   ⟨on, 2, true, true, ⟨(by decide +kernel), (by decide +kernel), (by decide +kernel)⟩⟩,
   ⟨on, _, 2, 0, true, ⟨(by decide +kernel), (by decide +kernel), rfl, (by decide +kernel), (by decide +kernel),
       (by decide +kernel), (by decide +kernel)⟩⟩,
   ⟨on, _, _, 2, 65476, true, ⟨(by decide +kernel), (by decide +kernel), (by decide +kernel), rfl, (by decide +kernel),
       (by decide +kernel), rfl, (by decide +kernel)⟩⟩,
   ⟨(on.putB 2 (pathField true RFA_STAT_lna_bypassed) true), _, _, 2, 65391, true, ⟨(by decide +kernel), (by decide +kernel),
       rfl, (by decide +kernel), (by decide +kernel), rfl, (by decide +kernel)⟩⟩⟩

/-- Values that meet the hypotheses of Obligations.ReceivePathCompletes, clause by clause. -/
theorem witness_ReceivePathCompletes_part2 :
    (∃ (s t u : State) (d power : Nat) (pathB : Bool), s.isF d = true ∧ -60 < toSigned 16 power ∧ t = s.put d (pathField pathB
        RFA_POWER_power) power ∧ t.flag d (pathField pathB RFA_STAT_overload) = false ∧ u = t.putB d (pathField pathB
        RFA_STAT_overload) true ∧ u.get d (pathField pathB RFA_CTRL_lna) = 0)
    ∧ (∃ (s t : State) (d : Nat) (pathB : Bool), s.isF d = true ∧ s.pathBusy d pathB = false ∧ t = s.setCal d (b2n pathB)
        { s.cal d (b2n pathB) with fgSince := some s.now })
    ∧ (∃ (s t : State) (d t0 : Nat) (pathB : Bool), s.isF d = true ∧ (s.cal d (b2n pathB)).fgSince = some t0 ∧ s.due (t0 + 18 *
        Config.tMs) = true ∧ t = s.setCal d (b2n pathB) { s.cal d (b2n pathB) with fgSince := none })
    ∧ (∃ (s t : State) (d t0 : Nat), s.isF d = true ∧ (s.cal d 2).fgSince = some t0 ∧ s.due (t0 + 6 * Config.tMs) = true ∧ t =
        s.setCal d 2 { s.cal d 2 with fgSince := none })
    ∧ (∃ (s : State) (d : Nat) (pathB : Bool), s.isF d = true ∧ (s.cal d (b2n pathB)).gainSince = none ∧ s.toneFree d pathB =
        true)
    ∧ (∃ (s : State) (d : Nat) (pathB : Bool), s.isF d = true ∧ (s.cal d (b2n pathB)).gainSince = none ∧ s.toneFree d pathB =
        false) :=
  ⟨⟨on, _, _, 2, 65477, false, ⟨(by decide +kernel), (by decide +kernel), rfl, (by decide +kernel), rfl, (by decide +kernel)⟩⟩,
   ⟨on, _, 2, true, ⟨(by decide +kernel), (by decide +kernel), rfl⟩⟩,
   ⟨(rdo { calB := { fgSince := some 0 } }), _, 2, _, true, ⟨(by decide +kernel), (Option.some_get (by decide +kernel)).symm,
       (by decide +kernel), rfl⟩⟩,
   ⟨(rdo { calT := { fgSince := some 0 } }), _, 2, _, ⟨(by decide +kernel), (Option.some_get (by decide +kernel)).symm,
       (by decide +kernel), rfl⟩⟩,
   ⟨on, 2, true, ⟨(by decide +kernel), (by decide +kernel), (by decide +kernel)⟩⟩,
   ⟨((((((puts on [(2, CHN_SLOT_STATn_state, 1), (2, CHN_SLOT_MODEn_mode_mask, 1), (2, RFA_BW_bw, 0)]).putZ 2
       CHN_SLOT_CFGn_offset (-6500) 1).put 2 CHN_SLOT_STATn_state 1 1).putZ 2 CHN_SLOT_CFGn_offset 6500 2).put 2
       CHN_SLOT_STATn_state 1 2).put 2 CHN_SLOT_MODEn_mode_mask 1 1).put 2 CHN_SLOT_MODEn_mode_mask 1 2, 2, false,
       ⟨(by decide +kernel), (by decide +kernel), (by decide +kernel)⟩⟩⟩

/-- Values that meet the hypotheses of Obligations.ReceivePathCompletes, clause by clause. -/
theorem witness_ReceivePathCompletes_part3 :
    (∃ (s : State) (d cause : Nat) (pathB : Bool), s.isF d = true ∧ s.flag d (pathField pathB RFA_CTRL_enable) = true ∧ (s.cal d
        (b2n pathB)).gainSince = none ∧ s.toneFree d pathB = true ∧ (((cause = 0 ∧ (s.cal d (b2n pathB)).lastDone = none) ∨
        (cause = 0 ∧ ∃ x, (s.cal d (b2n pathB)).lastDone = some x ∧ s.due (x + 86400 * Config.tS) = true) ∨ (cause = 1 ∧ 10 ≤
        (s.getZ d PWR_TEMP_tj - s.getZ d (pathField pathB RFA_CAL_cal_temp)).natAbs) ∨ (cause = 2 ∧ ∃ x, (s.cal d (b2n
        pathB)).deferredAt = some x ∧ s.due (x + 60 * Config.tS) = true) ∨ (cause = 3 ∧ (s.cal d (b2n pathB)).deferredAt.isSome
        = true) ∨ cause = 4)))
    ∧ (∃ (s t : State) (d t0 : Nat) (pathB : Bool), s.isF d = true ∧ (s.cal d (b2n pathB)).gainSince = some t0 ∧ s.due (t0 + 2 *
        Config.tMs) = true ∧ t = (s.putB d (pathField pathB RFA_CTRL_gain_cal_start) false).setCal d (b2n pathB)
        { (s.putB d (pathField pathB RFA_CTRL_gain_cal_start) false).cal d (b2n pathB) with gainSince := none, lastDone := some s.now })
    ∧ (∃ (s t : State) (d t0 : Nat) (pathB : Bool), s.isF d = true ∧ (s.cal d (b2n pathB)).gainSince = some t0 ∧ s.due (t0 + 2 *
        Config.tMs) = true ∧ t = (s.putB d (pathField pathB RFA_CTRL_gain_cal_start) false).setCal d (b2n pathB)
        { (s.putB d (pathField pathB RFA_CTRL_gain_cal_start) false).cal d (b2n pathB) with gainSince := none })
    ∧ (∃ (s : State) (d p : Nat), s.isF d = true ∧ p < 2)
    ∧ (∃ (s : State) (d : Nat), s.isF d = true) :=
  ⟨⟨(puts on [(2, RFA_CTRL_enable, 1), (2, PWR_TEMP_tj, 20)]), 2, 0, false, ⟨(by decide +kernel), (by decide +kernel),
      (by decide +kernel), (by decide +kernel), (by decide +kernel)⟩⟩,
   ⟨(rdo { calB := { gainSince := some 0 } }), _, 2, _, true, ⟨(by decide +kernel), (Option.some_get (by decide +kernel)).symm,
       (by decide +kernel), rfl⟩⟩,
   ⟨(rdo { calB := { gainSince := some 0 } }), _, 2, _, true, ⟨(by decide +kernel), (Option.some_get (by decide +kernel)).symm,
       (by decide +kernel), rfl⟩⟩,
   ⟨on, 2, 0, ⟨(by decide +kernel), (by decide +kernel)⟩⟩,
   ⟨on, 2, (by decide +kernel)⟩⟩

/-- Values that meet the hypotheses of Obligations.TransmitCompletes, clause by clause. -/
theorem witness_TransmitCompletes_part1 :
    (∃ (s t u : State) (d n : Nat) (f : TxFrame), s.isF d = true ∧ s.stopped d = false ∧ (s.rad d).txq = [f] ∧ nextQueued [f] =
        some f ∧ f.asap = false ∧ t = s.setTxq d [f] ∧ t.keyGone d f = false ∧ t.devTime d + 100 * Config.tUs ≤ f.start ∧
        t.dcCheck d f = .inr n ∧ u = t.setTxq d (replaceTx f (some { f with stage := .handed, handedAt := t.devTime d }) (t.rad
        d).txq))
    ∧ (∃ (s t : State) (d : Nat) (f : TxFrame), s.isF d = true ∧ s.stopped d = false ∧ (s.rad d).txq.find? (fun f => f.stage ==
        .handed && decide (f.start ≤ s.devTime d + 60 * Config.tUs)) = some f ∧ t = s.putB d RFT_STAT_pll_lock true ∧ t.keyGone
        d f = false)
    ∧ (∃ (s t : State) (d : Nat) (f : TxFrame), s.isF d = true ∧ s.stopped d = false ∧ (s.rad d).txq.find? (fun f => f.stage ==
        .handed && decide (f.start ≤ s.devTime d + 60 * Config.tUs)) = some f ∧ t = s.putB d RFT_STAT_pll_lock false ∧ t.keyGone
        d f = false)
    ∧ (∃ (s : State) (d : Nat) (f : TxFrame), s.isF d = true ∧ s.stopped d = false ∧ (s.rad d).txq.find? (fun f => f.stage ==
        .settling && decide (f.start ≤ s.devTime d)) = some f)
    ∧ (∃ (s t : State) (d measured : Nat) (f : TxFrame), s.isF d = true ∧ (s.rad d).txq.find? (fun f => f.stage == .onAir) =
        some f ∧ f.start + s.ramp d + 20 * Config.tUs ≤ s.devTime d ∧ t = s.put d RFT_STAT_measured measured ∧ (toSigned 8
        measured - t.txTarget d).natAbs ≤ 4)
    ∧ (∃ (s t u : State) (d measured : Nat) (f : TxFrame), s.isF d = true ∧ (s.rad d).txq.find? (fun f => f.stage == .onAir) =
        some f ∧ f.start + s.ramp d + 20 * Config.tUs ≤ s.devTime d ∧ t = s.put d RFT_STAT_measured measured ∧ 4 < (toSigned 8
        measured - t.txTarget d).natAbs ∧ u = (t.putB d RFT_STAT_power_fault true).raise d 43 (arg 0 measured)) :=
  ⟨⟨(puts (rdo { txq := [frame0 .downlink .queued (10 ^ 12 + 10000)] }) [(2, RFT_DC_LOn_lo, 8680000), (2, RFT_DC_HIn_hi,
      8681000), (2, RFT_DC_LIMn_lim, 100)]), _, _, 2, _, (frame0 .downlink .queued (10 ^ 12 + 10000)), ⟨(by decide +kernel),
      (by decide +kernel), (by decide +kernel), (by decide +kernel), (by decide +kernel), rfl, (by decide +kernel),
      (by decide +kernel), inrOf (by decide +kernel), rfl⟩⟩,
   ⟨(rdo { txq := [frame0 .downlink .handed 0] }), _, 2, (frame0 .downlink .handed 0), ⟨(by decide +kernel),
       (by decide +kernel), (by decide +kernel), rfl, (by decide +kernel)⟩⟩,
   ⟨(rdo { txq := [frame0 .downlink .handed 0] }), _, 2, (frame0 .downlink .handed 0), ⟨(by decide +kernel),
       (by decide +kernel), (by decide +kernel), rfl, (by decide +kernel)⟩⟩,
   ⟨(rdo { txq := [frame0 .bell .settling 0] }), 2, (frame0 .bell .settling 0), ⟨(by decide +kernel), (by decide +kernel),
       (by decide +kernel)⟩⟩,
   ⟨(rdo { txq := [frame0 .bell .onAir 0] }), _, 2, 212, (frame0 .bell .onAir 0), ⟨(by decide +kernel), (by decide +kernel),
       (by decide +kernel), rfl, (by decide +kernel)⟩⟩,
   ⟨(rdo { txq := [frame0 .bell .onAir 0] }), _, _, 2, 100, (frame0 .bell .onAir 0), ⟨(by decide +kernel), (by decide +kernel),
       (by decide +kernel), rfl, (by decide +kernel), rfl⟩⟩⟩

/-- Values that meet the hypotheses of Obligations.TransmitCompletes, clause by clause. -/
theorem witness_TransmitCompletes_part2 :
    (∃ (s t : State) (d : Nat) (f : TxFrame), s.isF d = true ∧ (s.rad d).txq.find? (fun f => f.stage == .onAir) = some f ∧
        f.start + f.dur + 2 * s.ramp d ≤ s.devTime d ∧ f.kind = .bell ∧ t = (s.txOver d f).inc d RFT_TX_CNT)
    ∧ (∃ (s t : State) (d : Nat) (f : TxFrame) (dl : Dl), s.isF d = true ∧ (s.rad d).txq.find? (fun f => f.stage == .onAir) =
        some f ∧ f.start + f.dur + 2 * s.ramp d ≤ s.devTime d ∧ f.kind = .ack ∧ f.follow = some dl ∧ t = ((s.txOver d f).inc d
        RFT_TX_CNT).inc d TT_ACK_CNT)
    ∧ (∃ (s t : State) (d : Nat) (f : TxFrame), s.isF d = true ∧ (s.rad d).txq.find? (fun f => f.stage == .onAir) = some f ∧
        f.start + f.dur + 2 * s.ramp d ≤ s.devTime d ∧ f.kind = .wmbResp ∧ t = (s.txOver d f).inc d RFT_TX_CNT)
    ∧ (∃ (s t : State) (d : Nat) (f : TxFrame), s.isF d = true ∧ (s.rad d).txq.find? (fun f => f.stage == .onAir) = some f ∧
        f.start + f.dur + 2 * s.ramp d ≤ s.devTime d ∧ f.kind = .downlink ∧ t = (s.txOver d f).inc d RFT_TX_CNT)
    ∧ (∃ (s t : State) (d : Nat), s.isF d = true ∧ t = s.putB d RFT_CTRL_enable false)
    ∧ (∃ (s : State) (d : Nat), s.isF d = true ∧ s.due ((s.rad d).dcRolled + 60 * Config.tS) = true) :=
  ⟨⟨(rdo { txq := [frame0 .bell .onAir 0] }), _, 2, (frame0 .bell .onAir 0), ⟨(by decide +kernel), (by decide +kernel),
      (by decide +kernel), (by decide +kernel), rfl⟩⟩,
   ⟨(rdo { txq := [{ frame0 .ack .onAir 0 with follow := some { bytes := [] } }] }), _, 2,
       { frame0 .ack .onAir 0 with follow := some { bytes := [] } }, { bytes := [] }, ⟨(by decide +kernel), (by decide +kernel),
       (by decide +kernel), (by decide +kernel), (by decide +kernel), rfl⟩⟩,
   ⟨(rdo { txq := [frame0 .wmbResp .onAir 0] }), _, 2, (frame0 .wmbResp .onAir 0), ⟨(by decide +kernel), (by decide +kernel),
       (by decide +kernel), (by decide +kernel), rfl⟩⟩,
   ⟨(rdo { txq := [frame0 .downlink .onAir 0] }), _, 2, (frame0 .downlink .onAir 0), ⟨(by decide +kernel), (by decide +kernel),
       (by decide +kernel), (by decide +kernel), rfl⟩⟩,
   ⟨on, _, 2, ⟨(by decide +kernel), rfl⟩⟩,
   ⟨on, 2, ⟨(by decide +kernel), (by decide +kernel)⟩⟩⟩

/-- Values that meet the hypotheses of Obligations.TransmitCompletes, clause by clause. -/
theorem witness_TransmitCompletes_part3 : ∃ (s : State) (d : Nat), s.isF d = true :=
  ⟨on, 2, (by decide +kernel)⟩

/-- Values that meet the hypotheses of Obligations.HoldAndAcksComplete, clause by clause. -/
theorem witness_HoldAndAcksComplete :
    (∃ (s t : State) (d : Nat) (m : BackMsg) (rest : List BackMsg) (e : Hold), s.isF d = true ∧ takeFirst (fun m : BackMsg =>
        m.dst == d && m.body == .release) s.back = some (m, rest) ∧ s.holdAt d m.hold = some e ∧ e.verdict.isSome = true ∧ t =
        ({ s with back := rest } : State).freeHold d m.hold ∧ takeFirst (fun a : AckWait => a.hold == m.hold &&
        a.released.isNone) (t.rad d).acks = none)
    ∧ (∃ (s t u : State) (d : Nat) (m : BackMsg) (rest : List BackMsg) (e : Hold) (a : AckWait) (as : List AckWait), s.isF d =
        true ∧ takeFirst (fun m : BackMsg => m.dst == d && m.body == .release) s.back = some (m, rest) ∧ s.holdAt d m.hold =
        some e ∧ e.verdict.isSome = true ∧ t = ({ s with back := rest } : State).freeHold d m.hold ∧ takeFirst (fun a : AckWait
        => a.hold == m.hold && a.released.isNone) (t.rad d).acks = some (a, as) ∧ a.wmb = false ∧ u = t.setRad d
        { t.rad d with acks := as } ∧ u.devTime d + 100 * Config.tUs ≤ a.due ∧ u.ackTwin d a = false ∧ u.flag d RFT_CTRL_enable
        = true)
    ∧ (∃ (s : State) (d : Nat) (a : AckWait) (rest : List AckWait), s.isF d = true ∧ takeFirst (fun a : AckWait => !a.wmb &&
        decide (a.due ≤ s.devTime d)) (s.rad d).acks = some (a, rest))
    ∧ (∃ (s : State) (d : Nat) (a : AckWait) (rest : List AckWait), s.isF d = true ∧ takeFirst (fun a : AckWait => a.wmb &&
        decide (a.due ≤ s.devTime d)) (s.rad d).acks = some (a, rest))
    ∧ (∃ (s t : State) (d : Nat) (p : FollowPend) (rest : List FollowPend), s.isF d = true ∧ (s.rad d).follows = p :: rest ∧ t =
        s.setRad d { s.rad d with follows := rest } ∧ t.flag d RFT_CTRL_enable = true)
    ∧ (∃ (s : State) (d h t : Nat) (e : Hold), s.isF d = true ∧ s.holdAt d h = some e ∧ e.lastBit = some t ∧ e.verdict = none ∧
        e.noOwnerSince = none ∧ t + 1010 * Config.tMs ≤ s.devTime d)
    ∧ (∃ (s : State) (d t h : Nat) (e : Hold), s.isF d = true ∧ (s.rad d).hold = [(h, e)] ∧ e.noOwnerSince = some t ∧ s.due (t +
        Config.tS) = true)
    ∧ (∃ (s : State) (d : Nat) (m : Nat × List (Nat × Nat)) (rest : List (Nat × List (Nat × Nat))), s.isF d = true ∧ takeFirst
        (fun m : Nat × List (Nat × Nat) => m.1 == d) s.partPub = some (m, rest)) :=
  ⟨⟨(inBack (rdo { hold := [(0, hold0)] }) [rel0]), _, 2, rel0, [], hold0, ⟨(by decide +kernel), (by decide +kernel),
      (by decide +kernel), (by decide +kernel), rfl, (by decide +kernel)⟩⟩,
   ⟨(inBack ((rdo { hold := [(0, hold0)], acks := [{ ackw false with due := 10 ^ 13 }] }).putB 2 RFT_CTRL_enable true) [rel0]),
       _, _, 2, rel0, [], hold0, { ackw false with due := 10 ^ 13 }, [], ⟨(by decide +kernel), (by decide +kernel),
       (by decide +kernel), (by decide +kernel), rfl, (by decide +kernel), (by decide +kernel), rfl, (by decide +kernel),
       (by decide +kernel), (by decide +kernel)⟩⟩,
   ⟨(rdo { acks := [ackw false] }), 2, (ackw false), [], ⟨(by decide +kernel), (by decide +kernel)⟩⟩,
   ⟨(rdo { acks := [ackw true] }), 2, (ackw true), [], ⟨(by decide +kernel), (by decide +kernel)⟩⟩,
   ⟨(rdo { follows := [⟨{ bytes := [] }, 0, 1, 8680000, false⟩] }).putB 2 RFT_CTRL_enable true, _, 2, ⟨{ bytes := [] }, 0, 1,
       8680000, false⟩, [], ⟨(by decide +kernel), (by decide +kernel), rfl, (by decide +kernel)⟩⟩,
   ⟨(rdo { hold := [(0, { ctx := 0, lastBit := some 0 })] }), 2, 0, _, { ctx := 0, lastBit := some 0 }, ⟨(by decide +kernel),
       (by decide +kernel), (Option.some_get (by decide +kernel)).symm, (by decide +kernel), (by decide +kernel),
       (by decide +kernel)⟩⟩,
   ⟨(rdo { hold := [(0, { ctx := 0, noOwnerSince := some 0 })] }), 2, _, 0, { ctx := 0, noOwnerSince := some 0 },
       ⟨(by decide +kernel), (by decide +kernel), (Option.some_get (by decide +kernel)).symm, (by decide +kernel)⟩⟩,
   ⟨{ on with partPub := [(2, [(0, 0)])] }, 2, (2, [(0, 0)]), [], ⟨(by decide +kernel), (by decide +kernel)⟩⟩⟩

/-- Values that meet the hypotheses of Obligations.TimetablesComplete, clause by clause. -/
theorem witness_TimetablesComplete :
    (∃ (s t : State) (d n : Nat) (follow : Bool), s.isF d = true ∧ s.domOn d 6 = true ∧ n < 8 ∧ s.flag d TT_n_STAT_running n =
        false ∧ (s.putB d TT_n_CTRL_follow follow n).ttOk d n = true ∧ t = ((s.putB d TT_n_CTRL_follow follow n).putB d
        TT_n_CTRL_enable true n).putB d TT_n_STAT_running true n)
    ∧ (∃ (s : State) (d n : Nat), s.isF d = true ∧ n < 8 ∧ s.flag d TT_n_STAT_running n = true)
    ∧ (∃ (s t u v : State) (d n k m c : Nat) (x : Slot) (p : TtParams), s.isF d = true ∧ n < 8 ∧ s.flag d TT_n_STAT_running n =
        true ∧ s.ttParams d n true = p ∧ p.sf (s.devTime d + s.bellAhead d) = some k ∧ smGet (s.rad d).sfSeen n ≠ some k ∧
        p.follow = false ∧ t = s.setRad d { s.rad d with sfSeen := smPut (s.rad d).sfSeen n k } ∧ u = (t.put d
        TT_n_SF_superframe k n).putB d TT_n_STAT_no_key (t.ttNoKey d n) n ∧ smGetD (u.rad d).bellFrom 0 n ≤ p.sfStart k ∧
        u.sealCheck d (16 + n) = .inr x ∧ u.slotSun d p.chan = some m ∧ v = u.keyUsed d (16 + n) x ∧ (v.slotCentre d
        p.chan).toNat = c)
    ∧ (∃ (s : State) (d : Nat), s.isF d = true ∧ s.flag d TT_CAMP_PROG_running = false ∧ s.flag d TT_n_STAT_running (s.get d
        TT_CAMP_CFG_tt) = true ∧ s.flag d TT_n_CTRL_follow (s.get d TT_CAMP_CFG_tt) = false ∧ (s.lockKey d (24 + s.get d
        TT_CAMP_CFG_tt)).isNone = false)
    ∧ (∃ (s : State) (d : Nat), s.isF d = true ∧ s.flag d TT_CAMP_PROG_running = true ∧ (s.rad d).txq.any (fun f => f.kind ==
        .broadcast) = false)
    ∧ (∃ (s : State) (d : Nat), s.isF d = true ∧ s.flag d TT_CAMP_PROG_running = true ∧ (s.rad d).txq.any (fun f => f.kind ==
        .broadcast) = true)
    ∧ (∃ (s t : State) (d n k m c slot first dur start : Nat) (b : Bytes) (x : Slot) (p : TtParams), s.isF d = true ∧ s.flag d
        TT_CAMP_PROG_running = true ∧ s.get d TT_CAMP_CFG_tt = n ∧ s.ttParams d n true = p ∧ p.bcCount ≠ 0 ∧ s.get d
        TT_CAMP_BLOCKS_blocks ≠ 0 ∧ (s.rad d).campaign.abort = false ∧ (s.rad d).txq.any (fun f => f.kind == .broadcast) = false
        ∧ p.sf (s.devTime d) = some k ∧ s.sealCheck d (24 + n) = .inr x ∧ s.slotSun d p.chan = some m ∧ slot = p.slotLen * 100 *
        Config.tUs ∧ first = p.sfStart k + p.bcFirst * slot ∧ b = s.blockFrame d n (smGetD (s.rad d).campaign.counters 0 n)
        x.key (s.campImage d) ∧ dur = sunTicks m (s.flag d TT_n_CHAN_bell_fec n) b.length ∧ start = max (max first ((s.rad
        d).campaign.lastEnd + 1000 * Config.tUs)) (s.devTime d + 100 * Config.tUs) ∧ c = (s.slotCentre d p.chan).toNat ∧ start +
        dur + 2 * s.ramp d ≤ first + p.bcCount * slot ∧ first ≤ s.devTime d + slot ∧ t = s.keyUsed d (24 + n) x) :=
  ⟨⟨(puts (lockOf 2 [(16, slot0 0 5)]) [(2, CHN_SLOT_MODEn_mode_mask, 1), (2, CHN_SLOT_CTRLn_enable, 1), (2,
      CHN_SLOT_MODEn_scheduled, 1)]), _, 2, 0, false, ⟨(by decide +kernel), (by decide +kernel), (by decide +kernel),
      (by decide +kernel), (by decide +kernel), rfl⟩⟩,
   ⟨(on.put 2 TT_n_STAT_running 1), 2, 0, ⟨(by decide +kernel), (by decide +kernel), (by decide +kernel)⟩⟩,
   ⟨(puts (lockOf 2 [(16, slot0 0 5), (24, slot0 0 5)]) [(2, TT_n_STAT_running, 1), (2, CHN_SLOT_MODEn_mode_mask, 1)]), _, _, _,
       2, 0, _, _, _, _, _, ⟨(by decide +kernel), (by decide +kernel), (by decide +kernel), rfl, (Option.some_get
       (by decide +kernel)).symm, (by decide +kernel), (by decide +kernel), rfl, rfl, (by decide +kernel), inrOf
       (by decide +kernel), (Option.some_get (by decide +kernel)).symm, rfl, rfl⟩⟩,
   ⟨(puts (lockOf 2 [(16, slot0 0 5), (24, slot0 0 5)]) [(2, TT_n_STAT_running, 1), (2, CHN_SLOT_MODEn_mode_mask, 1)]), 2,
       ⟨(by decide +kernel), (by decide +kernel), (by decide +kernel), (by decide +kernel), (by decide +kernel)⟩⟩,
   ⟨(on.put 2 TT_CAMP_PROG_running 1), 2, ⟨(by decide +kernel), (by decide +kernel), (by decide +kernel)⟩⟩,
   ⟨(rdo { txq := [frame0 .broadcast .onAir 0] }).putB 2 TT_CAMP_PROG_running true, 2, ⟨(by decide +kernel),
       (by decide +kernel), (by decide +kernel)⟩⟩,
   ⟨(puts (puts (lockOf 2 [(16, slot0 0 5), (24, slot0 0 5)]) [(2, TT_n_STAT_running, 1), (2, CHN_SLOT_MODEn_mode_mask, 1)])
       [(2, TT_CAMP_PROG_running, 1), (2, TT_CAMP_BLOCKS_blocks, 1), (2, TT_CAMP_BLOCKS_block_len, 16), (2, TT_n_BC_bc_count,
       1000), (2, TT_n_START_LO_start_lo, 10 ^ 12 % 2 ^ 32), (2, TT_n_START_HI_start_hi, 10 ^ 12 / 2 ^ 32)]), _, 2, _, _, _, _,
       _, _, _, _, _, _, _, ⟨(by decide +kernel), (by decide +kernel), rfl, rfl, (by decide +kernel), (by decide +kernel),
       (by decide +kernel), (by decide +kernel), (Option.some_get (by decide +kernel)).symm, inrOf (by decide +kernel),
       (Option.some_get (by decide +kernel)).symm, rfl, rfl, rfl, rfl, rfl, rfl, (by decide +kernel), (by decide +kernel),
       rfl⟩⟩⟩

/-- Values that meet the hypotheses of Obligations.PlcTransmitCompletes, clause by clause. -/
theorem witness_PlcTransmitCompletes_part1 :
    (∃ (s : State) (d : Nat), s.isF d = true ∧ s.domOn d 12 = true ∧ s.domOn d 13 = true ∧ s.get d PLC_STAT_state = 0 ∧
        ((List.range s.nDies).any (fun o => s.isF o && o != d && s.flag o PLC_CTRL_enable && s.get o PLC_ADDR_pan == s.get d
        PLC_ADDR_pan && s.get o PLC_ADDR_short == s.get d PLC_ADDR_short)) = false)
    ∧ (∃ (s t : State) (d : Nat), s.isF d = true ∧ (s.putB d PLC_CTRL_enable false).get d PLC_STAT_state = 1 ∧ t = (s.putB d
        PLC_CTRL_enable false).put d PLC_STAT_state 2 ∧ (t.plc d).cur = none)
    ∧ (∃ (s : State) (d : Nat) (a : PlcAck) (r : List PlcAck), s.isF d = true ∧ s.stopped d = false ∧ (s.plc d).ackOn = false ∧
        (s.plc d).cur = none ∧ (s.plc d).rx = [] ∧ (s.plc d).acks = a :: r ∧ a.due ≤ s.devTime d)
    ∧ (∃ (s : State) (d : Nat) (t : PlcTx), s.isF d = true ∧ s.stopped d = false ∧ (s.plc d).cur = some t ∧ t.stage =
        .contending ∧ t.readyAt ≤ s.devTime d ∧ (s.plc d).rx = [] ∧ (s.plc d).acks = [] ∧ (s.plc d).ackOn = false ∧ t.gmk =
        none)
    ∧ (∃ (s u : State) (d k : Nat) (t : PlcTx) (b : Bytes), s.isF d = true ∧ s.stopped d = false ∧ (s.plc d).cur = some t ∧
        t.stage = .contending ∧ t.readyAt ≤ s.devTime d ∧ (s.plc d).rx = [] ∧ (s.plc d).acks = [] ∧ (s.plc d).ackOn = false ∧
        t.gmk = some k ∧ s.plcSecure d k t.bytes = (.inr b, u))
    ∧ (∃ (s u : State) (d k st : Nat) (t : PlcTx), s.isF d = true ∧ s.stopped d = false ∧ (s.plc d).cur = some t ∧ t.stage =
        .contending ∧ t.readyAt ≤ s.devTime d ∧ (s.plc d).rx = [] ∧ (s.plc d).acks = [] ∧ (s.plc d).ackOn = false ∧ t.gmk = some
        k ∧ s.plcSecure d k t.bytes = (.inl st, u)) :=
  ⟨⟨on, 2, ⟨(by decide +kernel), (by decide +kernel), (by decide +kernel), (by decide +kernel), (by decide +kernel)⟩⟩,
   ⟨(on.put 2 PLC_STAT_state 1), _, 2, ⟨(by decide +kernel), (by decide +kernel), rfl, (by decide +kernel)⟩⟩,
   ⟨(plco { acks := [⟨0, 0⟩] }), 2, ⟨0, 0⟩, [], ⟨(by decide +kernel), (by decide +kernel), (by decide +kernel),
       (by decide +kernel), (by decide +kernel), (by decide +kernel), (by decide +kernel)⟩⟩,
   ⟨(plcTx tx0), 2, tx0, ⟨(by decide +kernel), (by decide +kernel), (by decide +kernel), (by decide +kernel),
       (by decide +kernel), (by decide +kernel), (by decide +kernel), (by decide +kernel), (by decide +kernel)⟩⟩,
   ⟨(plcTx { tx0 with gmk := some 0 }), _, 2, 0, { tx0 with gmk := some 0 }, _, ⟨(by decide +kernel), (by decide +kernel),
       (by decide +kernel), (by decide +kernel), (by decide +kernel), (by decide +kernel), (by decide +kernel),
       (by decide +kernel), (by decide +kernel), pairInr (by decide +kernel)⟩⟩,
   ⟨(plcTx { tx0 with gmk := some 1 }), _, 2, 1, _, { tx0 with gmk := some 1 }, ⟨(by decide +kernel), (by decide +kernel),
       (by decide +kernel), (by decide +kernel), (by decide +kernel), (by decide +kernel), (by decide +kernel),
       (by decide +kernel), (by decide +kernel), pairInl (by decide +kernel)⟩⟩⟩

/-- Values that meet the hypotheses of Obligations.PlcTransmitCompletes, clause by clause. -/
theorem witness_PlcTransmitCompletes_part2 :
    (∃ (s : State) (d : Nat) (t : PlcTx) (idle reserved : Bool), s.isF d = true ∧ s.stopped d = false ∧ (s.plc d).cur = some t ∧
        t.stage = .contending ∧ t.readyAt ≤ s.devTime d ∧ ((idle = false ∨ reserved = true ∨ (s.plc d).rx ≠ [] ∨ (s.plc d).acks
        ≠ [] ∨ (s.plc d).ackOn = true)) ∧ t.nb < s.get d PLC_CSMA_max_backoffs)
    ∧ (∃ (s : State) (d : Nat) (t : PlcTx) (idle reserved : Bool), s.isF d = true ∧ s.stopped d = false ∧ (s.plc d).cur = some t
        ∧ t.stage = .contending ∧ t.readyAt ≤ s.devTime d ∧ ((idle = false ∨ reserved = true ∨ (s.plc d).rx ≠ [] ∨ (s.plc
        d).acks ≠ [] ∨ (s.plc d).ackOn = true)) ∧ s.get d PLC_CSMA_max_backoffs ≤ t.nb)
    ∧ (∃ (s t u : State) (d : Nat) (n : Option Nat) (x : PlcTx), s.isF d = true ∧ t = s.setPlc d
        { s.plc d with driveTill := s.devTime d + 20 * Config.tUs } ∧ (t.plc d).ackOn = false ∧ (t.plc d).cur = some x ∧ x.stage
        = .onLine ∧ plcUnicast x.bytes = some (n, true) ∧ u = t.inc d PLC_TX_CNT)
    ∧ (∃ (s t : State) (d : Nat), s.isF d = true ∧ t = s.setPlc d { s.plc d with driveTill := s.devTime d + 20 * Config.tUs } ∧
        (t.plc d).ackOn = true)
    ∧ (∃ (s : State) (d : Nat) (x : PlcTx), s.isF d = true ∧ (s.plc d).cur = some x ∧ x.stage = .ackWait ∧ x.stop + s.get d
        PLC_TIMING_ack_wait * Config.tUs ≤ s.devTime d ∧ x.retries < min 10 (s.get d PLC_CSMA_max_retries))
    ∧ (∃ (s : State) (d : Nat) (x : PlcTx), s.isF d = true ∧ (s.plc d).cur = some x ∧ x.stage = .ackWait ∧ x.stop + s.get d
        PLC_TIMING_ack_wait * Config.tUs ≤ s.devTime d ∧ min 10 (s.get d PLC_CSMA_max_retries) ≤ x.retries) :=
  ⟨⟨(plcTx tx0), 2, tx0, false, true, ⟨(by decide +kernel), (by decide +kernel), (by decide +kernel), (by decide +kernel),
      (by decide +kernel), (by decide +kernel), (by decide +kernel)⟩⟩,
   ⟨(plcTx { tx0 with nb := 255 }), 2, { tx0 with nb := 255 }, false, true, ⟨(by decide +kernel), (by decide +kernel),
       (by decide +kernel), (by decide +kernel), (by decide +kernel), (by decide +kernel), (by decide +kernel)⟩⟩,
   ⟨(plcTx { tx0 with stage := .onLine }), _, _, 2, (some 5), { tx0 with stage := .onLine }, ⟨(by decide +kernel), rfl,
       (by decide +kernel), (by decide +kernel), (by decide +kernel), (by decide +kernel), rfl⟩⟩,
   ⟨(plco { ackOn := true }), _, 2, ⟨(by decide +kernel), rfl, (by decide +kernel)⟩⟩,
   ⟨(plcTx { tx0 with stage := .ackWait }), 2, { tx0 with stage := .ackWait }, ⟨(by decide +kernel), (by decide +kernel),
       (by decide +kernel), (by decide +kernel), (by decide +kernel)⟩⟩,
   ⟨(plcTx { tx0 with stage := .ackWait, retries := 10 }), 2, { tx0 with stage := .ackWait, retries := 10 },
       ⟨(by decide +kernel), (by decide +kernel), (by decide +kernel), (by decide +kernel), (by decide +kernel)⟩⟩⟩

/-- Values that meet the hypotheses of Obligations.PlcReceptionCompletes, clause by clause. -/
theorem witness_PlcReceptionCompletes_part1 :
    (∃ (s t : State) (d rssi n h : Nat) (r : PlcRx), s.isF d = true ∧ s.get d PLC_STAT_state = 1 ∧ firstFree (s.plc d).rx 4 0 =
        some n ∧ firstFree (s.rad d).hold holdEntries 0 = some h ∧ r =
        { hold := h, pre := s.devTime d, rssi := rssi, zc := (s.plc d).edges.find? (fun e => decide (e + s.plcPreamble d ≤ s.devTime d)), period := zcPeriod (s.plc d).edges }
        ∧ t = s.setPlc d { s.plc d with rx := smPut (s.plc d).rx n r })
    ∧ (∃ (s t : State) (d n dt : Nat) (b id pl src : Bytes) (meshed : Bool) (m : PlcMeas) (r : PlcRx) (h : Mhr), s.isF d = true
        ∧ smGet (s.plc d).rx n = some r ∧ dt < 2 ∧ s.erased d m = 0 ∧ 5 ≤ b.length ∧ fcs16 (b.take (b.length - 2)) = leNat
        (b.drop (b.length - 2)) ∧ parseMhr ((b.take (b.length - 2)).drop 3) = some h ∧ h.ackRequest = false ∧ h.srcMode = 3 ∧ t
        = ((s.inc d PLC_RX_CNT).plcPayload d ((b.take (b.length - 2)).drop 3) h).2 ∧ t.plcClassify d (b.take (b.length - 2))
        ((b.take (b.length - 2)).drop 3) h ((s.inc d PLC_RX_CNT).plcPayload d ((b.take (b.length - 2)).drop 3) h).1 = .metering
        id pl src meshed)
    ∧ (∃ (s t : State) (d n : Nat) (b : Bytes) (r : PlcRx) (x : PlcTx), s.isF d = true ∧ smGet (s.plc d).rx n = some r ∧ t =
        s.plcDiscard d n r.hold ∧ (t.plc d).cur = some x ∧ x.stage = .ackWait ∧ leField b 0 2 = fcs16 x.bytes)
    ∧ (∃ (s t : State) (d : Nat) (ack : Bytes) (v : Verdict) (co unprot : Bool) (e : Bool) (follow : Option Dl) (m : BackMsg)
        (rest : List BackMsg), s.isF d = true ∧ takeFirst (isVerdictTo d) s.back = some (m, rest) ∧ m.body = .verdict v co
        unprot e ack follow ∧ m.ctx < 128 ∧ t = { s with back := rest })
    ∧ (∃ (s t : State) (d : Nat) (ack : Bytes) (v : Verdict) (co unprot : Bool) (e : Bool) (m : BackMsg) (rest : List BackMsg),
        s.isF d = true ∧ takeFirst (isVerdictTo d) s.back = some (m, rest) ∧ m.body = .verdict v co unprot e ack none ∧ 128 ≤
        m.ctx ∧ t = { s with back := rest })
    ∧ (∃ (s : State) (d : Nat), s.isF d = true) :=
  ⟨⟨(on.put 2 PLC_STAT_state 1), _, 2, 0, _, _, _, ⟨(by decide +kernel), (by decide +kernel), (Option.some_get
      (by decide +kernel)).symm, (Option.some_get (by decide +kernel)).symm, rfl, rfl⟩⟩,
   ⟨(plco { rx := [(0, rx0)] }), _, 2, 0, 0, plcB, [1, 2, 3, 4, 5, 6, 7, 8], plcPay, [1, 2, 3, 4, 5, 6, 7, 8], false, meas0,
       rx0, _, ⟨(by decide +kernel), (by decide +kernel), (by decide +kernel), (by decide +kernel), (by decide +kernel),
       (by decide +kernel), (Option.some_get (by decide +kernel)).symm, (by decide +kernel), (by decide +kernel), rfl,
       (by decide +kernel)⟩⟩,
   ⟨(plco { rx := [(0, rx0)], cur := some { tx0 with stage := .ackWait } }), _, 2, 0, (leBytes 2 (fcs16 tx0.bytes)), rx0,
       { tx0 with stage := .ackWait }, ⟨(by decide +kernel), (by decide +kernel), rfl, (by decide +kernel), (by decide +kernel),
       (by decide +kernel)⟩⟩,
   ⟨{ on with back := [⟨0, 2, 0, 0, .verdict .accept false false false [] none⟩] }, _, 2, [], .accept, false, false, false,
       none, ⟨0, 2, 0, 0, .verdict .accept false false false [] none⟩, [], ⟨(by decide +kernel), (by decide +kernel),
       (by decide +kernel), (by decide +kernel), rfl⟩⟩,
   ⟨(inBack on [⟨0, 2, 128, 0, .verdict .accept false false false [] none⟩]), _, 2, [], .accept, false, false, false, ⟨0, 2,
       128, 0, .verdict .accept false false false [] none⟩, [], ⟨(by decide +kernel), (by decide +kernel), (by decide +kernel),
       (by decide +kernel), rfl⟩⟩,
   ⟨on, 2, (by decide +kernel)⟩⟩

/-- Values that meet the hypotheses of Obligations.PlcReceptionCompletes, clause by clause. -/
theorem witness_PlcReceptionCompletes_part2 :
    (∃ (s : State) (d a : Nat), s.isF d = true ∧ a < 8192)
    ∧ (∃ (s t u : State) (d : Nat), s.isF d = true ∧ (s.plc d).edges = [] ∧ t = s.setPlc d
        { s.plc d with edges := [s.devTime d], zcRun := 0, zcOkAt := if s.flag d PLC_STAT_zc_ok then (s.plc d).zcOkAt else s.now }
        ∧ u = (t.put2 d PLC_ZC_TIME_LO_zc_lo PLC_ZC_TIME_HI_zc_hi (s.devTime d)).put d PLC_ZC_PERIOD_period (min (zcPeriod
        [s.devTime d]) 0xFFFFFF) ∧ u.flag d PLC_STAT_zc_ok = false)
    ∧ (∃ (s t u : State) (d last per run : Nat), s.isF d = true ∧ (s.plc d).edges.head? = some last ∧ (¬ (zcPeriod (s.plc
        d).edges ≠ 0 ∧ (s.devTime d - last) * 100 < zcPeriod (s.plc d).edges * 40)) ∧ per = zcPeriod (s.devTime d :: (s.plc
        d).edges.take 8) ∧ run = (if zcInRange (zcFreq (s.devTime d - last)) then (s.plc d).zcRun + 1 else 0) ∧ t = s.setPlc d
        { s.plc d with edges := s.devTime d :: (s.plc d).edges.take 8, zcRun := min run 8, zcOkAt := if s.flag d PLC_STAT_zc_ok then (s.plc d).zcOkAt else s.now }
        ∧ u = (t.put2 d PLC_ZC_TIME_LO_zc_lo PLC_ZC_TIME_HI_zc_hi (s.devTime d)).put d PLC_ZC_PERIOD_period (min per 0xFFFFFF) ∧
        u.flag d PLC_STAT_zc_ok = true ∧ zcInRange (zcFreq per) = true)
    ∧ (∃ (s : State) (d t : Nat), s.isF d = true ∧ s.flag d PLC_STAT_zc_ok = true ∧ (s.plc d).edges.head? = some t ∧ zcPeriod
        (s.plc d).edges * 5 ≤ (s.devTime d - t) * 2) :=
  ⟨⟨on, 2, 0, ⟨(by decide +kernel), (by decide +kernel)⟩⟩,
   ⟨on, _, _, 2, ⟨(by decide +kernel), (by decide +kernel), rfl, rfl, (by decide +kernel)⟩⟩,
   ⟨(plco { edges := [10 ^ 12 - 2000000] }).putB 2 PLC_STAT_zc_ok true, _, _, 2, _, _, _, ⟨(by decide +kernel), (Option.some_get
       (by decide +kernel)).symm, (by decide +kernel), rfl, rfl, rfl, rfl, (by decide +kernel), (by decide +kernel)⟩⟩,
   ⟨(plco { edges := [10 ^ 11, 10 ^ 11 - 2000000] }).putB 2 PLC_STAT_zc_ok true, 2, (10 ^ 11), ⟨(by decide +kernel),
       (by decide +kernel), (by decide +kernel), (by decide +kernel)⟩⟩⟩

/-- Values that meet the hypotheses of Obligations.LockerCompletes, clause by clause. -/
theorem witness_LockerCompletes_part1 :
    (∃ (s : State) (d : Nat), d < s.nDies)
    ∧ (∃ (s : State) (d : Nat), d < s.nDies)
    ∧ (∃ (s t u : State) (d m : Nat), d < s.nDies ∧ 4 ≤ m ∧ m < 8 ∧ t = s.put d LOCK_EXT_CTRL_mark m ∧ s.flag d
        LOCK_STAT_fuse_error = false ∧ u = t.put d LOCK_EXT_CTRL_error 0 ∧ u.flag d LOCK_STAT_fuse_error = false ∧ bit (u.get d
        LOCK_MARK_LOCK_lock) m = false)
    ∧ (∃ (s : State) (d : Nat), d < s.nDies)
    ∧ (∃ (s t : State) (d n : Nat) (pkg p : Bytes) (c : Cmd) (x y : Slot), d < s.nDies ∧ s.nextCmd d 0x20 = some c ∧ s.flag d
        LOCK_STAT_fuse_error = false ∧ c.op 26 2 = n ∧ 64 ≤ n ∧ n < 512 ∧ s.keyCheck d 4 useUnwrap = .inr x ∧ s.openPackage d x
        (slice pkg 0 (c.op 24 2)) = some p ∧ y = slotOfBytes p 2 ∧ y.key.length = keyLen y.alg ∧ y.exportable = false ∧ t =
        (s.keyUsed d 4 x).setSlot d n { y with lcBound := false, markMask := 0 })
    ∧ (∃ (s t : State) (d n w : Nat) (c : Cmd) (x k : Slot) (nonce b : Bytes), d < s.nDies ∧ s.nextCmd d 0x22 = some c ∧ s.flag
        d LOCK_STAT_fuse_error = false ∧ c.op 16 2 = n ∧ c.op 18 2 = w ∧ s.slot d n = some x ∧ x.exportable = true ∧ s.keyCheck
        d w useWrap = .inr k ∧ k.alg = 1 ∧ s.randomBytes 12 = (nonce, t) ∧ b = nonce ++ gcmSeal k.key nonce [] (leBytes 4 x.attr
        ++ leBytes 4 x.uses ++ x.key)) :=
  ⟨⟨on, 0, (by decide +kernel)⟩,
   ⟨on, 0, (by decide +kernel)⟩,
   ⟨on, _, _, 0, 4, ⟨(by decide +kernel), (by decide +kernel), (by decide +kernel), rfl, (by decide +kernel), rfl,
       (by decide +kernel), (by decide +kernel)⟩⟩,
   ⟨on, 0, (by decide +kernel)⟩,
   ⟨(inCmd (lockOf 0 [(4, slot4)]) 0 0x20 [(24, 2, 116), (26, 2, 64)]), _, 0, _, pkg0, pt0, (cmdOf 0 0x20 [(24, 2, 116), (26, 2,
       64)]), slot4, _, ⟨(by decide +kernel), (by decide +kernel), (by decide +kernel), rfl, (by decide +kernel),
       (by decide +kernel), (by decide +kernel), pkg0_opensAt (by decide +kernel) (by decide +kernel), rfl, (by decide +kernel),
       (by decide +kernel), rfl⟩⟩,
   ⟨(inCmd (lockOf 0 [(64, { slot0 0 1 with exportable := true }), (65, slot0 1 (2 ^ useWrap))]) 0 0x22 [(16, 2, 64), (18, 2,
       65)]), _, 0, _, _, (cmdOf 0 0x22 [(16, 2, 64), (18, 2, 65)]), _, _, _, _, ⟨(by decide +kernel), (by decide +kernel),
       (by decide +kernel), rfl, rfl, (Option.some_get (by decide +kernel)).symm, (by decide +kernel), inrOf
       (by decide +kernel), (by decide +kernel), Prod.mk.eta.symm, rfl⟩⟩⟩

/-- Values that meet the hypotheses of Obligations.LockerCompletes, clause by clause. -/
theorem witness_LockerCompletes_part2 :
    (∃ (s t u : State) (d n alg usage : Nat) (c : Cmd) (k : Slot), d < s.nDies ∧ s.nextCmd d 0x23 = some c ∧ s.flag d
        LOCK_STAT_fuse_error = false ∧ c.op 16 2 = n ∧ 64 ≤ c.op 18 2 ∧ c.op 18 2 < 512 ∧ c.op 22 1 ≤ 64 ∧ s.parentKey d n =
        .inr k ∧ n ≠ 0 ∧ s.freeBelow 5 = (alg, t) ∧ t.freeBelow 256 = (usage, u))
    ∧ (∃ (s t : State) (d n alg : Nat) (key : Bytes) (c : Cmd), d < s.nDies ∧ s.nextCmd d 0x24 = some c ∧ s.flag d
        LOCK_STAT_fuse_error = false ∧ c.op 16 2 = n ∧ 64 ≤ n ∧ n < 512 ∧ c.op 18 1 = alg ∧ alg ≤ 4 ∧ s.lockPermits d = true ∧
        bit (c.op 20 1) 0 = false ∧ s.randomBytes (keyLen alg) = (key, t))
    ∧ (∃ (s : State) (d n : Nat) (c : Cmd), d < s.nDies ∧ s.nextCmd d 0x25 = some c ∧ s.flag d LOCK_STAT_fuse_error = false ∧
        c.op 16 2 = n ∧ 64 ≤ n ∧ n < 512 ∧ s.lockPermits d = true)
    ∧ (∃ (s : State) (d : Nat) (c : Cmd), d < s.nDies ∧ s.nextCmd d 0x26 = some c ∧ s.flag d LOCK_STAT_fuse_error = false ∧ c.op
        16 1 = 2 ∧ (s.lock d).lc = 2)
    ∧ (∃ (s : State) (d : Nat) (c : Cmd), d < s.nDies ∧ s.nextCmd d 0x29 = some c ∧ s.flag d LOCK_STAT_fuse_error = false ∧ c.op
        16 1 = 1 ∧ Lock.lifecycleOf (s.lock d).fuses = 0) :=
  ⟨⟨(inCmd (lockOf 0 [(64, slot0 2 (2 ^ useDerive))]) 0 0x23 [(16, 2, 64), (18, 2, 65)]), _, _, 0, _, _, _, (cmdOf 0 0x23 [(16,
      2, 64), (18, 2, 65)]), _, ⟨(by decide +kernel), (by decide +kernel), (by decide +kernel), rfl, (by decide +kernel),
      (by decide +kernel), (by decide +kernel), inrOf (by decide +kernel), (by decide +kernel), Prod.mk.eta.symm,
      Prod.mk.eta.symm⟩⟩,
   ⟨(inCmd on 0 0x24 [(16, 2, 64), (18, 1, 4)]), _, 0, _, _, _, (cmdOf 0 0x24 [(16, 2, 64), (18, 1, 4)]), ⟨(by decide +kernel),
       (by decide +kernel), (by decide +kernel), rfl, (by decide +kernel), (by decide +kernel), rfl, (by decide +kernel),
       (by decide +kernel), (by decide +kernel), Prod.mk.eta.symm⟩⟩,
   ⟨(inCmd on 0 0x25 [(16, 2, 511)]), 0, _, (cmdOf 0 0x25 [(16, 2, 511)]), ⟨(by decide +kernel), (by decide +kernel),
       (by decide +kernel), rfl, (by decide +kernel), (by decide +kernel), (by decide +kernel)⟩⟩,
   ⟨(inCmd (lockOf 0 []) 0 0x26 [(16, 1, 2)]), 0, (cmdOf 0 0x26 [(16, 1, 2)]), ⟨(by decide +kernel), (by decide +kernel),
       (by decide +kernel), (by decide +kernel), (by decide +kernel)⟩⟩,
   ⟨(inCmd on 0 0x29 [(16, 1, 1)]), 0, (cmdOf 0 0x29 [(16, 1, 1)]), ⟨(by decide +kernel), (by decide +kernel),
       (by decide +kernel), (by decide +kernel), (by decide +kernel)⟩⟩⟩

/-- Values that meet the hypotheses of Obligations.MeterKeysComplete, clause by clause. -/
theorem witness_MeterKeysComplete_part1 :
    (∃ (s : State) (d : Nat) (x : Slot), s.isL d = true ∧ s.domOn d 3 = true ∧ s.slot d 1 = some x)
    ∧ (∃ (s : State) (d : Nat), s.isL d = true)
    ∧ (∃ (s t : State) (d slot : Nat) (m m' : MRec), s.isL d = true ∧ s.findRec d (fun m => m.g rKeyState == 4 && decide
        (m.commitAt + max 1 (s.get d SEC_ROT_CFG_retire_hold) * 360000000000 ≤ s.devTime d)) = some (slot, m) ∧ s.dropSpare d
        slot m = (t, m'))
    ∧ (∃ (s : State) (d slot : Nat) (m : MRec), s.isL d = true ∧ s.get d SEC_ROT_CFG_stage_max ≠ 0 ∧ s.findRec d (fun m => m.g
        rKeyState == 3 && !m.stale && decide (m.g rStageTime + s.get d SEC_ROT_CFG_stage_max * 8640000000000 ≤ s.devTime d)) =
        some (slot, m))
    ∧ (∃ (s t u v : State) (d gen : Nat) (pkg p wk : Bytes) (c : Cmd) (m m' : MRec) (x k1 y : Slot), s.isL d = true ∧ s.flag d
        LOCK_STAT_fuse_error = false ∧ s.nextCmd d 0x21 = some c ∧ s.recWaits d c = false ∧ s.arcFull d = false ∧ s.fetch d
        c.slot = (some m, t) ∧ t.current d c.slot m = (u, m') ∧ m'.g rState ≠ 0 ∧ c.op 26 1 = 0 ∧ m'.bit rSecFlags 1 = false ∧
        m'.g rKeyState = 0 ∧ u.keyCheck d 4 useUnwrap = .inr x ∧ u.keyCheck d 1 useWrap = .inr k1 ∧ u.openPackage d x (slice pkg
        0 (c.op 24 2)) = some p ∧ y = slotOfBytes p 2 ∧ y.alg = 0 ∧ y.key.length = 16 ∧ gen = m'.g rLinkGen + 1 ∧ ((u.keyUsed d
        4 x).useSlot1 d 1).wrapKey k1.key 1 2 (m'.g rSuite) (m'.gb rIdentity) gen y.key = (wk, v))
    ∧ (∃ (s t u v : State) (d : Nat) (c : Cmd) (m m' m'' : MRec), s.isL d = true ∧ s.nextCmd d 0x28 = some c ∧ s.recWaits d c =
        false ∧ s.arcFull d = false ∧ s.fetch d c.slot = (some m, t) ∧ t.current d c.slot m = (u, m') ∧ m'.g rState ≠ 0 ∧ m'.g
        rKeyState = 3 ∧ u.dropSpare d c.slot m' = (v, m'')) :=
  ⟨⟨(lockOf 0 [(1, slot0 1 24)]), 0, _, ⟨(by decide +kernel), (by decide +kernel), (Option.some_get (by decide +kernel)).symm⟩⟩,
   ⟨on, 0, (by decide +kernel)⟩,
   ⟨(recAt { on with com := List.replicate 4 { clk := 10 ^ 24 } } 0 0 ({ bytes := fillBytes 73 0 ++ [4] })), _, 0, _, _, _,
       ⟨(by decide +kernel), somePair (by decide +kernel), Prod.mk.eta.symm⟩⟩,
   ⟨(recAt (puts { on with com := List.replicate 4 { clk := 10 ^ 26 } } [(0, SEC_ROT_CFG_stage_max, 1)]) 0 0
       ({ bytes := fillBytes 73 0 ++ [3] })), 0, _, _, ⟨(by decide +kernel), (by decide +kernel), somePair
       (by decide +kernel)⟩⟩,
   ⟨(inCmd (recAt (lockOf 0 [(1, slot0 1 24), (4, slot4)]) 0 0 rec1) 0 0x21 [(24, 2, 116)]), _, _, _, 0, _, pkg0, pt0, _, (cmdOf
       0 0x21 [(24, 2, 116)]), rec1, _, slot4, _, _, ⟨(by decide +kernel), (by decide +kernel), (by decide +kernel),
       (by decide +kernel), (by decide +kernel), fetchRec rfl (by decide +kernel) rec1_ok, Prod.mk.eta.symm,
       (by decide +kernel), (by decide +kernel), (by decide +kernel), (by decide +kernel), (by decide +kernel), inrOf
       (by decide +kernel), pkg0_opensAt (by decide +kernel) (by decide +kernel), rfl, (by decide +kernel), (by decide +kernel),
       rfl, Prod.mk.eta.symm⟩⟩,
   ⟨(recCmd rec3 0x28 []), _, _, _, 0, (cmdOf 0 0x28 []), rec3, _, _, ⟨(by decide +kernel), (by decide +kernel),
       (by decide +kernel), (by decide +kernel), fetchRec rfl (by decide +kernel) rec3_ok, Prod.mk.eta.symm,
       (by decide +kernel), (by decide +kernel), Prod.mk.eta.symm⟩⟩⟩

/-- Values that meet the hypotheses of Obligations.MeterKeysComplete, clause by clause. -/
theorem witness_MeterKeysComplete_part2 :
    (∃ (s : State) (d : Nat) (c : Cmd), s.isL d = true ∧ s.nextCmd d 0x27 = some c ∧ s.longOp d 0x27 = none ∧ s.handleOk (c.op
        16 4) = true ∧ c.op 20 4 ≠ 0 ∧ c.op 20 4 ≤ 1048576)
    ∧ (∃ (s : State) (d : Nat) (c : Cmd), s.isL d = true ∧ s.nextCmd d 0x2A = some c ∧ bit (c.op 24 1) 0 = false)
    ∧ (∃ (s t : State) (d : Nat) (c : Cmd), s.isL d = true ∧ s.nextCmd d 0x2A = some c ∧ bit (c.op 24 1) 0 = true ∧ t = s.toHost
        c.port (c.op 16 8) ((s.sec d).unknowns.flatMap unknownBytes)) :=
  ⟨⟨(inCmd on 0 0x27 [(20, 4, 1048576)]), 0, (cmdOf 0 0x27 [(20, 4, 1048576)]), ⟨(by decide +kernel), (by decide +kernel),
      (by decide +kernel), (by decide +kernel), (by decide +kernel), (by decide +kernel)⟩⟩,
   ⟨(inCmd on 0 0x2A []), 0, (cmdOf 0 0x2A []), ⟨(by decide +kernel), (by decide +kernel), (by decide +kernel)⟩⟩,
   ⟨(inCmd on 0 0x2A [(24, 1, 1)]), _, 0, (cmdOf 0 0x2A [(24, 1, 1)]), ⟨(by decide +kernel), (by decide +kernel),
       (by decide +kernel), rfl⟩⟩⟩

/-- Values that meet the hypotheses of Obligations.FrameHandoffCompletes, clause by clause. -/
theorem witness_FrameHandoffCompletes_part1 :
    (∃ (s t : State) (d : Nat) (h : Header) (m : HandMsg) (rest : List HandMsg), s.isL d = true ∧ takeHand d HandBody.isHeader
        [] s.hand = some (m, rest) ∧ m.body = .header h ∧ t = ({ s with hand := rest } : State).drainParams d m.src)
    ∧ (∃ (s : State) (d off : Nat) (b : Bytes) (m : HandMsg) (rest : List HandMsg), s.isL d = true ∧ takeHand d HandBody.isData
        [] s.hand = some (m, rest) ∧ m.body = .data off b)
    ∧ (∃ (s : State) (d off : Nat) (b : Bytes) (m : HandMsg) (rest : List HandMsg), s.isL d = true ∧ takeHand d
        HandBody.isRewrite [] s.hand = some (m, rest) ∧ m.body = .rewrite off b)
    ∧ (∃ (s : State) (d off : Nat) (b : Bytes) (t : Trailer) (m : HandMsg) (rest : List HandMsg), s.isL d = true ∧ takeHand d
        HandBody.isTrailer [] s.hand = some (m, rest) ∧ m.body = .trailer t off b)
    ∧ (∃ (s t : State) (d : Nat) (m : HandMsg) (rest : List HandMsg), s.isL d = true ∧ takeHand d HandBody.isAbort [] s.hand =
        some (m, rest) ∧ t = { s with hand := rest })
    ∧ (∃ (s t : State) (d : Nat) (x : LFrame) (slot : Option Nat) (good : Bool), s.isL d = true ∧ ((s.sec d).frames.filter
        (fun x => !x.ready)).find? (fun x => s.canPrefetch d x.header.identity x.header.idKind) = some x ∧ s.prefetch d
        x.header.identity x.header.idKind = (t, some (slot, good))) :=
  ⟨⟨(handOf (.header hdr0)), _, 0, hdr0, ⟨2, 0, 0, 0, .header hdr0⟩, [], ⟨(by decide +kernel), (by decide +kernel),
      (by decide +kernel), rfl⟩⟩,
   ⟨(handOf (.data 0 [1])), 0, 0, [1], ⟨2, 0, 0, 0, .data 0 [1]⟩, [], ⟨(by decide +kernel), (by decide +kernel),
       (by decide +kernel)⟩⟩,
   ⟨(handOf (.rewrite 0 [1])), 0, 0, [1], ⟨2, 0, 0, 0, .rewrite 0 [1]⟩, [], ⟨(by decide +kernel), (by decide +kernel),
       (by decide +kernel)⟩⟩,
   ⟨(handOf (.trailer trl0 0 [1])), 0, 0, [1], trl0, ⟨2, 0, 0, 0, .trailer trl0 0 [1]⟩, [], ⟨(by decide +kernel),
       (by decide +kernel), (by decide +kernel)⟩⟩,
   ⟨(handOf (.abort 1)), _, 0, ⟨2, 0, 0, 0, .abort 1⟩, [], ⟨(by decide +kernel), (by decide +kernel), rfl⟩⟩,
   ⟨(on.putB 0 SEC_STAT_running true).setSec 0 { frames := [frm0] }, _, 0, frm0, _, _, ⟨(by decide +kernel),
       (by decide +kernel), pairSome2 (by decide +kernel)⟩⟩⟩

/-- Values that meet the hypotheses of Obligations.FrameHandoffCompletes, clause by clause. -/
theorem witness_FrameHandoffCompletes_part2 :
    (∃ (s t : State) (d : Nat) (x : HeFrame) (slot : Option Nat) (good : Bool), s.isL d = true ∧ ((s.sec d).frames.filter (fun x
        => !x.ready)).find? (fun x => s.canPrefetch d x.header.identity x.header.idKind) = none ∧ ((s.sec d).headEnd.filter
        (fun x => !x.ready)).find? (fun x => s.canPrefetch d (heFrameOf x).identity (heFrameOf x).idKind) = some x ∧ s.prefetch
        d (heFrameOf x).identity (heFrameOf x).idKind = (t, some (slot, good)))
    ∧ (∃ (s t : State) (d : Nat) (x : LFrame) (old : List LFrame), s.isL d = true ∧ (s.sec d).frames.filter (LFrame.overdue
        (s.devTime d)) = x :: old ∧ (s.sec d).headEnd = [] ∧ (x :: old).filterMap (·.slot) = [] ∧ (s.sec d).lim034 = none ∧ t =
        (s.setSec d { s.sec d with frames := (s.sec d).frames.filter (fun y => !decide (y ∈ x :: old)), headEnd := [] }).inc d
        SEC_LATE_CNT (old.length + 1))
    ∧ (∃ (s t u : State) (d : Nat) (bytes : Bytes) (c : Cmd) (x : HeFrame) (slot : Option Nat) (good : Bool), s.isL d = true ∧
        s.hif.inflight.find? (fun c => c.die == d && c.opcode == 0x81 && c.sent && !c.started) = some c ∧ x =
        { cmd := c.id, entry := c.entry, bytes := bytes, arrived := s.devTime d, held := s.stopped d } ∧ t = (s.markStarted
        c.id).setSec d { (s.markStarted c.id).sec d with headEnd := ((s.markStarted c.id).sec d).headEnd ++ [x] } ∧ t.prefetch d
        (heFrameOf x).identity (heFrameOf x).idKind = (u, some (slot, good))) :=
  ⟨⟨(on.putB 0 SEC_STAT_running true).setSec 0 { headEnd := [he0] }, _, 0, he0, _, _, ⟨(by decide +kernel), (by decide +kernel),
      (by decide +kernel), pairSome2 (by decide +kernel)⟩⟩,
   ⟨(on.setSec 0 { frames := [{ frm0 with trailer := some trl0 }] }), _, 0, { frm0 with trailer := some trl0 }, [],
       ⟨(by decide +kernel), (by decide +kernel), (by decide +kernel), (by decide +kernel), (by decide +kernel), rfl⟩⟩,
   ⟨{ on.putB 0 SEC_STAT_running true with hif := { on.hif with inflight := [{ cmdOf 0 0x81 [] with sent := true }] } }, _, _,
       0, he0.bytes, { cmdOf 0 0x81 [] with sent := true }, { he0 with arrived := 10 ^ 12 }, _, _, ⟨(by decide +kernel),
       (by decide +kernel), (by decide +kernel), rfl, pairSome2 (by decide +kernel)⟩⟩⟩

/-- Values that meet the hypotheses of Obligations.QueuesComplete, clause by clause. -/
theorem witness_QueuesComplete_part1 :
    (∃ (s : State) (d c : Nat), s.isL d = true ∧ s.domOn d 3 = true ∧ s.get d QUE_n_STAT_state c = 0 ∧ s.queCfgOk d c = true)
    ∧ (∃ (s : State) (d c : Nat), s.isL d = true ∧ s.get d QUE_n_STAT_state c = 1)
    ∧ (∃ (s : State) (d c : Nat) (p : Packet), s.isL d = true ∧ (s.que d c).packets.find? (fun p => !p.committed) = some p)
    ∧ (∃ (s : State) (d c : Nat) (q : Queue), s.isL d = true ∧ s.que d c = q ∧ inPart q .middle ≠ [] ∧ 16384 ≤ pktBytes ((inPart
        q .tail).takeWhile (·.committed)))
    ∧ (∃ (s : State) (d c : Nat) (q : Queue) (l : List Nat), s.isL d = true ∧ s.que d c = q ∧ inPart q .middle = [] ∧ l =
        frontFit (·.committed) (headFree q) (inPart q .tail) ∧ l ≠ [])
    ∧ (∃ (s : State) (d c : Nat) (q : Queue), s.isL d = true ∧ s.que d c = q ∧ 16384 ≤ headFree q) :=
  ⟨⟨on, 0, 0, ⟨(by decide +kernel), (by decide +kernel), (by decide +kernel), (by decide +kernel)⟩⟩,
   ⟨(on.put 0 QUE_n_STAT_state 1), 0, 0, ⟨(by decide +kernel), (by decide +kernel)⟩⟩,
   ⟨(queOf { packets := [pkt0] }), 0, 0, _, ⟨(by decide +kernel), (Option.some_get (by decide +kernel)).symm⟩⟩,
   ⟨(queOf { packets := [{ pkt0 with part := .middle }, { pkt0 with committed := true, payload := fillBytes 16384 0 }] }), 0, 0,
       { packets := [{ pkt0 with part := .middle }, { pkt0 with committed := true, payload := fillBytes 16384 0 }] },
       ⟨(by decide +kernel), (by decide +kernel), (by decide +kernel), (by decide +kernel)⟩⟩,
   ⟨(queOf { packets := [pktT] }), 0, 0, { packets := [pktT] }, [0], ⟨(by decide +kernel), (by decide +kernel),
       (by decide +kernel), (by decide +kernel), (by decide +kernel)⟩⟩,
   ⟨on, 0, 0, _, ⟨(by decide +kernel), rfl, (by decide +kernel)⟩⟩⟩

/-- Values that meet the hypotheses of Obligations.QueuesComplete, clause by clause. -/
theorem witness_QueuesComplete_part2 :
    (∃ (s t u : State) (d st : Nat) (p : Packet), s.isL d = true ∧ s.flag d LEDG_STAT_running = true ∧ s.serving d = true ∧
        s.stopped d = false ∧ s.arcFull d = false ∧ s.nextApply d = some p ∧ s.applyPacket d p = (t, st) ∧ u = t.setQue d p.cls
        { t.que d p.cls with packets := setPkt (t.que d p.cls).packets p.seq (fun x => { x with applied := true, status := st }) })
    ∧ (∃ (s : State) (d c : Nat), s.isL d = true ∧ (s.que d c).heldSince = none ∧ s.ringFull d c = true)
    ∧ (∃ (s t : State) (d c t0 : Nat), s.isL d = true ∧ (s.que d c).heldSince = some t0 ∧ s.ringFull d c = false ∧ t =
        s.countHeld d c)
    ∧ (∃ (s : State) (d c : Nat), s.isL d = true ∧ s.holdOver d c = true ∧ (s.que d c).limitRaised = false ∧ s.get d
        QUE_n_STAT_state c ≠ 2)
    ∧ (∃ (s : State) (d : Nat), s.isL d = true)
    ∧ (∃ (s t : State) (d c : Nat) (p : Packet) (ps : List Packet), s.isL d = true ∧ s.stopped d = false ∧ s.serving d = true ∧
        (s.que d c).packets = p :: ps ∧ p.part = .head ∧ p.applied = true ∧ (s.que d c).heldSince = none ∧ s.cqRoom
        (s.classGroup c) p.entries = true ∧ p.flags.testBit 0 = false ∧ p.redelivered = false ∧ p.unprotected = false ∧
        s.devTime d ≤ p.start + (p.held + (s.heldTicks d c - p.heldAt)) + classDeadline c * 100 ∧ t = (s.cqWrite (s.classGroup
        c) (itemCpl d p 0 ((p.held + (s.heldTicks d c - p.heldAt)) / 100) (c = 0 || aheadOfMarker (s.que d c) p))).put d
        QUE_n_DELIV_delivered p.seq c) :=
  ⟨⟨(queOf { packets := [{ pkt0 with committed := true }] }).putB 0 LEDG_STAT_running true, _, _, 0, _, _, ⟨(by decide +kernel),
      (by decide +kernel), (by decide +kernel), (by decide +kernel), (by decide +kernel), (Option.some_get
      (by decide +kernel)).symm, Prod.mk.eta.symm, rfl⟩⟩,
   ⟨on, 0, 0, ⟨(by decide +kernel), (by decide +kernel), (by decide +kernel)⟩⟩,
   ⟨(ringOn (queOf { heldSince := some 0 })), _, 0, 0, _, ⟨(by decide +kernel), (Option.some_get (by decide +kernel)).symm,
       (by decide +kernel), rfl⟩⟩,
   ⟨(queOf { heldSince := some 0 }).put 0 QUE_n_STAT_state 1, 0, 0, ⟨(by decide +kernel), (by decide +kernel),
       (by decide +kernel), (by decide +kernel)⟩⟩,
   ⟨on, 0, (by decide +kernel)⟩,
   ⟨(ringOn (queOf { packets := [{ pkt0 with part := .head, applied := true }] })), _, 0, 0, _, _, ⟨(by decide +kernel),
       (by decide +kernel), (by decide +kernel), (List.cons_head_tail (by decide +kernel)).symm, (by decide +kernel),
       (by decide +kernel), (by decide +kernel), (by decide +kernel), (by decide +kernel), (by decide +kernel),
       (by decide +kernel), (by decide +kernel), rfl⟩⟩⟩

/-- Values that meet the hypotheses of Obligations.QueuesComplete, clause by clause. -/
theorem witness_QueuesComplete_part3 :
    (∃ (s : State) (d c : Nat), s.isL d = true ∧ (s.que d c).packets = [])
    ∧ (∃ (s : State) (d c : Nat) (p : Packet), s.isL d = true ∧ (s.que d c).packets.getLast? = some p)
    ∧ (∃ (s : State) (d : Nat), s.isL d = true) :=
  ⟨⟨on, 0, 0, ⟨(by decide +kernel), (by decide +kernel)⟩⟩,
   ⟨(queOf { packets := [pkt0] }), 0, 0, pkt0, ⟨(by decide +kernel), (by decide +kernel)⟩⟩,
   ⟨on, 0, (by decide +kernel)⟩⟩

/-- Values that meet the hypotheses of Obligations.LedgerRowsComplete, clause by clause. -/
theorem witness_LedgerRowsComplete :
    (∃ (s t : State) (d : Nat), s.isL d = true ∧ s.domOn d 4 = true ∧ t = (s.putB d LEDG_CTRL_enable true).putB d
        LEDG_STAT_running true ∧ (t.arc d).layout = none)
    ∧ (∃ (s : State) (d : Nat), s.isL d = true ∧ s.ltState d = 1 ∧ (s.led d).lt = (s.com1 d).clk)
    ∧ (∃ (s t : State) (d : Nat) (l : Layout), s.isL d = true ∧ s.domOn d 4 = true ∧ t = (s.putB d LEDG_CTRL_enable true).putB d
        LEDG_STAT_running true ∧ (t.arc d).layout = some l ∧ l.paired = none)
    ∧ (∃ (s : State) (d : Nat), s.isL d = true ∧ s.held d = true ∧ s.holdLt d ≤ s.devTime d)
    ∧ (∃ (s : State) (d : Nat), s.isL d = true ∧ s.held d = true)
    ∧ (∃ (s t : State) (d b : Nat), s.isL d = true ∧ s.sweepTarget d (s.ltSec d) = b ∧ s.flag d LEDG_STAT_running = true ∧
        s.serving d = true ∧ s.flag d LEDG_STAT_sweep_busy = false ∧ s.get d LEDG_SWEEP_boundary < b ∧ s.arcFull d = false ∧ t =
        (((s.l d).recs.map (·.1)).foldl (fun (s : State) slot => s.sweepRec d b slot) s).announce d b)
    ∧ (∃ (s t u v : State) (d b n : Nat), s.isL d = true ∧ s.flag d LEDG_STAT_sweep_busy = true ∧ b = s.get d
        LEDG_SWEEP_boundary ∧ b ≠ 0 ∧ n = (s.led d).sweepTo ∧ t = (s.put d LEDG_SWEEP_boundary n).putB d LEDG_STAT_sweep_busy
        false ∧ u = (t.led d).billed.foldl (fun (s : State) b => (s.inc d LEDG_PERIOD_CNT).raise d 76 (arg 0 b)) t ∧ v =
        u.setLed d { u.led d with billed := [] }) :=
  ⟨⟨on, _, 0, ⟨(by decide +kernel), (by decide +kernel), rfl, (by decide +kernel)⟩⟩,
   ⟨(on.put 0 LEDG_STAT_lt_state 1).setLed 0 { on.led 0 with lt := 10 ^ 21 }, 0, ⟨(by decide +kernel), (by decide +kernel),
       (by decide +kernel)⟩⟩,
   ⟨(on.setArc 0 arc1), _, 0, lay0, ⟨(by decide +kernel), (by decide +kernel), rfl, (by decide +kernel), (by decide +kernel)⟩⟩,
   ⟨(on.put 0 LEDG_STAT_lt_state 2), 0, ⟨(by decide +kernel), (by decide +kernel), (by decide +kernel)⟩⟩,
   ⟨(on.put 0 LEDG_STAT_lt_state 2), 0, ⟨(by decide +kernel), (by decide +kernel)⟩⟩,
   ⟨(withProg ((on.put 0 LEDG_STAT_running 1).setLed 0 { on.led 0 with lt := 10 ^ 21 })), _, 0, _, ⟨(by decide +kernel), rfl,
       (by decide +kernel), (by decide +kernel), (by decide +kernel), (by decide +kernel), (by decide +kernel), rfl⟩⟩,
   ⟨(puts on [(0, LEDG_STAT_sweep_busy, 1), (0, LEDG_SWEEP_boundary, 1)]), _, _, _, 0, _, _, ⟨(by decide +kernel),
       (by decide +kernel), rfl, (by decide +kernel), rfl, rfl, rfl, rfl⟩⟩⟩

/-- Values that meet the hypotheses of Obligations.LedgerCommandsComplete, clause by clause. -/
theorem witness_LedgerCommandsComplete_part1 :
    (∃ (s t : State) (d : Nat) (c : Cmd) (m : MRec), s.isL d = true ∧ s.nextCmd d 0x01 = some c ∧ s.fetch d c.slot = (some m, t)
        ∧ t.recNext d m = none ∧ t.current d c.slot m = (t, m))
    ∧ (∃ (s t u : State) (d : Nat) (image : Bytes) (c : Cmd) (m new : MRec), s.isL d = true ∧ s.nextCmd d 0x02 = some c ∧
        s.recWaits d c = false ∧ s.arcFull d = false ∧ s.fetch d c.slot = (some m, t) ∧ m.g rState = 0 ∧ t.liveElsewhere d
        c.slot (slice (slice image 0 512) 4 8) (leField (slice image 0 512) 12 1) = false ∧ new =
        { bytes := provisioned (t.slotHandle d c.slot) (slice image 0 512), done := t.ltSec d } ∧ u = t.setRecs d (smPut (t.l
        d).recs c.slot new))
    ∧ (∃ (s t u v : State) (d n : Nat) (c : Cmd) (m m' : MRec), s.isL d = true ∧ s.nextCmd d 0x03 = some c ∧ s.recWaits d c =
        false ∧ s.arcFull d = false ∧ s.fetch d c.slot = (some m, t) ∧ t.current d c.slot m = (u, m') ∧ m'.g rState ≠ 0 ∧ c.op
        16 1 = n ∧ n ≠ 0 ∧ n ≤ 4 ∧ m'.g rState ≠ 4 ∧ v = u.update d c.slot (m'.p rState n))
    ∧ (∃ (s t : State) (d : Nat) (src p : Bytes) (c : Cmd), s.isL d = true ∧ s.nextCmd d 0x04 = some c ∧ s.arcFull d = false ∧ p
        = slice src 0 2048 ∧ progOk p = true ∧ s.actOk d p (c.op 24 8) = true ∧ t = s.setLed d
        { s.led d with progs := (s.led d).progs.filter (fun v => !(v.num == pNumber p && decide (s.ltSec d < v.act))) ++ [⟨pNumber p, c.op 24 8 / 10 ^ 8, p, false⟩] })
    ∧ (∃ (s t u : State) (d : Nat) (p : Bytes) (c : Cmd) (m m' : MRec), s.isL d = true ∧ s.nextCmd d 0x05 = some c ∧ s.recWaits
        d c = false ∧ s.arcFull d = false ∧ s.fetch d c.slot = (some m, t) ∧ t.current d c.slot m = (u, m') ∧ m'.g rState ≠ 0 ∧
        u.content d (c.op 16 2) (c.op 24 8 / 10 ^ 8) = some p ∧ u.actOk d p (c.op 24 8) = true)
    ∧ (∃ (s : State) (d b : Nat) (c : Cmd), s.isL d = true ∧ s.nextCmd d 0x06 = some c ∧ s.arcFull d = false ∧ s.lt d < c.op 16
        8 ∧ c.op 16 8 = b * 10 ^ 8 ∧ s.closable d b = true ∧ (s.l d).recs = [] ∧ b ∉ (s.led d).closes) :=
  ⟨⟨(recCmd rec1 0x01 []), (recCmd rec1 0x01 []), 0, (cmdOf 0 0x01 []), rec1, ⟨(by decide +kernel), (by decide +kernel),
      fetchRec rfl (by decide +kernel) rec1_ok, (by decide +kernel), (by decide +kernel)⟩⟩,
   ⟨(inCmd on 0 0x02 []), _, _, 0, [], (cmdOf 0 0x02 []), (freeRec 0), _, ⟨(by decide +kernel), (by decide +kernel),
       (by decide +kernel), (by decide +kernel), fetchFree (by decide +kernel) (by decide +kernel) free0_ok,
       (by decide +kernel), (by decide +kernel), rfl, rfl⟩⟩,
   ⟨(recCmd rec1 0x03 [(16, 1, 4)]), _, _, _, 0, _, (cmdOf 0 0x03 [(16, 1, 4)]), rec1, _, ⟨(by decide +kernel),
       (by decide +kernel), (by decide +kernel), (by decide +kernel), fetchRec rfl (by decide +kernel) rec1_ok,
       Prod.mk.eta.symm, (by decide +kernel), rfl, (by decide +kernel), (by decide +kernel), (by decide +kernel), rfl⟩⟩,
   ⟨(inCmd on 0 0x04 [(24, 8, 3600 * 10 ^ 8)]), _, 0, prog0, _, (cmdOf 0 0x04 [(24, 8, 3600 * 10 ^ 8)]), ⟨(by decide +kernel),
       (by decide +kernel), (by decide +kernel), rfl, (by decide +kernel), (by decide +kernel), rfl⟩⟩,
   ⟨(withProg (recCmd rec1 0x05 [(24, 8, 3600 * 10 ^ 8)])), (withProg (recCmd rec1 0x05 [(24, 8, 3600 * 10 ^ 8)])), _, 0, prog0,
       (cmdOf 0 0x05 [(24, 8, 3600 * 10 ^ 8)]), rec1, _, ⟨(by decide +kernel), (by decide +kernel), (by decide +kernel),
       (by decide +kernel), (by apply fetchRec (h := 0) <;> first | exact rec1_ok | decide +kernel), Prod.mk.eta.symm,
       (by decide +kernel), (by decide +kernel), (by decide +kernel)⟩⟩,
   ⟨(withProg (inCmd on 0 0x06 [(16, 8, 3600 * 10 ^ 8)])), 0, 3600, (cmdOf 0 0x06 [(16, 8, 3600 * 10 ^ 8)]),
       ⟨(by decide +kernel), (by decide +kernel), (by decide +kernel), (by decide +kernel), (by decide +kernel),
       (by decide +kernel), (by decide +kernel), (by decide +kernel)⟩⟩⟩

/-- Values that meet the hypotheses of Obligations.LedgerCommandsComplete, clause by clause. -/
theorem witness_LedgerCommandsComplete_part2 :
    (∃ (s t u v w : State) (d back : Nat) (c : Cmd) (m m' n : MRec), s.isL d = true ∧ s.nextCmd d 0x07 = some c ∧ s.recWaits d c
        = false ∧ s.arcFull d = false ∧ s.fetch d c.slot = (some m, t) ∧ t.current d c.slot m = (u, m') ∧ m'.g rState ≠ 0 ∧ m'.g
        rState ≠ 4 ∧ isPrepay m' = true ∧ m'.g rTopupSeq < c.op 24 4 ∧ u.ppEval d c.slot (((ppCredit m' (toSigned 64 (c.op 16
        8))).p rTopupSeq (c.op 24 4)).p rLastTopupS (u.ltSec d)) (u.ltSec d) = (v, n) ∧ v.content d (n.g rProgram) (v.ltSec d) =
        none ∧ v.freeBelow 2 = (back, w))
    ∧ (∃ (s t u v : State) (d : Nat) (c : Cmd) (m m' n : MRec), s.isL d = true ∧ s.nextCmd d 0x08 = some c ∧ s.recWaits d c =
        false ∧ s.arcFull d = false ∧ s.fetch d c.slot = (some m, t) ∧ t.current d c.slot m = (u, m') ∧ m'.g rState ≠ 0 ∧ m'.g
        rState ≠ 4 ∧ isPrepay m' = true ∧ m'.bit rPpFlags 1 = false ∧ ecAvailable m' = true ∧ u.ppEval d c.slot (m'.pbit
        rPpFlags 1 true) (u.ltSec d) = (v, n))
    ∧ (∃ (s t u v : State) (d : Nat) (c : Cmd) (m m' n : MRec), s.isL d = true ∧ s.nextCmd d 0x09 = some c ∧ s.recWaits d c =
        false ∧ s.arcFull d = false ∧ s.fetch d c.slot = (some m, t) ∧ t.current d c.slot m = (u, m') ∧ m'.g rState ≠ 0 ∧ m'.g
        rState ≠ 4 ∧ m'.bit rFlags 2 = true ∧ u.defaultOn d = false ∧ u.relayFor d c.slot m' 0 1 = (v, n))
    ∧ (∃ (s t u v : State) (d : Nat) (c : Cmd) (m m' n : MRec), s.isL d = true ∧ s.nextCmd d 0x0A = some c ∧ s.recWaits d c =
        false ∧ s.arcFull d = false ∧ s.fetch d c.slot = (some m, t) ∧ t.current d c.slot m = (u, m') ∧ m'.g rState ≠ 0 ∧ m'.g
        rState ≠ 4 ∧ u.relayFor d c.slot m' 2 1 = (v, n))
    ∧ (∃ (s s' t : State) (d : Nat) (c : Cmd) (p : Bytes), s.isL d = true ∧ s.nextCmd d 0x0B = some c ∧ s.rrCheck d c = 0 ∧
        s.content d (rrProgram c) (s.ltSec d) = some p ∧ s.rrPeriods d c p = (false, s') ∧ t = ((((s'.put d LEDG_RR_PROG_percent
        0).putB d LEDG_RR_PROG_running true).putB d LEDG_RR_PROG_done false).put d LEDG_RR_PROG_error 0))
    ∧ (∃ (s : State) (d : Nat) (o : LongOp), s.isL d = true ∧ s.longOp d 0x0B = some o ∧ o.done = none) :=
  ⟨⟨(recCmd rec1 0x07 [(16, 8, 5), (24, 4, 1)]), _, _, _, _, 0, _, (cmdOf 0 0x07 [(16, 8, 5), (24, 4, 1)]), rec1, _, _,
      ⟨(by decide +kernel), (by decide +kernel), (by decide +kernel), (by decide +kernel), fetchRec rfl (by decide +kernel)
      rec1_ok, Prod.mk.eta.symm, (by decide +kernel), (by decide +kernel), (by decide +kernel), (by decide +kernel),
      Prod.mk.eta.symm, (by decide +kernel), Prod.mk.eta.symm⟩⟩,
   ⟨(recCmd rec1 0x08 []), _, _, _, 0, (cmdOf 0 0x08 []), rec1, _, _, ⟨(by decide +kernel), (by decide +kernel),
       (by decide +kernel), (by decide +kernel), fetchRec rfl (by decide +kernel) rec1_ok, Prod.mk.eta.symm,
       (by decide +kernel), (by decide +kernel), (by decide +kernel), (by decide +kernel), (by decide +kernel),
       Prod.mk.eta.symm⟩⟩,
   ⟨(recCmd rec1 0x09 []).putB 0 LEDG_STAT_default_tariff false, _, _, _, 0, (cmdOf 0 0x09 []), rec1, _, _,
       ⟨(by decide +kernel), (by decide +kernel), (by decide +kernel), (by decide +kernel), fetchRec rfl (by decide +kernel)
       rec1_ok, Prod.mk.eta.symm, (by decide +kernel), (by decide +kernel), (by decide +kernel), (by decide +kernel),
       Prod.mk.eta.symm⟩⟩,
   ⟨(recCmd rec1 0x0A []), _, _, _, 0, (cmdOf 0 0x0A []), rec1, _, _, ⟨(by decide +kernel), (by decide +kernel),
       (by decide +kernel), (by decide +kernel), fetchRec rfl (by decide +kernel) rec1_ok, Prod.mk.eta.symm,
       (by decide +kernel), (by decide +kernel), Prod.mk.eta.symm⟩⟩,
   ⟨(withProg ((inCmd on 0 0x0B [(20, 4, 1), (32, 4, 1)]).setArc 0
       { on.arc 0 with columns := [⟨0, 60, 0, 0, 3600, 0, [], []⟩] })), _, _, 0, (cmdOf 0 0x0B [(20, 4, 1), (32, 4, 1)]), _,
       ⟨(by decide +kernel), (by decide +kernel), (by decide +kernel), (Option.some_get (by decide +kernel)).symm, pairFst
       (by decide +kernel), rfl⟩⟩,
   ⟨{ on with hif := { on.hif with longOps := [{ cmd := 0, die := 0, opcode := 0x0B }] } }, 0,
       { cmd := 0, die := 0, opcode := 0x0B }, ⟨(by decide +kernel), (by decide +kernel), (by decide +kernel)⟩⟩⟩

/-- Values that meet the hypotheses of Obligations.LedgerCommandsComplete, clause by clause. -/
theorem witness_LedgerCommandsComplete_part3 :
    (∃ (s : State) (d : Nat) (c : Cmd) (l : List Bytes), s.isL d = true ∧ s.nextCmd d 0x0C = some c ∧ c.op 28 2 ≠ 0 ∧ c.op 28 2
        ≤ 256 ∧ l = ((s.led d).disc.filter (fun e => decide (c.op 24 4 ≤ leField e 0 4))).take (c.op 28 2))
    ∧ (∃ (s : State) (d : Nat) (c : Cmd), s.isL d = true ∧ s.nextCmd d 0x0D = some c ∧ bit (c.op 24 1) 0 = false)
    ∧ (∃ (s t : State) (d : Nat) (c : Cmd), s.isL d = true ∧ s.nextCmd d 0x0D = some c ∧ bit (c.op 24 1) 0 = true ∧ t = s.toHost
        c.port (c.op 16 8) (([0, 1, 2, 3].flatMap (fun k => (s.que d k).deferred)).flatMap (leBytes 4)))
    ∧ (∃ (s : State) (d : Nat) (c : Cmd) (o : LongOp), d < s.nDies ∧ s.nextCmd d 0x0F = some c ∧ s.longOp d (c.op 16 1) = some o
        ∧ o.done = none) :=
  ⟨⟨(inCmd on 0 0x0C [(28, 2, 256)]), 0, (cmdOf 0 0x0C [(28, 2, 256)]), _, ⟨(by decide +kernel), (by decide +kernel),
      (by decide +kernel), (by decide +kernel), rfl⟩⟩,
   ⟨(inCmd on 0 0x0D []), 0, (cmdOf 0 0x0D []), ⟨(by decide +kernel), (by decide +kernel), (by decide +kernel)⟩⟩,
   ⟨(inCmd on 0 0x0D [(24, 1, 1)]), _, 0, (cmdOf 0 0x0D [(24, 1, 1)]), ⟨(by decide +kernel), (by decide +kernel),
       (by decide +kernel), rfl⟩⟩,
⟨{ inCmd on 0 0x0F [(16, 1, 0x0B)] with hif := { (inCmd on 0 0x0F [(16, 1, 0x0B)]).hif with longOps := [{ cmd := 5, die := 0, opcode := 0x0B }] } },
       0, (cmdOf 0 0x0F [(16, 1, 0x0B)]), _, ⟨(by decide +kernel), (by decide +kernel), (Option.some_get
       (by decide +kernel)).symm, (by decide +kernel)⟩⟩⟩

/-- Values that meet the hypotheses of Obligations.RollCompletes, clause by clause. -/
theorem witness_RollCompletes :
    (∃ (s t : State) (d e : Nat) (p : TtParams), s.isL d = true ∧ s.ttPub.find? (fun p => p.1 == d) = some (e, p) ∧ t =
        { s with ttPub := s.ttPub.erase (d, p) })
    ∧ (∃ (s t t' u v w : State) (d f n k slotNo tt no : Nat) (p : TtParams) (e : AssignEnt) (m m1 m2 m3 : MRec), s.isL d = true
        ∧ tt = 8 * (f % 2) + n % 8 ∧ smGet (s.ttTab d).params tt = some p ∧ p.running = true ∧ p.follow = false ∧ slotNo <
        p.slots ∧ s.serving d = true ∧ p.kindOf slotNo = .data ∧ no = k * p.slots + slotNo ∧ p.start + no * p.slotTicks +
        p.slotTicks ≤ s.devTime d ∧ smGet (s.ttTab d).assign (assignKey tt (p.entry k slotNo)) = some e ∧ e.checked ≤ no ∧
        s.fetch d (e.handle % 2 ^ 20) = (some m, t) ∧ e.inEffect p m k slotNo = true ∧ m.g rLastSeen < p.start + no *
        p.slotTicks ∧ t' = t.setTt d
        { t.ttTab d with assign := smPut (t.ttTab d).assign (assignKey tt (p.entry k slotNo)) { e with checked := no + 1 } } ∧
        t'.doubleU (m.incr rMisses) = (u, m1) ∧ (v, m2) = (if m1.g rMisses = 3 then (u.raiseM d (e.handle % 2 ^ 20) 88, (m1.p
        rTtState 3).incr rTruantCount) else (u, m1)) ∧ ((w, m3) = (if m1.g rMisses = 3 + min p.truantHold 252 ∧ m2.g rTtState =
        3 then (v.raiseM d (e.handle % 2 ^ 20) 91, m2.p rTtState 4) else (v, m2))))
    ∧ (∃ (s t t' : State) (d f n k slotNo tt no : Nat) (p : TtParams) (e : AssignEnt) (m : MRec), s.isL d = true ∧ tt = 8 * (f %
        2) + n % 8 ∧ smGet (s.ttTab d).params tt = some p ∧ p.running = true ∧ p.follow = false ∧ slotNo < p.slots ∧ s.serving d
        = true ∧ p.kindOf slotNo = .data ∧ no = k * p.slots + slotNo ∧ p.start + no * p.slotTicks + p.slotTicks ≤ s.devTime d ∧
        smGet (s.ttTab d).assign (assignKey tt (p.entry k slotNo)) = some e ∧ e.checked ≤ no ∧ s.fetch d (e.handle % 2 ^ 20) =
        (some m, t) ∧ e.inEffect p m k slotNo = true ∧ p.start + no * p.slotTicks ≤ m.g rLastSeen ∧ m.g rLastSeen < p.start + no
        * p.slotTicks + p.slotTicks ∧ t' = t.setTt d
        { t.ttTab d with assign := smPut (t.ttTab d).assign (assignKey tt (p.entry k slotNo)) { e with checked := no + 1 } })
    ∧ (∃ (s t u v : State) (d tt per ph sn : Nat) (c : Cmd) (m m' n : MRec) (p : TtParams) (rest : SMap AssignEnt), s.isL d =
        true ∧ s.nextCmd d 0x10 = some c ∧ s.recWaits d c = false ∧ s.arcFull d = false ∧ s.fetch d c.slot = (some m, t) ∧
        t.current d c.slot m = (u, m') ∧ m'.g rState ≠ 0 ∧ c.op 16 1 = tt ∧ c.op 18 2 = per ∧ c.op 20 1 = ph ∧ c.op 22 2 = sn ∧
        tt < 16 ∧ smGet (u.ttTab d).params tt = some p ∧ p.running = true ∧ p.follow = false ∧ sn < p.slots ∧ p.kindOf sn =
        .data ∧ per ≠ 0 ∧ per ≤ p.periodMax ∧ p.periodMax % per = 0 ∧ ph < per ∧ rest = dropAssign (u.ttTab d) (u.slotHandle d
        c.slot) ∧ ((p.occupied per ph sn).map (assignKey tt)).any (fun i => (smGet rest i).isSome) = false ∧ v = u.setTt d
        { u.ttTab d with assign := ((p.occupied per ph sn).map (assignKey tt)).foldl (fun a i => smPut a i ⟨u.slotHandle d c.slot, m'.gb rIdentity, true, u.devTime d, 0⟩) rest }
        ∧ (n = (if m'.g rTt ≠ tt ∨ m'.g rSlot ≠ sn then (m'.p rSamples 0).p rTtState 1 else m')))
    ∧ (∃ (s t u : State) (d : Nat) (c : Cmd) (m m' : MRec), s.isL d = true ∧ s.nextCmd d 0x11 = some c ∧ s.recWaits d c = false
        ∧ s.arcFull d = false ∧ s.fetch d c.slot = (some m, t) ∧ t.current d c.slot m = (u, m') ∧ m'.g rState ≠ 0 ∧ m'.g rTt ≠
        0xFF)
    ∧ (∃ (s t u : State) (d i : Nat) (c : Cmd) (m m' : MRec) (x : HallPass), s.isL d = true ∧ s.nextCmd d 0x12 = some c ∧
        s.recWaits d c = false ∧ s.arcFull d = false ∧ s.fetch d c.slot = (some m, t) ∧ t.current d c.slot m = (u, m') ∧ m'.g
        rState ≠ 0 ∧ u.hallOf d (u.slotHandle d c.slot) = none ∧ (List.range 65536).find? (fun i => (smGet (u.ttTab d).halls
        i).isNone) = some i ∧ x = ⟨u.slotHandle d c.slot, c.op 16 8, c.op 24 2, c.op 26 1, c.op 27 1⟩)
    ∧ (∃ (s t u : State) (d i : Nat) (c : Cmd) (m m' : MRec) (x old : HallPass), s.isL d = true ∧ s.nextCmd d 0x12 = some c ∧
        s.recWaits d c = false ∧ s.arcFull d = false ∧ s.fetch d c.slot = (some m, t) ∧ t.current d c.slot m = (u, m') ∧ m'.g
        rState ≠ 0 ∧ u.hallOf d (u.slotHandle d c.slot) = some (i, old) ∧ x = ⟨u.slotHandle d c.slot, c.op 16 8, c.op 24 2, c.op
        26 1, c.op 27 1⟩)
    ∧ (∃ (s t u : State) (d i : Nat) (c : Cmd) (m m' : MRec) (x : HallPass), s.isL d = true ∧ s.nextCmd d 0x13 = some c ∧
        s.recWaits d c = false ∧ s.arcFull d = false ∧ s.fetch d c.slot = (some m, t) ∧ t.current d c.slot m = (u, m') ∧ m'.g
        rState ≠ 0 ∧ u.hallOf d (u.slotHandle d c.slot) = some (i, x)) :=
  ⟨⟨{ on with ttPub := [(0, tt0)] }, _, 0, 0, tt0, ⟨(by decide +kernel), (by decide +kernel), rfl⟩⟩,
   ⟨(ttOf (recAt on 0 0 rec1) { params := [(0, tt1)], assign := [(1, asg0)] }), _, _, _, _, _, 0, 0, 0, 0, 1, 0, 1, tt1, asg0,
       rec1, _, _, _, ⟨(by decide +kernel), (by decide +kernel), (by decide +kernel), (by decide +kernel), (by decide +kernel),
       (by decide +kernel), (by decide +kernel), (by decide +kernel), (by decide +kernel), (by decide +kernel),
       (by decide +kernel), (by decide +kernel), fetchRec rfl (by decide +kernel) rec1_ok, (by decide +kernel),
       (by decide +kernel), rfl, Prod.mk.eta.symm, Prod.mk.eta, Prod.mk.eta⟩⟩,
   ⟨(ttOf (recAt on 0 0 rec2) { params := [(0, tt1)], assign := [(1, asg0)] }), _, _, 0, 0, 0, 0, 1, 0, 1, tt1, asg0, rec2,
       ⟨(by decide +kernel), (by decide +kernel), (by decide +kernel), (by decide +kernel), (by decide +kernel),
       (by decide +kernel), (by decide +kernel), (by decide +kernel), (by decide +kernel), (by decide +kernel),
       (by decide +kernel), (by decide +kernel), fetchRec rfl (by decide +kernel) rec2_ok, (by decide +kernel),
       (by decide +kernel), (by decide +kernel), rfl⟩⟩,
   ⟨(ttOf (recCmd rec1 0x10 [(16, 1, 1), (18, 2, 1), (22, 2, 1)]) { params := [(1, tt0)] }), _, _, _, 0, 1, 1, 0, 1, (cmdOf 0
       0x10 [(16, 1, 1), (18, 2, 1), (22, 2, 1)]), rec1, _, _, tt0, _, ⟨(by decide +kernel), (by decide +kernel),
       (by decide +kernel), (by decide +kernel), fetchRec rfl (by decide +kernel) rec1_ok, Prod.mk.eta.symm,
       (by decide +kernel), (by decide +kernel), (by decide +kernel), (by decide +kernel), (by decide +kernel),
       (by decide +kernel), (by decide +kernel), (by decide +kernel), (by decide +kernel), (by decide +kernel),
       (by decide +kernel), (by decide +kernel), (by decide +kernel), (by decide +kernel), (by decide +kernel), rfl,
       (by decide +kernel), rfl, rfl⟩⟩,
   ⟨(recCmd rec1 0x11 []), _, _, 0, (cmdOf 0 0x11 []), rec1, _, ⟨(by decide +kernel), (by decide +kernel), (by decide +kernel),
       (by decide +kernel), fetchRec rfl (by decide +kernel) rec1_ok, Prod.mk.eta.symm, (by decide +kernel),
       (by decide +kernel)⟩⟩,
   ⟨(recCmd rec1 0x12 []), _, _, 0, _, (cmdOf 0 0x12 []), rec1, _, _, ⟨(by decide +kernel), (by decide +kernel),
       (by decide +kernel), (by decide +kernel), fetchRec rfl (by decide +kernel) rec1_ok, Prod.mk.eta.symm,
       (by decide +kernel), (by decide +kernel), (Option.some_get (by decide +kernel)).symm, rfl⟩⟩,
   ⟨(ttOf (recCmd rec1 0x12 []) { halls := [(0, ⟨0, 0, 1, 1, 0⟩)] }), _, _, 0, 0, (cmdOf 0 0x12 []), rec1, _, _, ⟨0, 0, 1, 1,
       0⟩, ⟨(by decide +kernel), (by decide +kernel), (by decide +kernel), (by decide +kernel), fetchRec rfl (by decide +kernel)
       rec1_ok, Prod.mk.eta.symm, (by decide +kernel), (by decide +kernel), rfl⟩⟩,
   ⟨(ttOf (recCmd rec1 0x13 []) { halls := [(0, ⟨0, 0, 1, 1, 0⟩)] }), _, _, 0, 0, (cmdOf 0 0x13 []), rec1, _, ⟨0, 0, 1, 1, 0⟩,
       ⟨(by decide +kernel), (by decide +kernel), (by decide +kernel), (by decide +kernel), fetchRec rfl (by decide +kernel)
       rec1_ok, Prod.mk.eta.symm, (by decide +kernel), (by decide +kernel)⟩⟩⟩

/-- Values that meet the hypotheses of Obligations.BalanceRowsComplete, clause by clause. -/
theorem witness_BalanceRowsComplete_part1 :
    (∃ (s t : State) (d : Nat) (m : LedMsg) (x : Contrib), s.isL d = true ∧ s.takeLed d (fun b => b.cls == 6) = some (m, t) ∧
        m.body = .contrib x)
    ∧ (∃ (s : State) (d g : Nat) (x : Group), s.isL d = true ∧ s.group d g = some x ∧ s.get d BAL_STAT_state = 1 ∧ x.stopped =
        false ∧ s.serving d = true ∧ s.arcFull d = false ∧ (((s.evalNext d g x).2.2.2.findingDue (s.evalNext d g x).2.1 = true →
        s.balUsed d < 1024)) ∧ s.evalDue d x (x.lastEval + 1) ≤ s.lt d)
    ∧ (∃ (s t : State) (d op role st h ref tag : Nat) (tam : Bytes) (m : LedMsg) (f f' : Finding) (x : Group), s.isL d = true ∧
        s.takeLed d LedBody.isCorrelation = some (m, t) ∧ m.body = .response op role st h ref tag tam ∧ (t.l d).findings.find?
        (fun f => f.tag == tag) = some f ∧ t.group d f.group = some x ∧ f.waiting.filter (fun y => y != fabHandle m.src h) = []
        ∧ f' =
        { f with waiting := [], tampered := if st == 0 && t.tamperedIn d f x.gLen tam then f.tampered ++ [fabHandle m.src h] else f.tampered })
    ∧ (∃ (s : State) (d : Nat) (f : Finding), s.isL d = true ∧ (s.l d).findings.find? (fun f => s.due (f.since + 100000000)) =
        some f)
    ∧ (∃ (s t : State) (d : Nat) (p : Packet) (r : List Packet), s.isL d = true ∧ (s.l d).balOut = p :: r ∧ s.judge d p.cls 1
        p.len noHandle = none ∧ t = s.setL d (s.l d).balPop)
    ∧ (∃ (s : State) (d reason : Nat) (p : Packet) (r : List Packet), s.isL d = true ∧ (s.l d).balOut = p :: r ∧ s.judge d p.cls
        1 p.len noHandle = some reason) :=
  ⟨⟨{ on with ledMsgs := [⟨0, 0, .contrib ⟨true, false, false, false, 0, 0, 0, 0, 0⟩⟩] }, on, 0, ⟨0, 0, .contrib ⟨true, false,
      false, false, 0, 0, 0, 0, 0⟩⟩, ⟨true, false, false, false, 0, 0, 0, 0, 0⟩, ⟨(by decide +kernel), (by decide +kernel),
      (by decide +kernel)⟩⟩,
   ⟨(grpOn ((on.put 0 BAL_STAT_state 1).setLed 0 { on.led 0 with lt := 10 ^ 21 }) {}), 0, 0, {}, ⟨(by decide +kernel),
       (by decide +kernel), (by decide +kernel), (by decide +kernel), (by decide +kernel), (by decide +kernel),
       (by decide +kernel), (by decide +kernel)⟩⟩,
⟨{ (findOn (grpOn on {}) { group := 0, kind := 1, n := 0, since := 0, flags := 0, runLen := 1, runStart := 0, sumL := 0, sumH := 0, tag := 5, waiting := [0] }) with ledMsgs := [⟨0, 0, .response 0xC3 0 1 0 0 5 []⟩] },
       (findOn (grpOn on {})
       { group := 0, kind := 1, n := 0, since := 0, flags := 0, runLen := 1, runStart := 0, sumL := 0, sumH := 0, tag := 5, waiting := [0] }),
       0, 0xC3, 0, 1, 0, 0, 5, [], ⟨0, 0, .response 0xC3 0 1 0 0 5 []⟩,
       { group := 0, kind := 1, n := 0, since := 0, flags := 0, runLen := 1, runStart := 0, sumL := 0, sumH := 0, tag := 5, waiting := [0] },
       _, {}, ⟨(by decide +kernel), (by decide +kernel), (by decide +kernel), (by decide +kernel), (by decide +kernel),
       (by decide +kernel), rfl⟩⟩,
   ⟨(findOn on
       { group := 0, kind := 1, n := 0, since := 0, flags := 0, runLen := 1, runStart := 0, sumL := 0, sumH := 0, tag := 5, waiting := [0] }),
       0,
       { group := 0, kind := 1, n := 0, since := 0, flags := 0, runLen := 1, runStart := 0, sumL := 0, sumH := 0, tag := 5, waiting := [0] },
       ⟨(by decide +kernel), (by decide +kernel)⟩⟩,
   ⟨(on.put 0 QUE_n_STAT_state 1).setL 0 { on.l 0 with balOut := [pkt0] }, _, 0, pkt0, [], ⟨(by decide +kernel),
       (by decide +kernel), (by decide +kernel), rfl⟩⟩,
   ⟨(on.setL 0 { on.l 0 with balOut := [pkt0] }), 0, 0x0A01, pkt0, [], ⟨(by decide +kernel), (by decide +kernel),
       (by decide +kernel)⟩⟩⟩

/-- Values that meet the hypotheses of Obligations.BalanceRowsComplete, clause by clause. -/
theorem witness_BalanceRowsComplete_part2 :
    (∃ (s t : State) (d : Nat), s.isL d = true ∧ t = s.putB d BAL_CTRL_enable false ∧ t.get d BAL_STAT_state = 1)
    ∧ (∃ (s t u : State) (d role h ref gl tag : Nat) (q : LedMsg) (m : MRec), s.isL d = true ∧ s.takeLed d LedBody.isRequest =
        some (q, t) ∧ q.body = .request 0x43 role h ref gl tag ∧ t.handleOk h = true ∧ t.handleDie h = some d ∧ t.fetch d (h % 2
        ^ 20) = (some m, u))
    ∧ (∃ (s t u v : State) (d op role h ref gl tag st : Nat) (q : LedMsg) (m : MRec), s.isL d = true ∧ s.takeLed d
        LedBody.isRequest = some (q, t) ∧ q.body = .request op role h ref gl tag ∧ (op = 0x41 ∨ op = 0x42) ∧ t.handleOk h = true
        ∧ t.handleDie h = some d ∧ t.fetch d (h % 2 ^ 20) = (some m, u) ∧ (if op = 0x41 then u.attach d (h % 2 ^ 20) m (role ==
        1) ⟨ref % 2 ^ 11, bits ref 26 11, gl⟩ else u.detach d (h % 2 ^ 20) m (role == 1) (ref % 2 ^ 11) (bits ref 26 11)) = (v,
        some st))
    ∧ (∃ (s t : State) (d role h ref tag : Nat) (tam : Bytes) (m : LedMsg) (w : BalWait), s.isL d = true ∧ s.takeLed d
        LedBody.isWriteAnswer = some (m, t) ∧ m.body = .response 0xC1 role 0 h ref tag tam ∧ (t.l d).balWaits.find? (fun w =>
        w.tag == tag && decide ((⟨fabHandle m.src h, bits ref 26 11, role == 1⟩ : LedAccess) ∈ w.waiting)) = some w ∧
        w.waiting.erase ⟨fabHandle m.src h, bits ref 26 11, role == 1⟩ = [] ∧ w.status = 0)
    ∧ (∃ (s : State) (d : Nat) (w : BalWait), s.isL d = true ∧ (s.l d).balWaits.find? (fun w => s.due (w.since + 100000000)) =
        some w ∧ w.op ≠ 0x31)
    ∧ (∃ (s t : State) (d : Nat) (w : BalWait), s.isL d = true ∧ (s.l d).balWaits.find? (fun w => s.due (w.since + 100000000)) =
        some w ∧ w.op = 0x31 ∧ t = s.setBal d
        { s.bal d with detaches := (s.bal d).detaches ++ w.waiting.map (fun a => (a, s.now)) }) :=
  ⟨⟨(on.put 0 BAL_STAT_state 1), _, 0, ⟨(by decide +kernel), rfl, (by decide +kernel)⟩⟩,
   ⟨(ledOn (recAt on 0 0 rec1) (.request 0x43 0 0 0 0 0)), (recAt on 0 0 rec1), (recAt on 0 0 rec1), 0, 0, 0, 0, 0, 0, ⟨0, 0,
       .request 0x43 0 0 0 0 0⟩, rec1, ⟨(by decide +kernel), (by decide +kernel), (by decide +kernel), (by decide +kernel),
       (by decide +kernel), fetchRec rfl (by decide +kernel) rec1_ok⟩⟩,
   ⟨{ (recAt on 0 0 rec1) with ledMsgs := [⟨0, 0, .request 0x41 0 0 0 15 0⟩] }, (recAt on 0 0 rec1), (recAt on 0 0 rec1), _, 0,
       0x41, 0, 0, 0, 15, 0, 0, ⟨0, 0, .request 0x41 0 0 0 15 0⟩, rec1, ⟨(by decide +kernel), (by decide +kernel),
       (by decide +kernel), (by decide +kernel), (by decide +kernel), (by decide +kernel), fetchRec rfl (by decide +kernel)
       rec1_ok, pairSnd (by decide +kernel)⟩⟩,
⟨{ on.setL 0 { on.l 0 with balWaits := [{ cmd := 0, op := 0x32, group := 0, handle := 0, tag := 5, since := 0, waiting := [⟨0, 0, false⟩] }] } with ledMsgs := [⟨0, 0, .response 0xC1 0 0 0 0 5 []⟩] },
       (on.setL 0
       { on.l 0 with balWaits := [{ cmd := 0, op := 0x32, group := 0, handle := 0, tag := 5, since := 0, waiting := [⟨0, 0, false⟩] }] }),
       0, 0, 0, 0, 5, [], ⟨0, 0, .response 0xC1 0 0 0 0 5 []⟩,
       { cmd := 0, op := 0x32, group := 0, handle := 0, tag := 5, since := 0, waiting := [⟨0, 0, false⟩] },
       ⟨(by decide +kernel), (by decide +kernel), (by decide +kernel), (by decide +kernel), (by decide +kernel),
       (by decide +kernel)⟩⟩,
   ⟨(on.setL 0
       { on.l 0 with balWaits := [{ cmd := 0, op := 0x32, group := 0, handle := 0, tag := 5, since := 0, waiting := [⟨0, 0, false⟩] }] }),
       0, { cmd := 0, op := 0x32, group := 0, handle := 0, tag := 5, since := 0, waiting := [⟨0, 0, false⟩] },
       ⟨(by decide +kernel), (by decide +kernel), (by decide +kernel)⟩⟩,
   ⟨(on.setL 0
       { on.l 0 with balWaits := [{ cmd := 0, op := 0x31, group := 0, handle := 0, tag := 5, since := 0, waiting := [⟨0, 0, false⟩] }] }),
       _, 0, { cmd := 0, op := 0x31, group := 0, handle := 0, tag := 5, since := 0, waiting := [⟨0, 0, false⟩] },
       ⟨(by decide +kernel), (by decide +kernel), (by decide +kernel), rfl⟩⟩⟩

/-- Values that meet the hypotheses of Obligations.BalanceRowsComplete, clause by clause. -/
theorem witness_BalanceRowsComplete_part3 : ∃ (s t : State) (d : Nat) (l : List (LedAccess × Nat)), s.isL d = true ∧ l = (s.bal
    d).detaches.filter (fun e => s.isMember d (e.1.handle / 2 ^ 24)) ∧ t = s.setBal d
    { s.bal d with detaches := l.map (fun e => if s.due (e.2 + 1000000000) then (e.1, s.now) else e) } :=
  ⟨on, _, 0, _, ⟨(by decide +kernel), rfl, rfl⟩⟩

/-- Values that meet the hypotheses of Obligations.BalanceCommandsComplete, clause by clause. -/
theorem witness_BalanceCommandsComplete_part1 :
    (∃ (s t : State) (d g : Nat) (c : Cmd) (x : Group), s.isL d = true ∧ s.nextCmd d 0x30 = some c ∧ c.op 16 2 = g ∧ c.op 18 1 =
        0 ∧ c.op 20 4 = noHandle ∧ x =
        { settle := c.op 19 1, gLen := c.op 32 2, persist := c.op 34 1, stepK := c.op 35 1, lossThr := c.op 36 4, negThr := c.op 40 4, absMin := c.op 44 4, estMax := c.op 48 1, hostTag := slice c.entry 56 8, list := g }
        ∧ groupOk x g = true ∧ s.group d g = none ∧ t = s.setGroup d g
        { x with head := noHandle, kind := 0, lastEval := gInt x.gLen (s.tai d) (s.ltSec d) - 1 })
    ∧ (∃ (s t : State) (d g fh : Nat) (c : Cmd) (x : Group), s.isL d = true ∧ s.nextCmd d 0x30 = some c ∧ c.op 16 2 = g ∧ c.op
        18 1 = 0 ∧ c.op 20 4 = fh ∧ fh ≠ noHandle ∧ s.fhStatus d fh = 0 ∧ x =
        { settle := c.op 19 1, gLen := c.op 32 2, persist := c.op 34 1, stepK := c.op 35 1, lossThr := c.op 36 4, negThr := c.op 40 4, absMin := c.op 44 4, estMax := c.op 48 1, hostTag := slice c.entry 56 8, list := g }
        ∧ groupOk x g = true ∧ s.group d g = none ∧ t = (s.setGroup d g
        { x with head := fh, kind := 0, lastEval := gInt x.gLen (s.tai d) (s.ltSec d) - 1 }).balWait d c 0x30 g 0 [⟨fh, g,
        true⟩])
    ∧ (∃ (s t u : State) (d g : Nat) (c : Cmd) (x : Group), s.isL d = true ∧ s.nextCmd d 0x31 = some c ∧ c.op 16 2 = g ∧ s.group
        d g = some x ∧ x.kind = 0 ∧ (s.l d).findings.any (fun f => g == f.group) = false ∧ x.members = [] ∧ x.head = noHandle ∧
        t = (if x.open_ = 0 then s else s.issueFinding d 4 x.runFlags g x.runLen x.runStart x.lastEval (findingSums x.sumL
        x.sumH) [] noHandle) ∧ u = t.setBal d { t.bal d with groups := smDel (t.bal d).groups g })
    ∧ (∃ (s t u : State) (d g : Nat) (c : Cmd) (x : Group) (all : List LedAccess), s.isL d = true ∧ s.nextCmd d 0x31 = some c ∧
        c.op 16 2 = g ∧ s.group d g = some x ∧ x.kind = 0 ∧ (s.l d).findings.any (fun f => g == f.group) = false ∧ x.head ≠
        noHandle ∧ all = ⟨x.head, g, true⟩ :: x.members.map (fun m => LedAccess.mk m.handle g false) ∧ t = (if x.open_ = 0 then
        s else s.issueFinding d 4 x.runFlags g x.runLen x.runStart x.lastEval (findingSums x.sumL x.sumH) [] noHandle) ∧ u =
        t.setBal d { t.bal d with groups := smDel (t.bal d).groups g })
    ∧ (∃ (s t : State) (d g fh b : Nat) (c : Cmd) (x : Group), s.isL d = true ∧ s.nextCmd d 0x32 = some c ∧ c.op 16 2 = g ∧ c.op
        20 4 = fh ∧ s.group d g = some x ∧ s.fhStatus d fh = 0 ∧ baseOf g x = b ∧ (s.membersOf d g x).length < 16384 ∧
        s.poolUsed d < 2097152 ∧ (s.membersOf d g x).any (fun m => m.handle == fh) = false ∧ t = (s.setMembers d b (s.membersOf
        d g x ++ [{ handle := fh }])).balWait d c 0x32 b fh [⟨fh, b, false⟩])
    ∧ (∃ (s t : State) (d g fh b : Nat) (c : Cmd) (x : Group), s.isL d = true ∧ s.nextCmd d 0x33 = some c ∧ c.op 16 2 = g ∧ c.op
        20 4 = fh ∧ s.group d g = some x ∧ s.fhStatus d fh = 0 ∧ baseOf g x = b ∧ (s.membersOf d g x).any (fun m => m.handle ==
        fh) = true ∧ t = (s.setMembers d b ((s.membersOf d g x).filter (fun m => m.handle != fh))).balWait d c 0x33 b fh [⟨fh,
        b, false⟩]) :=
  ⟨⟨(inCmd on 0 0x30 [(19, 1, 1), (20, 4, noHandle), (32, 2, 15), (34, 1, 1)]), _, 0, _, (cmdOf 0 0x30 [(19, 1, 1), (20, 4,
      noHandle), (32, 2, 15), (34, 1, 1)]), _, ⟨(by decide +kernel), (by decide +kernel), rfl, (by decide +kernel),
      (by decide +kernel), rfl, (by decide +kernel), (by decide +kernel), rfl⟩⟩,
   ⟨(inCmd on 0 0x30 [(19, 1, 1), (32, 2, 15), (34, 1, 1)]), _, 0, _, _, (cmdOf 0 0x30 [(19, 1, 1), (32, 2, 15), (34, 1, 1)]),
       _, ⟨(by decide +kernel), (by decide +kernel), rfl, (by decide +kernel), rfl, (by decide +kernel), (by decide +kernel),
       rfl, (by decide +kernel), (by decide +kernel), rfl⟩⟩,
   ⟨(grpOn (inCmd on 0 0x31 []) {}), _, _, 0, _, (cmdOf 0 0x31 []), {}, ⟨(by decide +kernel), (by decide +kernel), rfl,
       (by decide +kernel), (by decide +kernel), (by decide +kernel), (by decide +kernel), (by decide +kernel), rfl, rfl⟩⟩,
   ⟨(grpOn (inCmd on 0 0x31 []) { head := 0 }), _, _, 0, _, (cmdOf 0 0x31 []), { head := 0 }, _, ⟨(by decide +kernel),
       (by decide +kernel), rfl, (by decide +kernel), (by decide +kernel), (by decide +kernel), (by decide +kernel), rfl, rfl,
       rfl⟩⟩,
   ⟨(grpOn (inCmd on 0 0x32 []) {}), _, 0, _, _, _, (cmdOf 0 0x32 []), {}, ⟨(by decide +kernel), (by decide +kernel), rfl, rfl,
       (by decide +kernel), (by decide +kernel), rfl, (by decide +kernel), (by decide +kernel), (by decide +kernel), rfl⟩⟩,
   ⟨(grpOn (inCmd on 0 0x33 []) { members := [{ handle := 0 }] }), _, 0, _, _, _, (cmdOf 0 0x33 []),
       { members := [{ handle := 0 }] }, ⟨(by decide +kernel), (by decide +kernel), rfl, rfl, (by decide +kernel),
       (by decide +kernel), rfl, (by decide +kernel), rfl⟩⟩⟩

/-- Values that meet the hypotheses of Obligations.BalanceCommandsComplete, clause by clause. -/
theorem witness_BalanceCommandsComplete_part2 :
    (∃ (s t : State) (d g fh : Nat) (c : Cmd) (x : Group), s.isL d = true ∧ s.nextCmd d 0x34 = some c ∧ c.op 16 2 = g ∧ c.op 20
        4 = fh ∧ s.group d g = some x ∧ fh ≠ noHandle ∧ s.fhStatus d fh = 0 ∧ x.head = noHandle ∧ t = (s.setGroup d g
        { x with head := fh }).balWait d c 0x34 g fh [⟨fh, g, true⟩])
    ∧ (∃ (s t : State) (d g fh : Nat) (c : Cmd) (x : Group), s.isL d = true ∧ s.nextCmd d 0x34 = some c ∧ c.op 16 2 = g ∧ c.op
        20 4 = fh ∧ s.group d g = some x ∧ fh ≠ noHandle ∧ s.fhStatus d fh = 0 ∧ x.head ≠ noHandle ∧ x.head ≠ fh ∧ t =
        (s.setGroup d g { x with head := fh }).balWait d c 0x34 g fh [⟨x.head, g, true⟩, ⟨fh, g, true⟩])
    ∧ (∃ (s : State) (d g : Nat) (c : Cmd) (x : Group), s.isL d = true ∧ s.nextCmd d 0x35 = some c ∧ c.op 16 2 = g ∧ s.group d g
        = some x)
    ∧ (∃ (s : State) (d g : Nat) (c : Cmd) (x : Group), s.isL d = true ∧ s.nextCmd d 0x36 = some c ∧ c.op 16 2 = g ∧ s.group d g
        = some x) :=
  ⟨⟨(grpOn (inCmd on 0 0x34 []) {}), _, 0, _, _, (cmdOf 0 0x34 []), {}, ⟨(by decide +kernel), (by decide +kernel), rfl, rfl,
      (by decide +kernel), (by decide +kernel), (by decide +kernel), (by decide +kernel), rfl⟩⟩,
   ⟨(grpOn (inCmd on 0 0x34 [(20, 4, 1)]) { head := 0 }), _, 0, _, 1, (cmdOf 0 0x34 [(20, 4, 1)]), { head := 0 },
       ⟨(by decide +kernel), (by decide +kernel), rfl, (by decide +kernel), (by decide +kernel), (by decide +kernel),
       (by decide +kernel), (by decide +kernel), (by decide +kernel), rfl⟩⟩,
   ⟨(grpOn (inCmd on 0 0x35 []) {}), 0, _, (cmdOf 0 0x35 []), {}, ⟨(by decide +kernel), (by decide +kernel), rfl,
       (by decide +kernel)⟩⟩,
   ⟨(grpOn (inCmd on 0 0x36 []) {}), 0, _, (cmdOf 0 0x36 []), {}, ⟨(by decide +kernel), (by decide +kernel), rfl,
       (by decide +kernel)⟩⟩⟩

/-- Values that meet the hypotheses of Obligations.RingsComplete, clause by clause. -/
theorem witness_RingsComplete_part1 :
    (∃ (s t : State) (g : Nat), s.isPort 0 = true ∧ g < 256 ∧ s.get 0 HIF_GRPn_STAT_cq_state g = 0 ∧ 6 ≤ s.get 0
        HIF_GRPn_SIZE_cq_log2 g ∧ s.get 0 HIF_GRPn_SIZE_cq_log2 g ≤ 16 ∧ s.cqBase g % 4096 = 0 ∧ t = ((s.putB 0
        HIF_GRPn_STAT_cfg_error false g).put 0 HIF_GRPn_STAT_error 0 g).put 0 HIF_GRPn_STAT_cq_state 1 g)
    ∧ (∃ (s t : State) (g : Nat), s.isPort 0 = true ∧ g < 256 ∧ s.get 0 HIF_GRPn_STAT_sq_state g = 0 ∧ 6 ≤ s.get 0
        HIF_GRPn_SIZE_sq_log2 g ∧ s.get 0 HIF_GRPn_SIZE_sq_log2 g ≤ 16 ∧ s.sqBase g % 4096 = 0 ∧ s.get 0 HIF_GRPn_CTRL_sq_kind g
        ≠ 0 ∧ t = ((s.putB 0 HIF_GRPn_STAT_cfg_error false g).put 0 HIF_GRPn_STAT_error 0 g).put 0 HIF_GRPn_STAT_sq_state 1 g)
    ∧ (∃ (s : State) (p g v : Nat), s.isPort p = true ∧ s.pageOf p g = true ∧ s.get 0 HIF_GRPn_STAT_sq_state g = 1 ∧ v <
        s.sqSize g ∧ s.sqCount g + (v + s.sqSize g - (s.grp g).sqTail) % s.sqSize g ≤ s.sqSize g - 1)
    ∧ (∃ (s : State) (p g v : Nat), s.isPort p = true ∧ s.pageOf p g = true ∧ s.get 0 HIF_GRPn_STAT_cq_state g = 1 ∧ v <
        s.cqSize g ∧ (v + s.cqSize g - (s.grp g).cqHead) % s.cqSize g ≤ s.cqUsed g)
    ∧ (∃ (s t : State) (g d : Nat) (e : Bytes), s.isPort (s.groupPort g) = true ∧ g < 256 ∧ s.sqCount g ≠ 0 ∧ s.linkUp
        (s.groupPort g) = true ∧ 3 ≤ s.get (s.groupPort g) SYS_BOOT_stage ∧ s.get 0 HIF_GRPn_STAT_sq_state g = 1 ∧ s.dispatch g
        e = .inr d ∧ ((leField e 0 1 = 0x81 → s.slotsUsed d < 64)) ∧ t = s.sqAdvance g)
    ∧ (∃ (s : State) (g status : Nat) (e : Bytes), s.isPort (s.groupPort g) = true ∧ g < 256 ∧ s.sqCount g ≠ 0 ∧ s.linkUp
        (s.groupPort g) = true ∧ 3 ≤ s.get (s.groupPort g) SYS_BOOT_stage ∧ s.get 0 HIF_GRPn_STAT_sq_state g = 1 ∧ s.dispatch g
        e = .inl status) :=
  ⟨⟨(on.put 0 HIF_GRPn_SIZE_cq_log2 8), _, 0, ⟨(by decide +kernel), (by decide +kernel), (by decide +kernel),
      (by decide +kernel), (by decide +kernel), (by decide +kernel), rfl⟩⟩,
   ⟨(puts on [(0, HIF_GRPn_SIZE_sq_log2, 8), (0, HIF_GRPn_CTRL_sq_kind, 1)]), _, 0, ⟨(by decide +kernel), (by decide +kernel),
       (by decide +kernel), (by decide +kernel), (by decide +kernel), (by decide +kernel), (by decide +kernel), rfl⟩⟩,
   ⟨(puts on [(0, HIF_STAT_a_up, 1), (0, HIF_GRPn_STAT_cq_state, 1), (0, HIF_GRPn_SIZE_cq_log2, 8), (0, HIF_GRPn_STAT_sq_state,
       1), (0, HIF_GRPn_SIZE_sq_log2, 8)]), 0, 0, 0, ⟨(by decide +kernel), (by decide +kernel), (by decide +kernel),
       (by decide +kernel), (by decide +kernel)⟩⟩,
   ⟨(puts on [(0, HIF_STAT_a_up, 1), (0, HIF_GRPn_STAT_cq_state, 1), (0, HIF_GRPn_SIZE_cq_log2, 8), (0, HIF_GRPn_STAT_sq_state,
       1), (0, HIF_GRPn_SIZE_sq_log2, 8)]), 0, 0, 0, ⟨(by decide +kernel), (by decide +kernel), (by decide +kernel),
       (by decide +kernel), (by decide +kernel)⟩⟩,
   ⟨(grpHost (puts on [(0, HIF_STAT_a_up, 1), (0, HIF_GRPn_STAT_cq_state, 1), (0, HIF_GRPn_SIZE_cq_log2, 8), (0,
       HIF_GRPn_SIZE_sq_log2, 8), (0, HIF_GRPn_STAT_sq_state, 1), (0, HIF_GRPn_CTRL_sq_kind, 1)]) { sqTail := 1 }), _, 0, 0,
       (putBytes (fillBytes 64 0) 0 (leBytes 1 0x70)), ⟨(by decide +kernel), (by decide +kernel), (by decide +kernel),
       (by decide +kernel), (by decide +kernel), (by decide +kernel), (by decide +kernel), fun h => absurd h
       (by decide +kernel), rfl⟩⟩,
   ⟨(grpHost (puts on [(0, HIF_STAT_a_up, 1), (0, HIF_GRPn_STAT_cq_state, 1), (0, HIF_GRPn_SIZE_cq_log2, 8), (0,
       HIF_GRPn_SIZE_sq_log2, 8), (0, HIF_GRPn_STAT_sq_state, 1), (0, HIF_GRPn_CTRL_sq_kind, 1)]) { sqTail := 1 }), 0, 0x0101,
       (fillBytes 64 0), ⟨(by decide +kernel), (by decide +kernel), (by decide +kernel), (by decide +kernel),
       (by decide +kernel), (by decide +kernel), (by decide +kernel)⟩⟩⟩

/-- Values that meet the hypotheses of Obligations.RingsComplete, clause by clause. -/
theorem witness_RingsComplete_part2 :
    (∃ (s : State) (g : Nat), s.isPort (s.groupPort g) = true ∧ g < 256 ∧ s.sqCount g ≠ 0 ∧ s.linkUp (s.groupPort g) = true ∧ 3
        ≤ s.get (s.groupPort g) SYS_BOOT_stage ∧ s.get 0 HIF_GRPn_STAT_sq_state g = 2 ∧ s.hif.inflight.any (fun c => c.group ==
        g) = false)
    ∧ (∃ (s t : State) (d g : Nat) (e : Bytes), s.isL d = true ∧ g < 256 ∧ leField e 0 1 = 0x81 ∧ s.slotsUsed d < 64 ∧ s.sqCount
        g ≠ 0 ∧ s.linkUp (s.groupPort g) = true ∧ 3 ≤ s.get (s.groupPort g) SYS_BOOT_stage ∧ s.get 0 HIF_GRPn_STAT_sq_state g =
        1 ∧ s.dispatch g e = .inr d ∧ t = s.sqAdvance g)
    ∧ (∃ (s t : State) (g : Nat) (c : Cpl) (r : List Cpl), s.isPort (s.groupPort g) = true ∧ g < 256 ∧ t = s.evtDeliver ∧ (t.grp
        g).waiting = c :: r ∧ t.cqRoom g (1 + c.exts.length) = true)
    ∧ (∃ (s t : State) (g : Nat) (w : EvtWait), s.isPort (s.groupPort g) = true ∧ g < 256 ∧ t = s.evtDeliver ∧ (t.grp g).waiting
        = [] ∧ t.hif.evtWait.find? (fun w => t.evtGroup w.port == some g) = some w ∧ t.cqRoom g 1 = true)
    ∧ (∃ (s : State) (g : Nat), s.isPort (s.groupPort g) = true ∧ g < 256 ∧ (s.grp g).unsig ≠ 0 ∧ (s.get 0 HIF_GRPn_MOD_count g
        ≤ (s.grp g).unsig ∨ (s.grp g).unsigNow = true))
    ∧ (∃ (s t u : State) (p v : Nat), s.isPort p = true ∧ v < 64 ∧ t =
        { s with hif := { s.hif with msixTable := smSet s.hif.msixTable 1 (256 * p + 4 * v + 3) (s.msixWord p v 3 / 2 * 2) } } ∧
        smGetD t.hif.msixPend false (64 * p + v) = true ∧ u =
        { t with hif := { t.hif with msixPend := smDel t.hif.msixPend (64 * p + v) } }) :=
  ⟨⟨(grpHost (puts on [(0, HIF_STAT_a_up, 1), (0, HIF_GRPn_STAT_cq_state, 1), (0, HIF_GRPn_SIZE_cq_log2, 8), (0,
      HIF_GRPn_SIZE_sq_log2, 8), (0, HIF_GRPn_STAT_sq_state, 2), (0, HIF_GRPn_CTRL_sq_kind, 1)]) { sqTail := 1 }), 0,
      ⟨(by decide +kernel), (by decide +kernel), (by decide +kernel), (by decide +kernel), (by decide +kernel),
      (by decide +kernel), (by decide +kernel)⟩⟩,
   ⟨(grpHost (puts on [(0, HIF_STAT_a_up, 1), (0, HIF_GRPn_STAT_cq_state, 1), (0, HIF_GRPn_SIZE_cq_log2, 8), (0,
       HIF_GRPn_SIZE_sq_log2, 8), (0, HIF_GRPn_STAT_sq_state, 1), (0, HIF_GRPn_CTRL_sq_kind, 3)]) { sqTail := 1 }), _, 0, 0,
       (fillBytes 64 0x81), ⟨(by decide +kernel), (by decide +kernel), (by decide +kernel), (by decide +kernel),
       (by decide +kernel), (by decide +kernel), (by decide +kernel), (by decide +kernel), (by decide +kernel), rfl⟩⟩,
   ⟨(grpHost (ringOn on) { waiting := [cpl0] }), _, 0, cpl0, [], ⟨(by decide +kernel), (by decide +kernel), rfl,
       (by decide +kernel), (by decide +kernel)⟩⟩,
   ⟨{ (puts (ringOn on) [(0, HIF_EVT_en_a, 1)]) with hif := { on.hif with evtWait := [⟨0, 0, 4, 1, 0, 0, 0⟩] } }, _, 0, ⟨0, 0,
       4, 1, 0, 0, 0⟩, ⟨(by decide +kernel), (by decide +kernel), rfl, (by decide +kernel), (by decide +kernel),
       (by decide +kernel)⟩⟩,
   ⟨(grpHost (ringOn on) { unsig := 1 }), 0, ⟨(by decide +kernel), (by decide +kernel), (by decide +kernel),
       (by decide +kernel)⟩⟩,
   ⟨{ on with hif := { on.hif with msixPend := [(0, true)] } }, _, _, 0, 0, ⟨(by decide +kernel), (by decide +kernel), rfl,
       (by decide +kernel), rfl⟩⟩⟩

/-- Values that meet the hypotheses of Obligations.RingsComplete, clause by clause. -/
theorem witness_RingsComplete_part3 :
    (∃ (s t : State) (p v : Nat), s.isPort p = true ∧ v < 64 ∧ t =
        { s with hif := { s.hif with msixTable := smSet s.hif.msixTable 1 (256 * p + 4 * v + 3) (s.msixWord p v 3 / 2 * 2) } } ∧
        smGetD t.hif.msixPend false (64 * p + v) = false)
    ∧ (∃ (s t : State) (g st : Nat), s.isPort 0 = true ∧ g < 256 ∧ s.get 0 HIF_GRPn_STAT_sq_state g = st ∧ (st = 1 ∨ st = 3) ∧ t
        = (s.putB 0 HIF_GRPn_CTRL_sq_enable false g).put 0 HIF_GRPn_STAT_sq_state 2 g)
    ∧ (∃ (s t : State) (g : Nat), s.isPort 0 = true ∧ g < 256 ∧ s.get 0 HIF_GRPn_STAT_cq_state g ≠ 0 ∧ s.get 0
        HIF_GRPn_STAT_sq_state g = 0 ∧ t = ((s.putB 0 HIF_GRPn_CTRL_cq_enable false g).put 0 HIF_GRPn_STAT_cq_state 0 g).putB 0
        HIF_GRPn_STAT_cfg_error false g)
    ∧ (∃ (s t : State) (g : Nat), s.isPort (s.groupPort g) = true ∧ g < 256 ∧ t = s.inc 0 HIF_DMA_ERR_CNT ∧ t.get 0
        HIF_GRPn_STAT_sq_state g ≠ 0)
    ∧ (∃ (s t : State) (g : Nat), s.isPort (s.groupPort g) = true ∧ g < 256 ∧ t = s.inc 0 HIF_DMA_ERR_CNT ∧ t.get 0
        HIF_GRPn_STAT_cq_state g ≠ 0)
    ∧ (∃ (s t : State) (g id : Nat), s.isPort (s.groupPort g) = true ∧ t = s.inc 0 HIF_DMA_ERR_CNT ∧ t.hif.longOps.any (fun o =>
        o.cmd == id) = true) :=
  ⟨⟨on, _, 0, 0, ⟨(by decide +kernel), (by decide +kernel), rfl, (by decide +kernel)⟩⟩,
   ⟨(puts on [(0, HIF_STAT_a_up, 1), (0, HIF_GRPn_STAT_cq_state, 1), (0, HIF_GRPn_SIZE_cq_log2, 8), (0, HIF_GRPn_SIZE_sq_log2,
       8), (0, HIF_GRPn_STAT_sq_state, 1), (0, HIF_GRPn_CTRL_sq_kind, 1)]), _, 0, 1, ⟨(by decide +kernel), (by decide +kernel),
       (by decide +kernel), (by decide +kernel), rfl⟩⟩,
   ⟨(ringOn on), _, 0, ⟨(by decide +kernel), (by decide +kernel), (by decide +kernel), (by decide +kernel), rfl⟩⟩,
   ⟨(puts on [(0, HIF_STAT_a_up, 1), (0, HIF_GRPn_STAT_cq_state, 1), (0, HIF_GRPn_SIZE_cq_log2, 8), (0, HIF_GRPn_STAT_sq_state,
       1), (0, HIF_GRPn_SIZE_sq_log2, 8)]), _, 0, ⟨(by decide +kernel), (by decide +kernel), rfl, (by decide +kernel)⟩⟩,
   ⟨(ringOn on), _, 0, ⟨(by decide +kernel), (by decide +kernel), rfl, (by decide +kernel)⟩⟩,
   ⟨{ on with hif := { on.hif with longOps := [{ cmd := 0, die := 0, opcode := 0x0B }] } }, _, 0, 0, ⟨(by decide +kernel), rfl,
       (by decide +kernel)⟩⟩⟩

/-- Values that meet the hypotheses of Obligations.RingsComplete, clause by clause. -/
theorem witness_RingsComplete_part4 : ∃ (s t : State) (g id : Nat), s.isPort (s.groupPort g) = true ∧ t = s.inc 0
    HIF_DMA_ERR_CNT ∧ t.hif.longOps.any (fun o => o.cmd == id) = false :=
  ⟨on, _, 0, 0, ⟨(by decide +kernel), rfl, (by decide +kernel)⟩⟩

/-- Values that meet the hypotheses of Obligations.HostOperationsComplete, clause by clause. -/
theorem witness_HostOperationsComplete_part1 :
    (∃ (s : State) (v : Nat), s.isPort 0 = true ∧ s.ringsIdle = true ∧ (s.nL ≠ 1 ∨ (v % 4 ≠ 1 ∧ v % 4 ≠ 2)))
    ∧ (∃ (s t u : State), s.isPort 0 = true ∧ s.linkUp 0 = true ∧ t = ((s.putB 0 HIF_STAT_a_up false).put 0 HIF_STAT_a_speed
        0).put 0 HIF_STAT_a_width 0 ∧ t.linkUp 1 = true ∧ u = t.raise 0 107 (arg 0 0) ∧ u.portMode = 1 ∧ u.get 0 HIF_STAT_active
        = 0 ∧ u.portPresent 1 = true)
    ∧ (∃ (s t u : State), s.isPort 1 = true ∧ s.linkUp 1 = true ∧ t = ((s.putB 0 HIF_STAT_b_up false).put 0 HIF_STAT_b_speed
        0).put 0 HIF_STAT_b_width 0 ∧ t.linkUp 0 = true ∧ u = t.raise 1 107 (arg 0 1) ∧ (u.portMode ≠ 1 ∨ u.get 0
        HIF_STAT_active ≠ 1))
    ∧ (∃ (s t : State) (speed width : Nat), s.isPort 0 = true ∧ s.linkUp 0 = false ∧ linkOk speed width = true ∧ t = ((s.putB 0
        HIF_STAT_a_up true).put 0 HIF_STAT_a_speed speed).put 0 HIF_STAT_a_width width)
    ∧ (∃ (s t : State) (speed width : Nat), s.isPort 1 = true ∧ s.linkUp 1 = false ∧ linkOk speed width = true ∧ t = ((s.putB 0
        HIF_STAT_b_up true).put 0 HIF_STAT_b_speed speed).put 0 HIF_STAT_b_width width)
    ∧ (∃ (s : State), s.isPort 0 = true ∧ s.portMode = 1 ∧ s.get 0 HIF_STAT_active = 1) :=
  ⟨⟨on, 0, ⟨(by decide +kernel), (by decide +kernel), (by decide +kernel)⟩⟩,
   ⟨(puts on [(0, HIF_STAT_a_up, 1), (0, HIF_STAT_b_up, 1), (0, HIF_PORT_mode, 1)]), _, _, ⟨(by decide +kernel),
       (by decide +kernel), rfl, (by decide +kernel), rfl, (by decide +kernel), (by decide +kernel), (by decide +kernel)⟩⟩,
   ⟨(puts on [(0, HIF_STAT_a_up, 1), (0, HIF_STAT_b_up, 1)]), _, _, ⟨(by decide +kernel), (by decide +kernel), rfl,
       (by decide +kernel), rfl, (by decide +kernel)⟩⟩,
   ⟨on, _, 4, 4, ⟨(by decide +kernel), (by decide +kernel), (by decide +kernel), rfl⟩⟩,
   ⟨on, _, 1, 1, ⟨(by decide +kernel), (by decide +kernel), (by decide +kernel), rfl⟩⟩,
   ⟨(puts on [(0, HIF_STAT_active, 1), (0, HIF_PORT_mode, 1)]), ⟨(by decide +kernel), (by decide +kernel),
       (by decide +kernel)⟩⟩⟩

/-- Values that meet the hypotheses of Obligations.HostOperationsComplete, clause by clause. -/
theorem witness_HostOperationsComplete_part2 :
    (∃ (s t : State) (d : Nat) (frame : Bytes) (c : Cmd) (m : MRec) (x : HostDl), d < s.nDies ∧ s.nextCmd d 0x80 = some c ∧ x =
        { cmd := c.id, handle := leField c.entry 8 4, flags := leField c.entry 1 1, path := leField c.entry 12 1, slot := leField c.entry 13 1, mode := leField c.entry 14 1, time := leField c.entry 16 8, bytes := slice frame 0 (leField c.entry 2 2), expires := c.fetched + (if leField c.entry 32 4 = 0 then 86400 else leField c.entry 32 4) * Config.tS }
        ∧ dlBad x (leField c.entry 2 2) = false ∧ x.flags % 4 = 0 ∧ x.handle ≠ noHandle ∧ s.dlWaiting x.handle = false ∧ s.fetch
        d c.slot = (some m, t) ∧ (bit x.flags 3 = false ∨ m.g rIdKind ≠ 1))
    ∧ (∃ (s t : State) (d : Nat) (frame : Bytes) (c : Cmd) (m : MRec) (x : HostDl), d < s.nDies ∧ s.nextCmd d 0x80 = some c ∧ x
        =
        { cmd := c.id, handle := leField c.entry 8 4, flags := leField c.entry 1 1, path := leField c.entry 12 1, slot := leField c.entry 13 1, mode := leField c.entry 14 1, time := leField c.entry 16 8, bytes := slice frame 0 (leField c.entry 2 2), expires := c.fetched + (if leField c.entry 32 4 = 0 then 86400 else leField c.entry 32 4) * Config.tS }
        ∧ dlBad x (leField c.entry 2 2) = false ∧ x.flags % 4 ≠ 0 ∧ s.isF (x.path % 8) = true ∧ s.dlModeBad x = false ∧ x.handle
        ≠ noHandle ∧ s.dlWaiting x.handle = false ∧ s.fetch d c.slot = (some m, t) ∧ bit x.flags 3 = false)
    ∧ (∃ (s : State) (d : Nat) (frame : Bytes) (c : Cmd) (x : HostDl), d < s.nDies ∧ s.nextCmd d 0x80 = some c ∧ x =
        { cmd := c.id, handle := leField c.entry 8 4, flags := leField c.entry 1 1, path := leField c.entry 12 1, slot := leField c.entry 13 1, mode := leField c.entry 14 1, time := leField c.entry 16 8, bytes := slice frame 0 (leField c.entry 2 2), expires := c.fetched + (if leField c.entry 32 4 = 0 then 86400 else leField c.entry 32 4) * Config.tS }
        ∧ dlBad x (leField c.entry 2 2) = false ∧ x.flags % 4 ≠ 0 ∧ s.isF (x.path % 8) = true ∧ s.dlModeBad x = false ∧ x.handle
        = noHandle)
    ∧ (∃ (s : State) (d : Nat) (x : HostDl), s.isF d = true ∧ s.hif.timed.find? (fun x => x.path % 8 == d && decide (x.time ≤
        s.devTime d + (if bit x.path 3 then 0 else Config.tMs))) = some x)
    ∧ (∃ (s : State) (d : Nat), s.isL d = true ∧ d < s.nDies)
    ∧ (∃ (s : State) (d : Nat) (c : Cmd), s.isL d = true ∧ s.hif.inflight.find? (fun c => c.die == d && c.opcode == 0x81 &&
        !c.sent) = some c ∧ 1 ≤ leField c.entry 1 1 ∧ leField c.entry 1 1 ≤ 4 ∧ leField c.entry 32 2 ≠ 0 ∧ leField c.entry 32 2
        ≤ (if leField c.entry 1 1 = 4 then 400 else 255)) :=
  ⟨⟨(recCmd rec1 0x80 [(0, 1, 0x80), (2, 2, 2), (14, 1, 1)]), _, 0, [1, 2], (cmdOf 0 0x80 [(0, 1, 0x80), (2, 2, 2), (14, 1,
      1)]), rec1, _, ⟨(by decide +kernel), (by decide +kernel), rfl, (by decide +kernel), (by decide +kernel),
      (by decide +kernel), (by decide +kernel), fetchRec rfl (by decide +kernel) rec1_ok, (by decide +kernel)⟩⟩,
   ⟨(recCmd rec1 0x80 [(0, 1, 0x80), (1, 1, 2), (2, 2, 2), (12, 1, 2), (14, 1, 1)]).put 2 CHN_SLOT_MODEn_mode_mask 511, _, 0,
       [1, 2], (cmdOf 0 0x80 [(0, 1, 0x80), (1, 1, 2), (2, 2, 2), (12, 1, 2), (14, 1, 1)]), rec1, _, ⟨(by decide +kernel),
       (by decide +kernel), rfl, (by decide +kernel), (by decide +kernel), (by decide +kernel), (by decide +kernel),
       (by decide +kernel), (by decide +kernel), fetchRec rfl (by decide +kernel) rec1_ok, (by decide +kernel)⟩⟩,
   ⟨(inCmd on 2 0x80 [(0, 1, 0x80), (1, 1, 2), (2, 2, 2), (8, 4, noHandle), (12, 1, 2), (14, 1, 1)]).put 2
       CHN_SLOT_MODEn_mode_mask 511, 2, [1, 2], (cmdOf 2 0x80 [(0, 1, 0x80), (1, 1, 2), (2, 2, 2), (8, 4, noHandle), (12, 1, 2),
       (14, 1, 1)]), _, ⟨(by decide +kernel), (by decide +kernel), rfl, (by decide +kernel), (by decide +kernel),
       (by decide +kernel), (by decide +kernel), (by decide +kernel)⟩⟩,
⟨{ on with hif := { on.hif with timed := [{ cmd := 0, handle := noHandle, flags := 1, path := 2, slot := 0, mode := 1, time := 0, bytes := [], expires := 0 }] } },
       2, { cmd := 0, handle := noHandle, flags := 1, path := 2, slot := 0, mode := 1, time := 0, bytes := [], expires := 0 },
       ⟨(by decide +kernel), (by decide +kernel)⟩⟩,
   ⟨on, 0, ⟨(by decide +kernel), (by decide +kernel)⟩⟩,
   ⟨(inCmd on 0 0x81 [(1, 1, 1), (32, 2, 10)]), 0, (cmdOf 0 0x81 [(1, 1, 1), (32, 2, 10)]), ⟨(by decide +kernel),
       (by decide +kernel), (by decide +kernel), (by decide +kernel), (by decide +kernel), (by decide +kernel)⟩⟩⟩

/-- Values that meet the hypotheses of Obligations.HostOperationsComplete, clause by clause. -/
theorem witness_HostOperationsComplete_part3 :
    (∃ (s : State) (d op status : Nat) (o : LongOp), d < s.nDies ∧ s.longOp d op = some o ∧ o.done = some status)
    ∧ (∃ (s : State) (d op : Nat) (o : LongOp), d < s.nDies ∧ s.longOp d op = some o ∧ o.repPct < o.percent ∧ s.due (o.repTime +
        100 * Config.tMs) = true) :=
  ⟨⟨{ on with hif := { on.hif with longOps := [{ cmd := 0, die := 0, opcode := 5, done := some 0 }] } }, 0, 5, _,
      { cmd := 0, die := 0, opcode := 5, done := some 0 }, ⟨(by decide +kernel), (by decide +kernel), (Option.some_get
      (by decide +kernel)).symm⟩⟩,
   ⟨{ on with hif := { on.hif with longOps := [{ cmd := 0, die := 0, opcode := 5, percent := 3 }] } }, 0, 5,
       { cmd := 0, die := 0, opcode := 5, percent := 3 }, ⟨(by decide +kernel), (by decide +kernel), (by decide +kernel),
       (by decide +kernel)⟩⟩⟩

/-- Values that meet the hypotheses of Obligations.ArchiveRowsComplete, clause by clause. -/
theorem witness_ArchiveRowsComplete_part1 :
    (∃ (s u : State) (d luns bpl sectors planes gib pe : Nat) (slc : Bool) (n : Nand), s.isL d = true ∧ s.domOn d 7 = true ∧
        s.get d ARC_STAT_state = 0 ∧ n = ⟨true, luns, bpl, sectors, planes, slc, gib, pe⟩ ∧ n.good = true ∧ u = ((((((s.setArc d
        { s.arc d with nand := some n }).putB d ARC_CTRL_enable true).put d ARC_STAT_state 1).put d ARC_GEOM_luns luns).put d
        ARC_GEOM_planes (if planes = 4 then 1 else 0)).putB d ARC_GEOM_slc slc).put d ARC_GEOM_raw_gib gib ∧ (u.arc d).layout =
        none)
    ∧ (∃ (s u v : State) (d luns bpl sectors planes gib pe : Nat) (slc : Bool) (n : Nand) (l : Layout), s.isL d = true ∧ s.domOn
        d 7 = true ∧ s.get d ARC_STAT_state = 0 ∧ n = ⟨true, luns, bpl, sectors, planes, slc, gib, pe⟩ ∧ n.good = true ∧ u =
        ((((((s.setArc d { s.arc d with nand := some n }).putB d ARC_CTRL_enable true).put d ARC_STAT_state 1).put d
        ARC_GEOM_luns luns).put d ARC_GEOM_planes (if planes = 4 then 1 else 0)).putB d ARC_GEOM_slc slc).put d ARC_GEOM_raw_gib
        gib ∧ (u.arc d).layout = some l ∧ v = u.putB d ARC_STAT_layout_mismatch (l.hostGib != min 256 (u.get d
        ARC_NS_HOST_gib)))
    ∧ (∃ (s : State) (d luns bpl sectors planes gib pe : Nat) (slc ok : Bool) (n : Nand), s.isL d = true ∧ s.domOn d 7 = true ∧
        s.get d ARC_STAT_state = 0 ∧ n = ⟨ok, luns, bpl, sectors, planes, slc, gib, pe⟩ ∧ n.good = false)
    ∧ (∃ (s t u v : State) (d st : Nat), s.isL d = true ∧ s.get d ARC_STAT_state = 1 ∧ s.flag d LEDG_CTRL_enable = false ∧ t =
        (s.putB d ARC_CTRL_enable false).put d ARC_STAT_state 2 ∧ st = ((t.longOp d 0x45).map (·.abortStatus)).getD 0x010B ∧ u =
        (t.patrolStop d st).programAll d ((t.arc d).entries.length + 1) ∧ v = u.amendAll d ((u.arc d).amends.length + 1))
    ∧ (∃ (s t u : State) (d : Nat), s.isL d = true ∧ s.stopped d = false ∧ s.get d ARC_STAT_state ≠ 0 ∧ s.pageDue d = true ∧ t =
        s.programPage d ∧ u = (if t.amendDue d then t.amendPage d else t))
    ∧ (∃ (s t : State) (d : Nat), s.isL d = true ∧ s.stopped d = false ∧ s.get d ARC_STAT_state ≠ 0 ∧ s.pageDue d = false ∧
        s.amendDue d = true ∧ t = s.amendPage d) :=
  ⟨⟨on, _, 0, 4, 30, 8, 1, 64, 3000, false, _, ⟨(by decide +kernel), (by decide +kernel), (by decide +kernel), rfl,
      (by decide +kernel), rfl, (by decide +kernel)⟩⟩,
   ⟨(on.setArc 0 arc1), _, _, 0, 4, 1, 1, 0, 64, 0, true, _, _, ⟨(by decide +kernel), (by decide +kernel), (by decide +kernel),
       rfl, (by decide +kernel), rfl, (Option.some_get (by decide +kernel)).symm, rfl⟩⟩,
   ⟨on, 0, 0, 0, 0, 0, 0, 0, true, true, _, ⟨(by decide +kernel), (by decide +kernel), (by decide +kernel), rfl,
       (by decide +kernel)⟩⟩,
   ⟨(on.put 0 ARC_STAT_state 1).putB 0 LEDG_CTRL_enable false, _, _, _, 0, _, ⟨(by decide +kernel), (by decide +kernel),
       (by decide +kernel), rfl, rfl, rfl, rfl⟩⟩,
   ⟨(arcOn on { entries := [ent0] }), _, _, 0, ⟨(by decide +kernel), (by decide +kernel), (by decide +kernel),
       (by decide +kernel), rfl, rfl⟩⟩,
   ⟨(arcOn on { amends := [{ handle := 0, lt := 0, n := 0, share := 0 }] }), _, 0, ⟨(by decide +kernel), (by decide +kernel),
       (by decide +kernel), (by decide +kernel), (by decide +kernel), rfl⟩⟩⟩

/-- Values that meet the hypotheses of Obligations.ArchiveRowsComplete, clause by clause. -/
theorem witness_ArchiveRowsComplete_part2 :
    (∃ (s : State) (d : Nat), s.isL d = true ∧ s.stopped d = false ∧ s.get d ARC_STAT_state ≠ 0)
    ∧ (∃ (s t u v : State) (d : Nat) (p : Prog), s.isL d = true ∧ s.stopped d = false ∧ s.nextProg d = some p ∧ p.src = none ∧ t
        = s.countProg d 4 ∧ u = t.setArc d
        { (t.arc d).setBlk p.blk { (t.arc d).blk p.blk with done := ((t.arc d).blk p.blk).done + 1 } with progs := (s.arc d).progs.erase p }
        ∧ v = u.verified d p)
    ∧ (∃ (s t : State) (d : Nat) (p : Prog) (a : Arc), s.isL d = true ∧ s.stopped d = false ∧ s.nextProg d = some p ∧ p.src ≠
        none ∧ t = s.countProg d 4 ∧ a = (t.arc d).setBlk p.blk
        { (t.arc d).blk p.blk with done := ((t.arc d).blk p.blk).done + 1 })
    ∧ (∃ (s : State) (d : Nat) (p : Prog), s.isL d = true ∧ s.stopped d = false ∧ s.nextProg d = some p)
    ∧ (∃ (s t u : State) (d bits : Nat) (p : Prog), s.isL d = true ∧ s.stopped d = false ∧ (s.arc d).progs.find? (fun p =>
        p.programmed && s.lineFollows d p) = some p ∧ t = s.setArc d { s.arc d with progs := (s.arc d).progs.erase p } ∧ bits ≤
        t.refreshBits d ∧ u = t.verified d p)
    ∧ (∃ (s t : State) (d bits : Nat) (p : Prog), s.isL d = true ∧ s.stopped d = false ∧ (s.arc d).progs.find? (fun p =>
        p.programmed && s.lineFollows d p) = some p ∧ t = s.setArc d { s.arc d with progs := (s.arc d).progs.erase p } ∧
        t.refreshBits d < bits) :=
  ⟨⟨(arcOn on {}), 0, ⟨(by decide +kernel), (by decide +kernel), (by decide +kernel)⟩⟩,
   ⟨(arcOn on { progs := [{ keys := [0, 1, 2, 3], stream := 0 }] }), _, _, _, 0, { keys := [0, 1, 2, 3], stream := 0 },
       ⟨(by decide +kernel), (by decide +kernel), (by decide +kernel), (by decide +kernel), rfl, rfl, rfl⟩⟩,
   ⟨(arcOn on { progs := [{ keys := [0], stream := 3, src := some 5 }] }), _, 0, { keys := [0], stream := 3, src := some 5 }, _,
       ⟨(by decide +kernel), (by decide +kernel), (by decide +kernel), (by decide +kernel), rfl, rfl⟩⟩,
   ⟨(arcOn on { progs := [{ keys := [0, 1, 2, 3], stream := 0 }] }), 0, { keys := [0, 1, 2, 3], stream := 0 },
       ⟨(by decide +kernel), (by decide +kernel), (by decide +kernel)⟩⟩,
   ⟨(arcOn on { progs := [{ keys := [0, 1, 2, 3], stream := 3, src := some 5, programmed := true }] }), _, _, 0, 0,
       { keys := [0, 1, 2, 3], stream := 3, src := some 5, programmed := true }, ⟨(by decide +kernel), (by decide +kernel),
       (by decide +kernel), rfl, (by decide +kernel), rfl⟩⟩,
   ⟨(arcOn on { progs := [{ keys := [0, 1, 2, 3], stream := 3, src := some 5, programmed := true }] }), _, 0, 2000,
       { keys := [0, 1, 2, 3], stream := 3, src := some 5, programmed := true }, ⟨(by decide +kernel), (by decide +kernel),
       (by decide +kernel), rfl, (by decide +kernel)⟩⟩⟩

/-- Values that meet the hypotheses of Obligations.ArchiveRowsComplete, clause by clause. -/
theorem witness_ArchiveRowsComplete_part3 :
    (∃ (s t u : State) (d b : Nat) (a : Arc), s.isL d = true ∧ s.stopped d = false ∧ s.erasable d b = true ∧ a = (s.arc
        d).setBlk b { ec := ((s.arc d).blk b).ec + 1, rebuilt := ((s.arc d).blk b).rebuilt } ∧ t = s.setArc d
        { a with relocating := a.relocating.filter (fun e => e.1 != b), failed := a.failed.filter (fun e => e.1 != b) } ∧ u =
        (if (s.arc d).relocating.any (fun e => e.1 == b && e.2 == 0) then t.inc d ARC_GC_CNT else t))
    ∧ (∃ (s t : State) (d b : Nat), s.isL d = true ∧ s.stopped d = false ∧ s.erasable d b = true ∧ t = (s.inc d
        ARC_ERASE_FAIL_CNT).setArc d
        { s.arc d with health := { (s.arc d).health with eraseFail := (s.arc d).health.eraseFail + 1 } })
    ∧ (∃ (s t : State) (d key : Nat) (x : Place), s.isL d = true ∧ smGet (s.arc d).map key = some x ∧ t = s.inc d ARC_RETRY_CNT)
    ∧ (∃ (s : State) (d b : Nat), s.isL d = true ∧ s.stopped d = false ∧ s.arcRunning d = true ∧ (s.arc d).victim = some b) :=
  ⟨⟨(arcOn on { blocks := [(0, { st := .closed })], relocating := [(0, 0)] }), _, _, 0, 0, _, ⟨(by decide +kernel),
      (by decide +kernel), (by decide +kernel), rfl, rfl, rfl⟩⟩,
   ⟨(arcOn on { blocks := [(0, { st := .closed })] }), _, 0, 0, ⟨(by decide +kernel), (by decide +kernel), (by decide +kernel),
       rfl⟩⟩,
   ⟨(arcOn on { map := [(0, ⟨5, 4⟩)] }), _, 0, 0, ⟨5, 4⟩, ⟨(by decide +kernel), (by decide +kernel), rfl⟩⟩,
   ⟨(arcOn on { blocks := [(0, { st := .closed })], map := [(0, ⟨0, 4⟩)] }), 0, 0, ⟨(by decide +kernel), (by decide +kernel),
       (by decide +kernel), (by decide +kernel)⟩⟩⟩

/-- Values that meet the hypotheses of Obligations.ArchiveUpkeepCompletes, clause by clause. -/
theorem witness_ArchiveUpkeepCompletes_part1 :
    (∃ (s : State) (d b : Nat) (k : Blk), s.isL d = true ∧ s.stopped d = false ∧ s.arcRunning d = true ∧ (s.longOp d 0x45).any
        (fun o => o.aborted) = false ∧ ((s.arc d).patrolCmd = true ∨ (s.arc d).patrolled.isEmpty = false ∨ s.due (s.arc
        d).patrolFrom = true) ∧ (s.arc d).patrolNext = some (b, k))
    ∧ (∃ (s : State) (d : Nat), s.isL d = true ∧ s.stopped d = false ∧ s.arcRunning d = true ∧ (s.arc d).patrolCmd = true ∧
        (s.longOp d 0x45).any (fun o => o.aborted) = false ∧ (s.arc d).patrolNext = none)
    ∧ (∃ (s : State) (d : Nat) (o : LongOp), s.isL d = true ∧ s.stopped d = false ∧ s.arcRunning d = true ∧ (s.arc d).patrolCmd
        = true ∧ s.longOp d 0x45 = some o ∧ o.aborted = true)
    ∧ (∃ (s t : State) (d : Nat), s.isL d = true ∧ s.stopped d = false ∧ s.arcRunning d = true ∧ s.due (s.arc d).wearNext = true
        ∧ t = s.setArc d { s.arc d with wearNext := s.now + 86400 * 10 ^ 8 } ∧ (s.arc d).ecMax ≤ (s.arc d).ecMin + t.get d
        ARC_WEAR_spread)
    ∧ (∃ (s t : State) (d b : Nat), s.isL d = true ∧ s.stopped d = false ∧ s.arcRunning d = true ∧ s.due (s.arc d).wearNext =
        true ∧ t = s.setArc d { s.arc d with wearNext := s.now + 86400 * 10 ^ 8 } ∧ (s.arc d).ecMin + t.get d ARC_WEAR_spread <
        (s.arc d).ecMax ∧ (s.arc d).leastWorn = some b)
    ∧ (∃ (s : State) (d : Nat), s.isL d = true ∧ s.stopped d = false ∧ s.arcRunning d = true ∧ (s.arc d).ckptLeft ≠ 0 ∧
        s.ckptBound d = false) :=
  ⟨⟨(arcOn on { blocks := [(0, { st := .closed, used := 1 })], patrolCmd := true }), 0, 0, { st := .closed, used := 1 },
      ⟨(by decide +kernel), (by decide +kernel), (by decide +kernel), (by decide +kernel), (by decide +kernel),
      (by decide +kernel)⟩⟩,
   ⟨(arcOn on { patrolCmd := true }), 0, ⟨(by decide +kernel), (by decide +kernel), (by decide +kernel), (by decide +kernel),
       (by decide +kernel), (by decide +kernel)⟩⟩,
   ⟨(arcOn ({ on with hif := { on.hif with longOps := [{ cmd := 0, die := 0, opcode := 0x45, aborted := true }] } })
       { patrolCmd := true }), 0, _, ⟨(by decide +kernel), (by decide +kernel), (by decide +kernel), (by decide +kernel),
       (Option.some_get (by decide +kernel)).symm, (by decide +kernel)⟩⟩,
   ⟨(arcOn on {}), _, 0, ⟨(by decide +kernel), (by decide +kernel), (by decide +kernel), (by decide +kernel), rfl,
       (by decide +kernel)⟩⟩,
   ⟨(arcOn on { blocks := [(0, { st := .closed }), (1, { st := .closed, ec := 100000 })] }), _, 0, 0, ⟨(by decide +kernel),
       (by decide +kernel), (by decide +kernel), (by decide +kernel), rfl, (by decide +kernel), (by decide +kernel)⟩⟩,
   ⟨(arcOn on { ckptLeft := 1, ckptStart := 10 ^ 12 }), 0, ⟨(by decide +kernel), (by decide +kernel), (by decide +kernel),
       (by decide +kernel), (by decide +kernel)⟩⟩⟩

/-- Values that meet the hypotheses of Obligations.ArchiveUpkeepCompletes, clause by clause. -/
theorem witness_ArchiveUpkeepCompletes_part2 :
    (∃ (s t u : State) (d : Nat), s.isL d = true ∧ s.stopped d = false ∧ s.arcRunning d = true ∧ s.ckptBound d = true ∧ t =
        s.ckptRest d (s.arc d).ckptLeft ∧ u = t.setArc d
        { t.arc d with ckptLeft := ckptPages, ckptStart := t.now, ckptLog := 0 })
    ∧ (∃ (s : State) (d bad : Nat) (a a' : Arc) (l : List Nat), s.isL d = true ∧ s.stopped d = false ∧ s.arcRunning d = true ∧ a
        = s.arc d ∧ a.jrn.length < max 4 (min 32 (s.get d ARC_CFG_jrn_target)) ∧ (List.range a.luns).filterMap a.freeBlock = l ∧
        l.length = a.luns ∧ a.luns ≤ bad ∧ a' = l.foldl (fun a b => a.setBlk b
        { a.blk b with ec := (a.blk b).ec + 1, st := .journal }) a)
    ∧ (∃ (s t : State) (d bad b : Nat) (a : Arc) (l : List Nat), s.isL d = true ∧ s.stopped d = false ∧ s.arcRunning d = true ∧
        a = s.arc d ∧ a.jrn.length < max 4 (min 32 (s.get d ARC_CFG_jrn_target)) ∧ (List.range a.luns).filterMap a.freeBlock = l
        ∧ l.length = a.luns ∧ bad < a.luns ∧ b = l.getD bad 0 ∧ t = (s.inc d ARC_ERASE_FAIL_CNT).setArc d
        { a with health := { a.health with eraseFail := a.health.eraseFail + 1 } })
    ∧ (∃ (s t u : State) (d days wa : Nat) (a : Arc), s.isL d = true ∧ s.arcRunning d = true ∧ a = s.arc d ∧ s.due a.govNext =
        true ∧ t = s.setArc d
        { a with govNext := s.now + 3600 * 10 ^ 8, hours := ((a.hourFull, a.hourApp, a.hourProg) :: a.hours).take 256, hourFull := 0, hourApp := 0, hourProg := 0, health := { a.health with summaryHours := a.health.summaryHours + b2n (s.flag d ARC_STAT_summary), tempHours := hourCount a.health.tempHours (s.getZ d PWR_TEMP_tj) } }
        ∧ days = lifeDays (govLife (t.arcBudget d) (t.govSums d) (t.govSums d).2.2.1) ∧ wa = (if (t.govSums d).2.2.1 = 0 then
        100 else min 0xFFFF (100 * (t.govSums d).2.2.2 / (t.govSums d).2.2.1)) ∧ u = (t.put d ARC_LIFE_days days).put d
        ARC_LIFE_wa wa ∧ u.flag d ARC_CTRL_gov_en = false)
    ∧ (∃ (s t u : State) (d b first : Nat) (a : Arc) (e : Blk) (units : List Nat), s.isL d = true ∧ s.stopped d = false ∧
        s.arcRunning d = true ∧ a = s.arc d ∧ s.logLow d = true ∧ a.blocks.any (fun e => e.2.st == .closed && decide (a.valid
        e.1 < 4 * e.2.used)) = false ∧ a.trimBlock = some (b, e) ∧ units = a.logUnits b ∧ a.seqAfter units ≤ a.ckptOldest ∧
        s.holdsOpenColumn d units = false ∧ t = s.setArc d (a.trimmed units) ∧ first = t.firstHeld d ∧ u = (t.put2 d
        ARC_FIRST_LO_first_lo ARC_FIRST_HI_first_hi first).inc d ARC_TRIM_CNT) :=
  ⟨⟨(arcOn on {}), _, _, 0, ⟨(by decide +kernel), (by decide +kernel), (by decide +kernel), (by decide +kernel), rfl, rfl⟩⟩,
   ⟨(arcOn on {}), 0, 4, _, _, [0, 30, 60, 90], ⟨(by decide +kernel), (by decide +kernel), (by decide +kernel), rfl,
       (by decide +kernel), (by decide +kernel), (by decide +kernel), (by decide +kernel), rfl⟩⟩,
   ⟨(arcOn on {}), _, 0, 0, _, _, [0, 30, 60, 90], ⟨(by decide +kernel), (by decide +kernel), (by decide +kernel), rfl,
       (by decide +kernel), (by decide +kernel), (by decide +kernel), (by decide +kernel), rfl, rfl⟩⟩,
   ⟨(arcOn on {}).putB 0 ARC_CTRL_gov_en false, _, _, 0, _, _, _, ⟨(by decide +kernel), (by decide +kernel), rfl,
       (by decide +kernel), rfl, rfl, rfl, rfl, (by decide +kernel)⟩⟩,
   ⟨trimArc, _, _, 0, 0, _, _, { st := .closed }, _, ⟨(by decide +kernel), (by decide +kernel), (by decide +kernel), rfl,
       (by decide +kernel), (by decide +kernel), (by decide +kernel), rfl, (by decide +kernel), (by decide +kernel), rfl, rfl,
       rfl⟩⟩⟩

/-- Values that meet the hypotheses of Obligations.ArchiveCommandsComplete, clause by clause. -/
theorem witness_ArchiveCommandsComplete :
    (∃ (s t u : State) (d next : Nat) (c : Cmd) (l : List ArcEntry) (b : Bytes) (pages : List (Nat × Nat × Nat)), s.isL d = true
        ∧ s.nextCmd d 0x40 = some c ∧ s.arcRunning d = true ∧ 64 ≤ c.op 24 4 ∧ c.op 24 4 ≤ 1048576 ∧ s.get2 d
        ARC_FIRST_LO_first_lo ARC_FIRST_HI_first_hi ≤ c.op 16 8 ∧ l = takeEntries (s.arc d).lostSeqs ((s.arc d).entries.filter
        (fun e => decide (c.op 16 8 ≤ e.seq))) (c.op 24 4) ∧ next = nextSeq l (c.op 16 8) ∧ (s.arc d).lostSeqs.contains next =
        false ∧ b = l.flatMap ArcEntry.bytes ∧ (pages = (s.arc d).pageSeqs.filter (fun p => l.any (fun e => decide (p.2.1 ≤
        e.seq ∧ e.seq < p.2.2)))) ∧ t = s.mapTouchAll d (pages.map (fun p => keyPage p.1)) ∧ u = t.setArc d
        { t.arc d with health := { (t.arc d).health with read := (t.arc d).health.read + 16384 * pages.length } })
    ∧ (∃ (s : State) (d : Nat) (c : Cmd), s.isL d = true ∧ s.nextCmd d 0x41 = some c ∧ s.arcRunning d = true)
    ∧ (∃ (s t u : State) (d f n : Nat) (c : Cmd), s.isL d = true ∧ s.nextCmd d 0x42 = some c ∧ s.arcRunning d = true ∧ c.op 16 8
        = f ∧ c.op 24 2 = n ∧ n ≠ 0 ∧ n ≤ 256 ∧ c.op 32 8 % 4096 = 0 ∧ s.hostRange d f n = true ∧ (List.range n).any (fun i =>
        (s.arc d).hostLost.contains (f + i)) = false ∧ t = s.mapTouchAll d ((List.range n).map (fun i => keyHost (f + i))) ∧ u =
        (List.range n).foldl (fun (s : State) i =>
        (match smGet (s.arc d).host (f + i) with | some b => (slice b 0 4096, s) | none => s.freeBytes 4096).2.toHost c.port
        (c.op 32 8 + 4096 * i)
        (match smGet (s.arc d).host (f + i) with | some b => (slice b 0 4096, s) | none => s.freeBytes 4096).1) t)
    ∧ (∃ (s : State) (d f n : Nat) (c : Cmd) (groups : List (List Nat)), s.isL d = true ∧ s.nextCmd d 0x43 = some c ∧
        s.arcRunning d = true ∧ c.op 16 8 = f ∧ c.op 24 2 = n ∧ n ≠ 0 ∧ n ≤ 256 ∧ c.op 32 8 % 4096 = 0 ∧ s.hostRange d f n =
        true ∧ s.flag d ARC_STAT_spare_min = false ∧ groups = chunk4 ((List.range n).map (fun i => keyHost (f + i))))
    ∧ (∃ (s t : State) (d f n : Nat) (c : Cmd) (keys : List Nat) (a : Arc), s.isL d = true ∧ s.nextCmd d 0x44 = some c ∧
        s.arcRunning d = true ∧ c.op 16 8 = f ∧ c.op 24 4 = n ∧ s.hostRange d f n = true ∧ (keys = ((s.arc d).map.filter (fun e
        => keyKind e.1 == 2 && decide (f ≤ keyNo e.1 ∧ keyNo e.1 < f + n))).map (·.1)) ∧ t = s.mapTouchAll d keys ∧ a =
        keys.foldl (fun a k => a.unplace k) (t.arc d))
    ∧ (∃ (s t : State) (d : Nat) (c : Cmd), s.isL d = true ∧ s.nextCmd d 0x45 = some c ∧ s.arcRunning d = true ∧ s.longOp d 0x45
        = none ∧ t = s.setArc d
        { s.arc d with patrolled := [], eraseChecked := [], patrolBits := 0, patrolPages := 0, patrolRefreshed := 0, patrolCmd := true })
    ∧ (∃ (s t u v : State) (d n : Nat) (c : Cmd) (l : Layout), s.isL d = true ∧ s.nextCmd d 0x46 = some c ∧ s.arcRunning d =
        true ∧ c.op 16 1 = 0xA5 ∧ s.flag d LEDG_CTRL_enable = false ∧ [0, 1, 2, 3].any (fun q => s.flag d QUE_n_CTRL_enable q) =
        false ∧ ((s.arc d).progs ++ (s.arc d).blocked).any (fun p => p.cmd.isSome) = false ∧ (s.arc d).layout = some l ∧
        s.arcNext d = n ∧ t = s.setArc d ((s.arc d).formatted n) ∧ u = t.setLayout d
        { l with hostGib := min 256 (t.get d ARC_NS_HOST_gib), made := t.devTime d, paired := none, package := none, number := none }
        ∧ v = (u.put2 d ARC_FIRST_LO_first_lo ARC_FIRST_HI_first_hi n).putB d ARC_STAT_layout_mismatch false) :=
  ⟨⟨(arcOn (inCmd on 0 0x40 [(24, 4, 64)]) { entries := [ent0] }), _, _, 0, _, (cmdOf 0 0x40 [(24, 4, 64)]), _, _, _,
      ⟨(by decide +kernel), (by decide +kernel), (by decide +kernel), (by decide +kernel), (by decide +kernel),
      (by decide +kernel), rfl, rfl, (by decide +kernel), rfl, rfl, rfl, rfl⟩⟩,
   ⟨(arcOn (inCmd on 0 0x41 []) {}), 0, (cmdOf 0 0x41 []), ⟨(by decide +kernel), (by decide +kernel), (by decide +kernel)⟩⟩,
   ⟨(arcOn (inCmd on 0 0x42 [(24, 2, 1)]) { host := [(0, [7])] }), _, _, 0, _, _, (cmdOf 0 0x42 [(24, 2, 1)]),
       ⟨(by decide +kernel), (by decide +kernel), (by decide +kernel), rfl, rfl, (by decide +kernel), (by decide +kernel),
       (by decide +kernel), (by decide +kernel), (by decide +kernel), rfl, rfl⟩⟩,
   ⟨(arcOn (inCmd on 0 0x43 [(24, 2, 1)]) {}), 0, _, _, (cmdOf 0 0x43 [(24, 2, 1)]), _, ⟨(by decide +kernel),
       (by decide +kernel), (by decide +kernel), rfl, rfl, (by decide +kernel), (by decide +kernel), (by decide +kernel),
       (by decide +kernel), (by decide +kernel), rfl⟩⟩,
   ⟨(arcOn (inCmd on 0 0x44 [(24, 4, 1)]) {}), _, 0, _, 1, (cmdOf 0 0x44 [(24, 4, 1)]), _, _, ⟨(by decide +kernel),
       (by decide +kernel), (by decide +kernel), rfl, (by decide +kernel), (by decide +kernel), rfl, rfl, rfl⟩⟩,
   ⟨(arcOn (inCmd on 0 0x45 []) {}), _, 0, (cmdOf 0 0x45 []), ⟨(by decide +kernel), (by decide +kernel), (by decide +kernel),
       (by decide +kernel), rfl⟩⟩,
   ⟨(arcOn (inCmd on 0 0x46 [(16, 1, 0xA5)]) {}).putB 0 LEDG_CTRL_enable false, _, _, _, 0, _, (cmdOf 0 0x46 [(16, 1, 0xA5)]),
       lay0, ⟨(by decide +kernel), (by decide +kernel), (by decide +kernel), (by decide +kernel), (by decide +kernel),
       (by decide +kernel), (by decide +kernel), (by decide +kernel), rfl, rfl, rfl, rfl⟩⟩⟩

/-- Values that meet the hypotheses of Obligations.MirrorRowsComplete, clause by clause. -/
theorem witness_MirrorRowsComplete_part1 :
    (∃ (s t u : State) (d : Nat) (m : MirMsg), s.isL d = true ∧ (s.role d = 2 ∨ s.role d = 3) ∧ s.arcFull d = false ∧
        s.mirrors.find? (fun m => m.dst == d) = some m ∧ t = { s with mirrors := s.mirrors.erase m } ∧ u = m.items.foldl (fun (s
        : State) i => s.mirApply d i) t)
    ∧ (∃ (s t u v : State) (d n at_ : Nat), s.isL d = true ∧ s.confirms.find? (fun c => c.1 == d) = some (d, n) ∧ t =
        { s with confirms := s.confirms.erase (d, n) } ∧ (t.mir d).outstanding.find? (fun o => o.1 == n) = some (n, at_) ∧ u =
        (t.setMir d
        { t.mir d with outstanding := (t.mir d).outstanding.filter (fun o => decide (n < o.1)), unconf := (t.mir d).unconf.filter (fun u => decide (n < u.1)) }).inc
        d MIRR_CONF_CNT ∧ v = u.put d MIRR_LAT_max (max (u.get d MIRR_LAT_max) (min 0xFFFF ((u.now - at_) / 10))))
    ∧ (∃ (s t u : State) (d n at_ : Nat) (rest : List (Nat × Nat)), s.isL d = true ∧ (s.mir d).outstanding = (n, at_) :: rest ∧
        s.mirroring d = true ∧ (s.mir d).wireFault = false ∧ s.due (at_ + s.confirmTicks d) = true ∧ t = (s.markUnprotected
        d).mirRelease d (fun _ => true) ∧ u = t.setMir d { t.mir d with outstanding := [], unconf := [] })
    ∧ (∃ (s t : State) (d : Nat), s.isL d = true ∧ s.partnerUp d = true ∧ ((s.mir (partnerOf d)).ownFault = false ∨ s.due
        ((s.mir (partnerOf d)).ownFaultAt + 10 * Config.tUs) = false) ∧ t = (s.setMir d
        { s.mir d with partnerFault := (s.mir (partnerOf d)).ownFault }).pathSeen d false)
    ∧ (∃ (s t : State) (d : Nat) (m : Mirror), s.isL d = true ∧ s.mir d = m ∧ s.inPair d = true ∧ m.fencing = false ∧
        s.pkg.fenced.contains (partnerOf d) = false ∧ s.role d ≠ 0 ∧ s.role d < 4 ∧ s.role (partnerOf d) ≠ 6 ∧ (s.mir (partnerOf
        d)).ownFault = false ∧ m.wireFault = false ∧ s.due (m.wireSeen + s.silenceTicks d) = true ∧ t = (s.setMir d
        { m with wireFault := true, wireLive := none }).putB d MIRR_STAT_wire_ok false)
    ∧ (∃ (s t : State) (d : Nat) (m : Mirror), s.isL d = true ∧ s.mir d = m ∧ s.inPair d = true ∧ m.fencing = false ∧
        s.pkg.fenced.contains (partnerOf d) = false ∧ s.role d ≠ 0 ∧ s.role d < 4 ∧ s.role (partnerOf d) ≠ 6 ∧ (s.mir (partnerOf
        d)).ownFault = false ∧ m.linkFault = false ∧ s.due (m.linkSeen + s.silenceTicks d) = true ∧ t = (s.setMir d
        { m with linkFault := true, linkLive := none }).putB d MIRR_STAT_link_ok false) :=
  ⟨⟨{ on with mirrors := [⟨0, 1, 0, 0, []⟩] }, _, _, 1, _, ⟨(by decide +kernel), (by decide +kernel), (by decide +kernel),
      (Option.some_get (by decide +kernel)).symm, rfl, rfl⟩⟩,
   ⟨(mirOn { on with confirms := [(0, 5)] } 0 { outstanding := [(5, 0)] }), _, _, _, 0, 5, 0, ⟨(by decide +kernel),
       (by decide +kernel), rfl, (by decide +kernel), rfl, rfl⟩⟩,
   ⟨(mirOn on 0 { outstanding := [(0, 0)] }), _, _, 0, 0, 0, [], ⟨(by decide +kernel), (by decide +kernel), (by decide +kernel),
       (by decide +kernel), (by decide +kernel), rfl, rfl⟩⟩,
   ⟨on, _, 0, ⟨(by decide +kernel), (by decide +kernel), (by decide +kernel), rfl⟩⟩,
   ⟨(on.setMir 0 { linkFault := true }), _, 0, { linkFault := true }, ⟨(by decide +kernel), (by decide +kernel),
       (by decide +kernel), (by decide +kernel), (by decide +kernel), (by decide +kernel), (by decide +kernel),
       (by decide +kernel), (by decide +kernel), (by decide +kernel), (by decide +kernel), rfl⟩⟩,
   ⟨on, _, 0, _, ⟨(by decide +kernel), rfl, (by decide +kernel), (by decide +kernel), (by decide +kernel), (by decide +kernel),
       (by decide +kernel), (by decide +kernel), (by decide +kernel), (by decide +kernel), (by decide +kernel), rfl⟩⟩⟩

/-- Values that meet the hypotheses of Obligations.MirrorRowsComplete, clause by clause. -/
theorem witness_MirrorRowsComplete_part2 :
    (∃ (s : State) (d : Nat) (wire : Bool) (m : Mirror), s.isL d = true ∧ s.mir d = m ∧ s.inPair d = true ∧ m.fencing = false ∧
        s.pkg.fenced.contains (partnerOf d) = false ∧ s.role d ≠ 0 ∧ s.role d < 4 ∧ s.role (partnerOf d) ≠ 6 ∧ (s.mir (partnerOf
        d)).ownFault = true ∧ s.due ((if wire then m.wireSeen else m.linkSeen) + s.faultQuiet d) = true)
    ∧ (∃ (s : State) (d : Nat) (m : Mirror), s.isL d = true ∧ s.mir d = m ∧ m.wireFault = true ∧ s.partnerUp d = true)
    ∧ (∃ (s : State) (d at_ : Nat) (m : Mirror), s.isL d = true ∧ s.mir d = m ∧ m.linkFault = true ∧ m.linkLive = some at_ ∧
        s.due (at_ + 10 * Config.tMs) = true)
    ∧ (∃ (s : State) (d : Nat), s.isL d = true ∧ s.pkg.fenced.contains d = true ∧ s.role d = 4 ∧ (s.inPair d = false ∨ s.serving
        (partnerOf d) = false ∨ s.flag (partnerOf d) MIRR_CTRL_auto_resync = true) ∧ s.coolEnough d = true)
    ∧ (∃ (s t u : State) (d : Nat), s.isL d = true ∧ (s.mir d).fencing = true ∧ (s.mir (partnerOf d)).fencing = false ∧ t =
        s.setMir d { s.mir d with fencing := false } ∧ t.role d = 2 ∧ t.role (partnerOf d) = 1 ∧ u = ((t.copyRun (partnerOf d)
        d).reroute (partnerOf d) d).fenceDie (partnerOf d) ∧ u.stage d ≠ 0)
    ∧ (∃ (s t u v w : State) (d : Nat), s.isL d = true ∧ (s.mir d).fencing = true ∧ t = s.setMir d
        { s.mir d with fencing := false } ∧ t.role d ≠ 2 ∧ t.role (partnerOf d) ≠ 1 ∧ s.role (partnerOf d) ≠ 1 ∧ u =
        (t.markUnprotected d).mirRelease d (fun _ => true) ∧ v = u.setMir d
        { u.mir d with outstanding := [], unconf := [], opened := [] } ∧ w = (v.fenceDie (partnerOf d)).putPair d 2) :=
  ⟨⟨(on.setMir 1 { ownFault := true }), 0, true, (on.mir 0), ⟨(by decide +kernel), (by decide +kernel), (by decide +kernel),
      (by decide +kernel), (by decide +kernel), (by decide +kernel), (by decide +kernel), (by decide +kernel),
      (by decide +kernel), (by decide +kernel)⟩⟩,
   ⟨(on.setMir 0 { wireFault := true }), 0, { wireFault := true }, ⟨(by decide +kernel), (by decide +kernel),
       (by decide +kernel), (by decide +kernel)⟩⟩,
   ⟨(on.setMir 0 { linkFault := true, linkLive := some 0 }), 0, 0, { linkFault := true, linkLive := some 0 },
       ⟨(by decide +kernel), (by decide +kernel), (by decide +kernel), (by decide +kernel), (by decide +kernel)⟩⟩,
   ⟨{ onL4 with pkg := { onL4.pkg with fenced := [0] } }.put 0 MIRR_STAT_role 4, 0, ⟨(by decide +kernel), (by decide +kernel),
       (by decide +kernel), (by decide +kernel), (by decide +kernel)⟩⟩,
   ⟨(on.setMir 1 { fencing := true }), _, _, 1, ⟨(by decide +kernel), (by decide +kernel), (by decide +kernel), rfl,
       (by decide +kernel), (by decide +kernel), rfl, (by decide +kernel)⟩⟩,
   ⟨(on.setMir 0 { fencing := true }).put 1 MIRR_STAT_role 2, _, _, _, _, 0, ⟨(by decide +kernel), (by decide +kernel), rfl,
       (by decide +kernel), (by decide +kernel), (by decide +kernel), rfl, rfl, rfl⟩⟩⟩

/-- Values that meet the hypotheses of Obligations.MirrorRowsComplete, clause by clause. -/
theorem witness_MirrorRowsComplete_part3 :
    (∃ (s : State) (d : Nat), s.isL d = true)
    ∧ (∃ (s t : State) (d : Nat), s.isL d = true ∧ s.role d = 3 ∧ s.role (partnerOf d) = 1 ∧ s.flag d MIRR_RS_PROG_running =
        true ∧ t = ((((((s.drainMirror (partnerOf d)).bulkCopy (partnerOf d) d).put d MIRR_STAT_role 2).putPair d 1).putB d
        MIRR_RS_PROG_running false).putB d MIRR_RS_PROG_done true).put d MIRR_RS_PROG_percent 100)
    ∧ (∃ (s : State) (d : Nat), s.isL d = true ∧ s.role d = 2 ∧ s.get d MIRR_ARC_LAG_entries ≠ 0) :=
  ⟨⟨on, 0, (by decide +kernel)⟩,
   ⟨(puts on [(1, MIRR_STAT_role, 3), (1, MIRR_RS_PROG_running, 1)]), _, 1, ⟨(by decide +kernel), (by decide +kernel),
       (by decide +kernel), (by decide +kernel), rfl⟩⟩,
   ⟨(on.put 1 MIRR_ARC_LAG_entries 1), 1, ⟨(by decide +kernel), (by decide +kernel), (by decide +kernel)⟩⟩⟩

/-- Values that meet the hypotheses of Obligations.MirrorCommandsComplete, clause by clause. -/
theorem witness_MirrorCommandsComplete_part1 :
    (∃ (s t : State) (d : Nat) (c : Cmd), s.isL d = true ∧ s.nextCmd d 0x50 = some c ∧ s.inPair d = true ∧ s.role d = 1 ∧ s.get
        d MIRR_STAT_pair_state = 1 ∧ t = s.swapRoles d)
    ∧ (∃ (s : State) (d : Nat) (c : Cmd), s.isL d = true ∧ s.nextCmd d 0x51 = some c ∧ s.inPair d = true ∧ (s.role d = 4 ∨
        s.role d = 5) ∧ s.pairBusy d = false)
    ∧ (∃ (s t : State) (d : Nat) (c : Cmd), s.isL d = true ∧ s.nextCmd d 0x55 = some c ∧ s.role d = 5 ∧ t =
        ({ s with pkg := { s.pkg with failures := s.pkg.failures.filter (fun f => f.1 != d) } } : State).put d MIRR_STAT_role 4
        ∧ (t.inPair d = false ∨ t.serving (partnerOf d) = false ∨ c.op 16 1 % 2 = 1))
    ∧ (∃ (s t : State) (d : Nat) (c : Cmd), s.isL d = true ∧ s.nextCmd d 0x55 = some c ∧ s.role d = 5 ∧ t =
        ({ s with pkg := { s.pkg with failures := s.pkg.failures.filter (fun f => f.1 != d) } } : State).put d MIRR_STAT_role 4
        ∧ t.inPair d = true ∧ t.serving (partnerOf d) = true ∧ c.op 16 1 % 2 = 0)
    ∧ (∃ (s t u v : State) (d f : Nat), s.isL d = true ∧ s.isF f = true ∧ s.serving d = true ∧ s.pkg.fenced.contains f = false ∧
        t = { s with pkg := { s.pkg with fenced := s.pkg.fenced ++ [f] } } ∧ u = (t.dieReset f false).raise d 136 (arg 0 f) ∧ v
        = u.setMir d { u.mir d with waits := (u.mir d).waits.filter (fun w => !w.2.releases f) })
    ∧ (∃ (s : State) (d id : Nat), d < s.nDies ∧ testOf (s.isL d) id = true ∧ s.alive d = true) :=
  ⟨⟨(inCmd (on.put 0 MIRR_STAT_pair_state 1) 0 0x50 []), _, 0, (cmdOf 0 0x50 []), ⟨(by decide +kernel), (by decide +kernel),
      (by decide +kernel), (by decide +kernel), (by decide +kernel), rfl⟩⟩,
   ⟨(inCmd (on.put 0 MIRR_STAT_role 5) 0 0x51 []), 0, (cmdOf 0 0x51 []), ⟨(by decide +kernel), (by decide +kernel),
       (by decide +kernel), (by decide +kernel), (by decide +kernel)⟩⟩,
   ⟨(inCmd (on.put 0 MIRR_STAT_role 5) 0 0x55 [(16, 1, 1)]), _, 0, (cmdOf 0 0x55 [(16, 1, 1)]), ⟨(by decide +kernel),
       (by decide +kernel), (by decide +kernel), rfl, (by decide +kernel)⟩⟩,
   ⟨(inCmd (puts on [(0, MIRR_STAT_role, 5), (1, MIRR_STAT_role, 1)]) 0 0x55 []), _, 0, (cmdOf 0 0x55 []), ⟨(by decide +kernel),
       (by decide +kernel), (by decide +kernel), rfl, (by decide +kernel), (by decide +kernel), (by decide +kernel)⟩⟩,
   ⟨on, _, _, _, 0, 2, ⟨(by decide +kernel), (by decide +kernel), (by decide +kernel), (by decide +kernel), rfl, rfl, rfl⟩⟩,
   ⟨on, 0, 5, ⟨(by decide +kernel), (by decide +kernel), (by decide +kernel)⟩⟩⟩

/-- Values that meet the hypotheses of Obligations.MirrorCommandsComplete, clause by clause. -/
theorem witness_MirrorCommandsComplete_part2 :
    (∃ (s t : State) (d id corrected : Nat), d < s.nDies ∧ testOf (s.isL d) id = true ∧ s.alive d = true ∧ t = s.testCount d id
        corrected true ∧ t.isF d = true)
    ∧ (∃ (s t : State) (d id corrected : Nat), d < s.nDies ∧ testOf (s.isL d) id = true ∧ s.alive d = true ∧ t = ((s.testCount d
        id corrected true).inc d MIRR_INVIG_FAIL_CNT).raise d 133 (arg 0 id) ∧ (s.testCount d id corrected true).isF d = false ∧
        t.role d ≠ 2 ∧ t.role d ≠ 1)
    ∧ (∃ (s : State) (d : Nat) (c : Cmd), d < s.nDies ∧ s.nextCmd d 0x54 = some c)
    ∧ (∃ (s t : State) (d bank : Nat) (img : Image) (c : Cmd), s.isL d = true ∧ s.nextCmd d 0x52 = some c ∧ c.op 24 4 ≠ 0 ∧ c.op
        24 4 ≤ 16 * 2 ^ 20 ∧ s.hif.longOps.any (fun o => o.opcode == 0x52 && o.done.isNone) = false ∧ signerOk (s.lock d).lc
        img.signer = true ∧ img.mainOk = true ∧ (s.lock d).fuses.svn ≤ img.svn ∧ bank = (if s.boot.preferred = 0 then 1 else 0)
        ∧ t = (s.setBoot { s.boot with images := smPut s.boot.images bank img, preferred := bank, trial := some bank }).raise d
        134 (arg 0 1))
    ∧ (∃ (s t u v : State) (d : Nat) (img : Image) (c : Cmd), d < s.nDies ∧ s.nextCmd d 0x53 = some c ∧ s.boot.nextImage = some
        img ∧ s.isF d = false ∧ s.pairBusy d = false ∧ s.inPair d = true ∧ s.role d = 2 ∧ s.get d MIRR_STAT_pair_state = 1 ∧ t =
        ((((s.startLong { cmd := c.id, die := d, opcode := 0x53, pos := 3 }).drainMirror (partnerOf d)).portFailover d).dieReset
        d false) ∧ u = ((t.put d MIRR_STAT_role 6).putPair d 2) ∧ v = ((u.putB d MIRR_FW_PROG_running true).putB d
        MIRR_FW_PROG_done false).put d MIRR_FW_PROG_step 3)
    ∧ (∃ (s t u : State) (d : Nat) (img : Image) (c : Cmd), d < s.nDies ∧ s.nextCmd d 0x53 = some c ∧ s.boot.nextImage = some
        img ∧ s.isF d = false ∧ s.pairBusy d = false ∧ s.inPair d = false ∧ s.role d = 0 ∧ img.svn ≤ (s.lock d).fuses.svn ∧ t =
        s.setBootDie d { s.bootDie d with pendingVersion := some img.version, version := img.version } ∧ u = ((t.putB d
        MIRR_STAT_meas_pending true).putB d MIRR_FW_PROG_done true).raise d 134 (arg 0 3)) :=
  ⟨⟨on, _, 2, 5, 0, ⟨(by decide +kernel), (by decide +kernel), (by decide +kernel), rfl, (by decide +kernel)⟩⟩,
   ⟨onL4, _, 0, 1, 0, ⟨(by decide +kernel), (by decide +kernel), (by decide +kernel), rfl, (by decide +kernel),
       (by decide +kernel), (by decide +kernel)⟩⟩,
   ⟨(inCmd on 0 0x54 []), 0, (cmdOf 0 0x54 []), ⟨(by decide +kernel), (by decide +kernel)⟩⟩,
   ⟨(inCmd (lockOf 0 []) 0 0x52 [(24, 4, 1)]), _, 0, _, img0, (cmdOf 0 0x52 [(24, 4, 1)]), ⟨(by decide +kernel),
       (by decide +kernel), (by decide +kernel), (by decide +kernel), (by decide +kernel), (by decide +kernel),
       (by decide +kernel), (by decide +kernel), rfl, rfl⟩⟩,
   ⟨(inCmd (mirOn (on.putPair 1 1) 1 {}) 1 0x53 []).setBoot { images := [(0, img0)] }, _, _, _, 1, img0, (cmdOf 1 0x53 []),
       ⟨(by decide +kernel), (by decide +kernel), (by decide +kernel), (by decide +kernel), (by decide +kernel),
       (by decide +kernel), (by decide +kernel), (by decide +kernel), rfl, rfl, rfl⟩⟩,
   ⟨(inCmd (onL4.setBoot { images := [(0, { img0 with svn := 0 })] }) 0 0x53 []), _, _, 0, { img0 with svn := 0 }, (cmdOf 0 0x53
       []), ⟨(by decide +kernel), (by decide +kernel), (by decide +kernel), (by decide +kernel), (by decide +kernel),
       (by decide +kernel), (by decide +kernel), (by decide +kernel), rfl, rfl⟩⟩⟩

/-- Values that meet the hypotheses of Obligations.FabricLinksComplete, clause by clause. -/
theorem witness_FabricLinksComplete_part1 :
    (∃ (s t : State) (d : Nat), s.isL d = true ∧ s.domOn d 11 = true ∧ t = (s.putB d EUF_CTRL_enable true).putB d
        EUF_STAT_cfg_error false ∧ t.get d EUF_STAT_port_state = 0 ∧ t.allRestored = true ∧ t.domOn d 11 = true)
    ∧ (∃ (s t u : State) (d lanes far : Nat), s.isL d = true ∧ s.get d EUF_STAT_port_state = 1 ∧ (lanes = 4 ∨ lanes = 2) ∧ t =
        ((s.put d EUF_STAT_port_state (if lanes = 4 then 2 else 3)).put d EUF_NEIGH_addr far).putB d EUF_NEIGH_valid true ∧ u =
        t.setEuf d { t.euf d with txNext := 0, rxNext := 0, out := [], progress := t.now, replays := 0, answer := none })
    ∧ (∃ (s : State) (d lanes : Nat), s.isL d = true ∧ s.get d EUF_STAT_port_state = 1 ∧ lanes ≠ 4 ∧ lanes ≠ 2)
    ∧ (∃ (s t : State) (d : Nat), s.isL d = true ∧ s.get d EUF_STAT_port_state = 4 ∧ s.due ((s.euf d).since + 100 * Config.tMs)
        = true ∧ t = s.put d EUF_STAT_port_state 1)
    ∧ (∃ (s t : State) (d : Nat), s.isL d = true ∧ (s.get d EUF_STAT_port_state = 2 ∨ s.get d EUF_STAT_port_state = 3) ∧ t =
        ((s.put d EUF_STAT_port_state 4).putB d EUF_NEIGH_valid false).inc d EUF_LINKDOWN_CNT)
    ∧ (∃ (s : State) (d : Nat), s.isL d = true ∧ s.get d EUF_STAT_port_state = 5) :=
  ⟨⟨on, _, 0, ⟨(by decide +kernel), (by decide +kernel), rfl, (by decide +kernel), (by decide +kernel), (by decide +kernel)⟩⟩,
   ⟨(on.put 0 EUF_STAT_port_state 1), _, _, 0, 4, 0, ⟨(by decide +kernel), (by decide +kernel), (by decide +kernel), rfl, rfl⟩⟩,
   ⟨(on.put 0 EUF_STAT_port_state 1), 0, 0, ⟨(by decide +kernel), (by decide +kernel), (by decide +kernel),
       (by decide +kernel)⟩⟩,
   ⟨(on.put 0 EUF_STAT_port_state 4), _, 0, ⟨(by decide +kernel), (by decide +kernel), (by decide +kernel), rfl⟩⟩,
   ⟨(on.put 0 EUF_STAT_port_state 2), _, 0, ⟨(by decide +kernel), (by decide +kernel), rfl⟩⟩,
   ⟨(on.put 0 EUF_STAT_port_state 5), 0, ⟨(by decide +kernel), (by decide +kernel)⟩⟩⟩

/-- Values that meet the hypotheses of Obligations.FabricLinksComplete, clause by clause. -/
theorem witness_FabricLinksComplete_part2 :
    (∃ (s : State) (d : Nat), s.isL d = true ∧ (s.get d EUF_STAT_port_state = 2 ∨ s.get d EUF_STAT_port_state = 3))
    ∧ (∃ (s : State) (d : Nat), s.isL d = true ∧ (s.get d EUF_STAT_port_state = 1 ∨ s.get d EUF_STAT_port_state = 4))
    ∧ (∃ (s t u : State) (d ackTo st : Nat) (x : FabMsg) (e : Euf) (out : List (Nat × FabMsg)), s.isL d = true ∧ s.get d
        EUF_STAT_port_state = st ∧ (st = 2 ∨ st = 3) ∧ out = (s.euf d).out.filter (fun o => decide (ackTo ≤ o.1)) ∧ e =
        { s.euf d with out := out, progress := if out.length < (s.euf d).out.length then s.now else (s.euf d).progress, replays := if out.length < (s.euf d).out.length then 0 else (s.euf d).replays, rxNext := (s.euf d).rxNext + 1 }
        ∧ t = s.setEuf d { e with answer := some (false, e.rxNext) } ∧ u = (t.inc d EUF_RX_MSG_CNT).setEuf d
        { t.euf d with inq := (t.euf d).inq ++ [x] } ∧ (u.euf d).replays < 32)
    ∧ (∃ (s : State) (d st : Nat), s.isL d = true ∧ s.get d EUF_STAT_port_state = st ∧ (st = 2 ∨ st = 3 ∨ st = 5))
    ∧ (∃ (s t : State) (d : Nat) (m : FabMsg) (c : FabCtl) (rest : List FabMsg), s.isL d = true ∧ (s.euf d).inq = m :: rest ∧
        m.body = .ctl c ∧ t = s.setEuf d { s.euf d with inq := rest })
    ∧ (∃ (s t : State) (d k : Nat) (m : FabMsg) (b : LedBody) (rest : List FabMsg), s.isL d = true ∧ (s.euf d).inq = m :: rest ∧
        m.body = .led b ∧ t = s.setEuf d { s.euf d with inq := rest } ∧ t.flag d EUF_STAT_excluded = false ∧ m.dst / 8 =
        t.ownPkg d ∧ t.numbered = true ∧ t.deliverDie m.dst = k ∧ t.isL k = true) :=
  ⟨⟨(on.put 0 EUF_STAT_port_state 2), 0, ⟨(by decide +kernel), (by decide +kernel)⟩⟩,
   ⟨(on.put 0 EUF_STAT_port_state 1), 0, ⟨(by decide +kernel), (by decide +kernel)⟩⟩,
   ⟨(eufOn on {}), _, _, 0, 0, 2, { dst := 0, src := 8, cls := 6, seq := 1, body := .led led0 }, _, _, ⟨(by decide +kernel),
       (by decide +kernel), (by decide +kernel), rfl, rfl, rfl, rfl, (by decide +kernel)⟩⟩,
   ⟨(on.put 0 EUF_STAT_port_state 5), 0, 5, ⟨(by decide +kernel), (by decide +kernel), (by decide +kernel)⟩⟩,
   ⟨(eufOn on { inq := [{ dst := 0, src := 0, cls := 0, seq := 0, body := .ctl .formed }] }), _, 0,
       { dst := 0, src := 0, cls := 0, seq := 0, body := .ctl .formed }, .formed, [], ⟨(by decide +kernel), (by decide +kernel),
       (by decide +kernel), rfl⟩⟩,
   ⟨(eufOn on { inq := [{ dst := 0, src := 8, cls := 6, seq := 1, body := .led led0 }] }).put 0 EUF_STAT_pkg_valid 1, _, 0, _,
       { dst := 0, src := 8, cls := 6, seq := 1, body := .led led0 }, led0, [], ⟨(by decide +kernel), (by decide +kernel),
       (by decide +kernel), rfl, (by decide +kernel), (by decide +kernel), (by decide +kernel), rfl, (by decide +kernel)⟩⟩⟩

/-- Values that meet the hypotheses of Obligations.FabricLinksComplete, clause by clause. -/
theorem witness_FabricLinksComplete_part3 :
    (∃ (s t : State) (d h : Nat) (m : FabMsg) (b : LedBody) (rest : List FabMsg), s.isL d = true ∧ (s.euf d).inq = m :: rest ∧
        m.body = .led b ∧ t = s.setEuf d { s.euf d with inq := rest } ∧ t.flag d EUF_STAT_excluded = false ∧ m.dst / 8 ≠
        t.ownPkg d ∧ m.ttl ≠ 0 ∧ t.hopFor d m.src m.dst m.cls = some h)
    ∧ (∃ (s t : State) (d : Nat) (m : FabMsg) (b : LedBody) (rest : List FabMsg), s.isL d = true ∧ (s.euf d).inq = m :: rest ∧
        m.body = .led b ∧ t = s.setEuf d { s.euf d with inq := rest } ∧ t.flag d EUF_STAT_excluded = false ∧ m.dst / 8 ≠
        t.ownPkg d ∧ m.ttl = 0)
    ∧ (∃ (s t : State) (d : Nat) (m : FabMsg) (b : LedBody) (rest : List FabMsg) (r : FlowDst), s.isL d = true ∧ (s.euf
        d).flowIn = m :: rest ∧ t = s.setEuf d { s.euf d with flowIn := rest } ∧ (t.flowSrc d m.cls m.src).unacked.filter (fun x
        => decide (m.ack < x.seq)) = (t.flowSrc d m.cls m.src).unacked ∧ m.body = .led b ∧ r = t.flowDst d m.cls m.src ∧ m.seq =
        r.expect)
    ∧ (∃ (s t : State) (d : Nat) (m : FabMsg) (b : LedBody) (rest : List FabMsg) (r : FlowDst), s.isL d = true ∧ (s.euf
        d).flowIn = m :: rest ∧ t = s.setEuf d { s.euf d with flowIn := rest } ∧ (t.flowSrc d m.cls m.src).unacked.filter (fun x
        => decide (m.ack < x.seq)) = (t.flowSrc d m.cls m.src).unacked ∧ m.body = .led b ∧ r = t.flowDst d m.cls m.src ∧ m.seq ≠
        r.expect)
    ∧ (∃ (s t : State) (d cls src at_ h : Nat) (r : FlowDst), s.isL d = true ∧ r = s.flowDst d cls src ∧ r.owed = some at_ ∧
        s.hopFor d (s.addrOf d) src cls = some h ∧ s.due (at_ + 20 * Config.tUs) = true ∧ t = s.setFlowDst d cls src
        { r with owed := none })
    ∧ (∃ (s : State) (d cls dst : Nat), s.isL d = true ∧ (s.flowSrc d cls dst).noRoute = none ∧ s.due ((s.flowSrc d cls
        dst).since + 200 * Config.tUs) = true) :=
  ⟨⟨(routeUp.setEuf 0 { routeUp.euf 0 with inq := [{ dst := 8, src := 0, cls := 6, seq := 1, body := .led led0 }] }), _, 0, 0,
      { dst := 8, src := 0, cls := 6, seq := 1, body := .led led0 }, led0, [], ⟨(by decide +kernel), (by decide +kernel),
      (by decide +kernel), rfl, (by decide +kernel), (by decide +kernel), (by decide +kernel), hopOne (by decide +kernel)⟩⟩,
   ⟨(eufOn on { inq := [{ dst := 8, src := 0, cls := 6, seq := 1, body := .led led0, ttl := 0 }] }), _, 0,
       { dst := 8, src := 0, cls := 6, seq := 1, body := .led led0, ttl := 0 }, led0, [], ⟨(by decide +kernel),
       (by decide +kernel), (by decide +kernel), rfl, (by decide +kernel), (by decide +kernel), (by decide +kernel)⟩⟩,
   ⟨(eufOn on { flowIn := [{ dst := 0, src := 8, cls := 6, seq := 1, body := .led led0 }] }), _, 0,
       { dst := 0, src := 8, cls := 6, seq := 1, body := .led led0 }, led0, [], {}, ⟨(by decide +kernel), (by decide +kernel),
       rfl, (by decide +kernel), (by decide +kernel), (by decide +kernel), (by decide +kernel)⟩⟩,
   ⟨(eufOn on { flowIn := [{ dst := 8, src := 0, cls := 6, seq := 7, body := .led led0 }] }), _, 0,
       { dst := 8, src := 0, cls := 6, seq := 7, body := .led led0 }, led0, [], {}, ⟨(by decide +kernel), (by decide +kernel),
       rfl, (by decide +kernel), (by decide +kernel), (by decide +kernel), (by decide +kernel)⟩⟩,
   ⟨routeUp, _, 0, 0, 8, 0, 0, { owed := some 0 }, ⟨(by decide +kernel), (by decide +kernel), (by decide +kernel), routeUp_hop,
       (by decide +kernel), rfl⟩⟩,
   ⟨on, 0, 0, 0, ⟨(by decide +kernel), (by decide +kernel), (by decide +kernel)⟩⟩⟩

/-- Values that meet the hypotheses of Obligations.FabricLinksComplete, clause by clause. -/
theorem witness_FabricLinksComplete_part4 : ∃ (s t u : State) (d cls dst at_ n : Nat) (f : FlowSrc), s.isL d = true ∧ s.flowSrc
    d cls dst = f ∧ f.noRoute = some at_ ∧ (f.unacked.filter (fun m => s.due (max at_ m.entered + s.unreachTicks d))).length = n
    ∧ n ≠ 0 ∧ t = s.setFlowSrc d cls dst
    { f with unacked := f.unacked.filter (fun m => !s.due (max at_ m.entered + s.unreachTicks d)) } ∧ u = (t.inc d
    EUF_UNREACH_CNT n).drainWaiting d (t.flowWaiting d).length :=
  ⟨(eufOn on { srcs := [(0, { unacked := [⟨1, led0, 0⟩], noRoute := some 0 })] }), _, _, 0, 0, 0, _, 1,
      { unacked := [⟨1, led0, 0⟩], noRoute := some 0 }, ⟨(by decide +kernel), (by decide +kernel), (Option.some_get
      (by decide +kernel)).symm, (by decide +kernel), (by decide +kernel), rfl, rfl⟩⟩

/-- Values that meet the hypotheses of Obligations.FabricControlCompletes, clause by clause. -/
theorem witness_FabricControlCompletes_part1 :
    (∃ (s t : State) (d p i : Nat), s.isL d = true ∧ s.fab.inbox.find? FabCtl.isCandidacy = some (.candidacy p i) ∧ t = s.setFab
        { s.fab with inbox := s.fab.inbox.erase (.candidacy p i) } ∧ t.fab.best.all (fun b => candBelow (p, i) b) = true)
    ∧ (∃ (s t : State) (d : Nat), s.isL d = true ∧ s.fab.best = some s.ownCand ∧ s.due (s.fab.quietFrom + 20 * Config.tMs) =
        true ∧ s.isCoord = false ∧ s.rcStage = 1 ∧ (s.eufAll EUF_STAT_coordinator 1).rcStage ≠ 6 ∧ t = (s.eufAll
        EUF_STAT_coordinator 1).eufAll EUF_STAT_rc_stage 2)
    ∧ (∃ (s : State) (d : Nat) (b : Nat × Nat), s.isL d = true ∧ s.fab.best = some b ∧ b ≠ s.ownCand ∧ s.due (s.fab.quietFrom +
        20 * Config.tMs) = true ∧ s.isCoord = false ∧ s.rcStage = 1)
    ∧ (∃ (s t u : State) (d i : Nat) (n : Option Nat), s.isL d = true ∧ s.fab.inbox.find? FabCtl.isClaim = some (.claim i n) ∧ t
        = s.setFab { s.fab with inbox := s.fab.inbox.erase (.claim i n) } ∧ t.fab.claims.contains (i, n) = false ∧ u = t.setFab
        { t.fab with claims := putClaim i n t.fab.claims })
    ∧ (∃ (s t : State) (d co : Nat) (l : List FabEnt), s.isL d = true ∧ s.fab.inbox.find? FabCtl.isClaim = some (.table co l) ∧
        t = s.setFab { s.fab with inbox := s.fab.inbox.erase (.table co l) } ∧ t.isCoord = false ∧ t.get 0 EUF_COORD_coord ≠ co)
    ∧ (∃ (s t u : State) (d : Nat) (r : LinkRec), s.isL d = true ∧ s.fab.inbox.find? FabCtl.isLinkState = some (.linkState r) ∧
        t = s.setFab { s.fab with inbox := s.fab.inbox.erase (.linkState r) } ∧ (smGet t.fab.links r.number).all (fun o =>
        decide (o.version < r.version) || o.identity != r.identity) = true ∧ r.number ≠ t.ownPkg 0 ∧ u = t.setFab
        { t.fab with links := smPut t.fab.links r.number r, table := t.fab.table.map (fun e => if e.number = some r.number then { e with partVer := r.partVer, seen := t.devTime t.acting } else e) })
        :=
  ⟨⟨(fabIn on [.candidacy 0 0]), _, 0, 0, 0, ⟨(by decide +kernel), (by decide +kernel), rfl, (by decide +kernel)⟩⟩,
   ⟨(on.eufAll EUF_STAT_rc_stage 1).setFab { best := some on.ownCand }, _, 0, ⟨(by decide +kernel), (by decide +kernel),
       (by decide +kernel), (by decide +kernel), (by decide +kernel), (by decide +kernel), rfl⟩⟩,
   ⟨(on.eufAll EUF_STAT_rc_stage 1).setFab { best := some (0, 77) }, 0, (0, 77), ⟨(by decide +kernel), (by decide +kernel),
       (by decide +kernel), (by decide +kernel), (by decide +kernel), (by decide +kernel)⟩⟩,
   ⟨(fabIn on [.claim 0 none]).eufAll EUF_STAT_coordinator 1, _, _, 0, 0, none, ⟨(by decide +kernel), (by decide +kernel), rfl,
       (by decide +kernel), rfl⟩⟩,
   ⟨(fabIn on [.table 5 []]), _, 0, 5, [], ⟨(by decide +kernel), (by decide +kernel), rfl, (by decide +kernel),
       (by decide +kernel)⟩⟩,
   ⟨(fabIn on [.linkState ⟨3, 0, 0, [], 0, 1⟩]), _, _, 0, ⟨3, 0, 0, [], 0, 1⟩, ⟨(by decide +kernel), (by decide +kernel), rfl,
       (by decide +kernel), (by decide +kernel), rfl⟩⟩⟩

/-- Values that meet the hypotheses of Obligations.FabricControlCompletes, clause by clause. -/
theorem witness_FabricControlCompletes_part2 :
    (∃ (s t : State) (d v : Nat) (runs : List (Nat × Nat)), s.isL d = true ∧ s.fab.inbox.find? FabCtl.isPartition = some
        (.partition v runs) ∧ t = s.setFab { s.fab with inbox := s.fab.inbox.erase (.partition v runs) } ∧ t.fab.version < v)
    ∧ (∃ (s t : State) (d a : Nat) (up : Bool), s.isL d = true ∧ s.fab.inbox.find? FabCtl.isOnline = some (.online a up) ∧ t =
        s.setFab { s.fab with inbox := s.fab.inbox.erase (.online a up) } ∧ t.isCoord = true)
    ∧ (∃ (s t : State) (d a : Nat) (up : Bool), s.isL d = true ∧ s.fab.inbox.find? FabCtl.isOnline = some (.online a up) ∧ t =
        s.setFab { s.fab with inbox := s.fab.inbox.erase (.online a up) } ∧ t.isCoord = false ∧ smGet t.fab.online a ≠ some up)
    ∧ (∃ (s t : State) (d : Nat), s.isL d = true ∧ s.fab.inbox.find? FabCtl.isOnline = some .formed ∧ t = s.setFab
        { s.fab with inbox := s.fab.inbox.erase .formed } ∧ t.rcStage = 5)
    ∧ (∃ (s : State) (d : Nat) (c : Cmd) (b : Bytes), s.isL d = true ∧ s.nextCmd d 0x60 = some c ∧ b = (fabLayout
        s.fab.table).flatMap (fun e => match e with | some x => x.bytes | none => emptyEnt))
    ∧ (∃ (s : State) (d : Nat) (runs : List (Nat × Nat)) (c : Cmd), s.isL d = true ∧ s.nextCmd d 0x61 = some c ∧ s.formed d =
        true ∧ s.fab.version < c.op 24 4 ∧ runs.any (fun r => !s.entryOk d r.2) = false ∧ s.orphans d runs = false) :=
  ⟨⟨(fabIn on [.partition 1 []]), _, 0, 1, [], ⟨(by decide +kernel), (by decide +kernel), rfl, (by decide +kernel)⟩⟩,
   ⟨(fabIn on [.online 0 true]).eufAll EUF_STAT_coordinator 1, _, 0, 0, true, ⟨(by decide +kernel), (by decide +kernel), rfl,
       (by decide +kernel)⟩⟩,
   ⟨(fabIn on [.online 0 true]), _, 0, 0, true, ⟨(by decide +kernel), (by decide +kernel), rfl, (by decide +kernel),
       (by decide +kernel)⟩⟩,
   ⟨(fabIn on [.formed]).eufAll EUF_STAT_rc_stage 5, _, 0, ⟨(by decide +kernel), (by decide +kernel), rfl,
       (by decide +kernel)⟩⟩,
   ⟨(inCmd on 0 0x60 []), 0, (cmdOf 0 0x60 []), _, ⟨(by decide +kernel), (by decide +kernel), rfl⟩⟩,
   ⟨(inCmd (on.eufAll EUF_STAT_rc_stage 6) 0 0x61 [(24, 4, 1)]), 0, [], (cmdOf 0 0x61 [(24, 4, 1)]), ⟨(by decide +kernel),
       (by decide +kernel), (by decide +kernel), (by decide +kernel), (by decide +kernel), (by decide +kernel)⟩⟩⟩

/-- Values that meet the hypotheses of Obligations.FabricControlCompletes, clause by clause. -/
theorem witness_FabricControlCompletes_part3 :
    (∃ (s : State) (d : Nat) (c : Cmd), s.isL d = true ∧ s.nextCmd d 0x62 = some c)
    ∧ (∃ (s t : State) (d n : Nat) (c : Cmd), s.isL d = true ∧ s.nextCmd d 0x63 = some c ∧ c.op 16 1 = n ∧ s.formed d = true ∧
        s.fab.table.any (fun e => e.number == some n && e.identity != s.identity) = false ∧ t = (s.setFab
        { s.fab with links := smDel s.fab.links (s.ownPkg 0), claims := putClaim s.identity (some n) s.fab.claims }).setNumber
        n) :=
  ⟨⟨(inCmd on 0 0x62 []), 0, (cmdOf 0 0x62 []), ⟨(by decide +kernel), (by decide +kernel)⟩⟩,
   ⟨(inCmd (on.eufAll EUF_STAT_rc_stage 6) 0 0x63 []).eufAll EUF_STAT_coordinator 1, _, 0, _, (cmdOf 0 0x63 []),
       ⟨(by decide +kernel), (by decide +kernel), rfl, (by decide +kernel), (by decide +kernel), rfl⟩⟩⟩

/-- Values that meet the hypotheses of Obligations.EthernetCompletes, clause by clause. -/
theorem witness_EthernetCompletes_part1 :
    (∃ (s t : State) (d : Nat), s.isPort d = true ∧ s.domOn d 13 = true ∧ s.ethState d = 0 ∧ (s.flag d ETH_CFG_auto = true ∨
        s.flag d ETH_CFG_duplex = true ∨ s.get d ETH_CFG_speed < 2) ∧ t = (((s.putB d ETH_CTRL_enable true).putB d
        ETH_STAT_cfg_error false).put d ETH_STAT_state 1))
    ∧ (∃ (s t u : State) (d n : Nat), s.isPort d = true ∧ t = s.putB d ETH_CTRL_enable false ∧ t.ethState d = 1 ∧ (t.eth
        d).backoff = none ∧ n = ((t.eth d).q1.filter (·.alarm)).length + (t.eth d).copies.length ∧ u = t.setEth d
        { t.eth d with q0 := [], q1 := [], copies := [], backoff := none, foreign := [], master := none, syncWait := none, dreqSent := none, pauseUntil := none, heldSince := none })
    ∧ (∃ (s t : State) (d : Nat) (up : Bool), s.isPort d = true ∧ s.flag d ETH_CFG_auto = false ∧ s.ethLink d ≠ up ∧ t = (s.putB
        d ETH_STAT_link up).raise d 122 (arg 0 (b2n up)))
    ∧ (∃ (s t : State) (d : Nat), s.isPort d = true ∧ s.ethState d ≠ 0 ∧ s.ethLink d = true ∧ t = s.inc d ETH_RX_OVF_CNT)
    ∧ (∃ (s : State) (d : Nat) (b : Bytes), s.isPort d = true ∧ s.ethState d ≠ 0 ∧ s.ethLink d = true ∧ (b.length < 64 ∨ leNat
        (b.drop (b.length - 4)) ≠ ieee32 (b.take (b.length - 4))))
    ∧ (∃ (s : State) (d : Nat) (b f : Bytes), s.isPort d = true ∧ s.ethState d ≠ 0 ∧ s.ethLink d = true ∧ 64 ≤ b.length ∧ f =
        b.take (b.length - 4) ∧ leNat (b.drop (b.length - 4)) = ieee32 f ∧ beNat (slice f 12 4) = 0x88080001 ∧ (slice f 0 6 =
        beBytes 6 0x0180C2000001 ∨ slice f 0 6 = s.ethMac d)) :=
  ⟨⟨on, _, 0, ⟨(by decide +kernel), (by decide +kernel), (by decide +kernel), (by decide +kernel), rfl⟩⟩,
   ⟨(ethUp on), _, _, 0, _, ⟨(by decide +kernel), rfl, (by decide +kernel), (by decide +kernel), rfl, rfl⟩⟩,
   ⟨(on.putB 0 ETH_CFG_auto false), _, 0, true, ⟨(by decide +kernel), (by decide +kernel), (by decide +kernel), rfl⟩⟩,
   ⟨(ethUp on), _, 0, ⟨(by decide +kernel), (by decide +kernel), (by decide +kernel), rfl⟩⟩,
   ⟨(ethUp on), 0, (fillBytes 64 0), ⟨(by decide +kernel), (by decide +kernel), (by decide +kernel), (by decide +kernel)⟩⟩,
   ⟨(ethUp on), 0, (pauseF ++ leBytes 4 (ieee32 pauseF)), pauseF, ⟨(by decide +kernel), (by decide +kernel),
       (by decide +kernel), (by decide +kernel), (by decide +kernel), (by decide +kernel), (by decide +kernel),
       (by decide +kernel)⟩⟩⟩

/-- Values that meet the hypotheses of Obligations.EthernetCompletes, clause by clause. -/
theorem witness_EthernetCompletes_part2 :
    (∃ (s : State) (d : Nat) (b f : Bytes), s.isPort d = true ∧ s.ethState d ≠ 0 ∧ s.ethLink d = true ∧ 64 ≤ b.length ∧ f =
        b.take (b.length - 4) ∧ leNat (b.drop (b.length - 4)) = ieee32 f ∧ beNat (slice f 12 4) ≠ 0x88080001 ∧ (s.ethForMe d f =
        false ∨ 1522 < b.length))
    ∧ (∃ (s : State) (d : Nat) (vid : Option Nat) (b f g : Bytes), s.isPort d = true ∧ s.ethState d ≠ 0 ∧ s.ethLink d = true ∧
        64 ≤ b.length ∧ b.length ≤ 1522 ∧ f = b.take (b.length - 4) ∧ leNat (b.drop (b.length - 4)) = ieee32 f ∧ beNat (slice f
        12 4) ≠ 0x88080001 ∧ s.ethForMe d f = true ∧ untag f = (vid, g))
    ∧ (∃ (s t u : State) (d start x r : Nat) (f : EthFrame), s.isPort d = true ∧ (s.eth d).cur = some (f, start, x) ∧ s.flag d
        ETH_STAT_duplex = false ∧ t = (s.setEth d { s.eth d with cur := none }).inc d ETH_COLL_CNT ∧ 10 * (t.now - start) ≤ 72 *
        t.byteNs d ∧ f.attempts < 16 ∧ t.freeBelow (2 ^ min f.attempts 10) = (r, u))
    ∧ (∃ (s t : State) (d start x : Nat) (f : EthFrame), s.isPort d = true ∧ (s.eth d).cur = some (f, start, x) ∧ s.flag d
        ETH_STAT_duplex = false ∧ t = (s.setEth d { s.eth d with cur := none }).inc d ETH_COLL_CNT ∧ 72 * t.byteNs d < 10 *
        (t.now - start))
    ∧ (∃ (s t : State) (d start x : Nat) (f : EthFrame), s.isPort d = true ∧ (s.eth d).cur = some (f, start, x) ∧ s.flag d
        ETH_STAT_duplex = false ∧ t = (s.setEth d { s.eth d with cur := none }).inc d ETH_COLL_CNT ∧ 10 * (t.now - start) ≤ 72 *
        t.byteNs d ∧ 16 ≤ f.attempts)
    ∧ (∃ (s : State) (d t : Nat) (f : EthFrame), s.isPort d = true ∧ (s.eth d).backoff = some (f, t) ∧ s.due t = true ∧
        s.ethLink d = true ∧ s.ethState d ≠ 0) :=
  ⟨⟨(ethUp on), 0, (fillBytes 60 0x22 ++ leBytes 4 (ieee32 (fillBytes 60 0x22))), _, ⟨(by decide +kernel), (by decide +kernel),
      (by decide +kernel), (by decide +kernel), rfl, (by decide +kernel), (by decide +kernel), (by decide +kernel)⟩⟩,
   ⟨(ethUp on), 0, none, (fillBytes 60 0xFF ++ leBytes 4 (ieee32 (fillBytes 60 0xFF))), (fillBytes 60 0xFF), (fillBytes 60
       0xFF), ⟨(by decide +kernel), (by decide +kernel), (by decide +kernel), (by decide +kernel), (by decide +kernel),
       (by decide +kernel), (by decide +kernel), (by decide +kernel), (by decide +kernel), (by decide +kernel)⟩⟩,
   ⟨(ethOn { cur := some (frmE, 10 ^ 12, 0) }).putB 0 ETH_STAT_duplex false, _, _, 0, (10 ^ 12), 0, _, frmE,
       ⟨(by decide +kernel), (by decide +kernel), (by decide +kernel), rfl, (by decide +kernel), (by decide +kernel),
       Prod.mk.eta.symm⟩⟩,
   ⟨(ethOn { cur := some (frmE, 0, 0) }).putB 0 ETH_STAT_duplex false, _, 0, 0, 0, frmE, ⟨(by decide +kernel),
       (by decide +kernel), (by decide +kernel), rfl, (by decide +kernel)⟩⟩,
   ⟨(ethOn { cur := some ({ frmE with attempts := 16 }, 10 ^ 12, 0) }).putB 0 ETH_STAT_duplex false, _, 0, (10 ^ 12), 0,
       { frmE with attempts := 16 }, ⟨(by decide +kernel), (by decide +kernel), (by decide +kernel), rfl, (by decide +kernel),
       (by decide +kernel)⟩⟩,
   ⟨(ethOn { backoff := some (frmE, 0) }), 0, 0, frmE, ⟨(by decide +kernel), (by decide +kernel), (by decide +kernel),
       (by decide +kernel), (by decide +kernel)⟩⟩⟩

/-- Values that meet the hypotheses of Obligations.EthernetCompletes, clause by clause. -/
theorem witness_EthernetCompletes_part3 :
    (∃ (s : State) (d t : Nat), s.isPort d = true ∧ (s.eth d).pauseUntil = some t ∧ s.due t = true)
    ∧ (∃ (s u : State) (d t : Nat), s.isPort d = true ∧ (s.eth d).heldSince = some t ∧ s.due (t + s.pauseWd d) = true ∧ u =
        s.setEth d { s.eth d with pauseUntil := none, heldSince := none, ignoreUntil := some (s.now + Config.tS) })
    ∧ (∃ (s : State) (d t : Nat), s.isPort d = true ∧ (s.eth d).ignoreUntil = some t ∧ s.due t = true)
    ∧ (∃ (s t : State) (d seq : Nat) (b : Bytes), s.isPort d = true ∧ s.flag d ETH_CTRL_ptp_en = true ∧ s.ethState d = 1 ∧
        (s.eth d).master ≠ none ∧ (s.eth d).dreqAt.all (fun t => s.due (t + s.dreqTicks d)) = true ∧ seq = ((s.eth d).dreqSeq +
        1) % 65536 ∧ b = s.delayReq d seq ∧ t = s.setEth d
        { s.eth d with dreqSeq := seq, dreqAt := some s.now, ipId := ((s.eth d).ipId + s.get d ETH_PTP_transport) % 65536 })
    ∧ (∃ (s : State) (d : Nat) (p : Bytes), s.isPort d = true ∧ (s.eth d).master = some p ∧ s.due ((s.eth d).syncAt + 3 *
        Config.tS) = true)
    ∧ (∃ (s t : State) (d : Nat), s.isPort d = true ∧ t = s.putB d ETH_MDIO_go false ∧ t.flag d ETH_MDIO_op = false) :=
  ⟨⟨(ethOn { pauseUntil := some 0 }), 0, 0, ⟨(by decide +kernel), (by decide +kernel), (by decide +kernel)⟩⟩,
   ⟨(ethOn { heldSince := some 0 }), _, 0, 0, ⟨(by decide +kernel), (by decide +kernel), (by decide +kernel), rfl⟩⟩,
   ⟨(ethOn { ignoreUntil := some 0 }), 0, 0, ⟨(by decide +kernel), (by decide +kernel), (by decide +kernel)⟩⟩,
   ⟨(ethOn { master := some [] }).putB 0 ETH_CTRL_ptp_en true, _, 0, _, _, ⟨(by decide +kernel), (by decide +kernel),
       (by decide +kernel), (by decide +kernel), (by decide +kernel), rfl, rfl, rfl⟩⟩,
   ⟨(ethOn { master := some [] }), 0, _, ⟨(by decide +kernel), (Option.some_get (by decide +kernel)).symm,
       (by decide +kernel)⟩⟩,
   ⟨on, _, 0, ⟨(by decide +kernel), rfl, (by decide +kernel)⟩⟩⟩

/-- Values that meet the hypotheses of Obligations.EthernetCompletes, clause by clause. -/
theorem witness_EthernetCompletes_part4 : ∃ (s t : State) (d : Nat), s.isPort d = true ∧ t = s.putB d ETH_MDIO_go false ∧ t.flag
    d ETH_MDIO_op = true :=
  ⟨(on.putB 0 ETH_MDIO_op true), _, 0, ⟨(by decide +kernel), rfl, (by decide +kernel)⟩⟩

/-- Values that meet the hypotheses of Obligations.DirectAlarmCompletes, clause by clause. -/
theorem witness_DirectAlarmCompletes :
    (∃ (s : State) (d : Nat), s.isPort d = true ∧ tplOk (s.ethTpl d) = true ∧ s.alarmKeyOk d = true)
    ∧ (∃ (s : State) (d : Nat), s.isPort d = true ∧ (tplOk (s.ethTpl d) = false ∨ s.alarmKeyOk d = false))
    ∧ (∃ (s : State) (d t : Nat), s.isPort d = true ∧ s.flag d ETH_CTRL_alarm_en = true ∧ s.flag d ETH_STAT_alarm_active = false
        ∧ (s.hif.portsDown = some t ∨ s.scFullSince = some t) ∧ s.due (t + max 1 (s.get d ETH_ALARM_wait_ms) * Config.tMs) =
        true)
    ∧ (∃ (s t : State) (d n m : Nat) (p : Packet), s.isL d = true ∧ (s.eth d).alarmNext = some n ∧ (s.que d 0).packets.find?
        (fun p => decide (n ≤ p.seq)) = some p ∧ p.applied = true ∧ t = s.setEth d
        { s.eth d with alarmNext := some (p.seq + 1) } ∧ t.alarmMac = some m)
    ∧ (∃ (s t : State) (d n : Nat) (p : Packet), s.isL d = true ∧ (s.eth d).alarmNext = some n ∧ (s.que d 0).packets.find?
        (fun p => decide (n ≤ p.seq)) = some p ∧ p.applied = true ∧ t = s.setEth d
        { s.eth d with alarmNext := some (p.seq + 1) } ∧ t.alarmMac = none)
    ∧ (∃ (s t : State) (d : Nat) (c : AlarmCopy) (r : List AlarmCopy), s.isPort d = true ∧ (s.eth d).copies = c :: r ∧ s.due
        c.due = true ∧ t = s.setEth d { s.eth d with copies := r } ∧ t.ethUp d = true)
    ∧ (∃ (s t : State) (d m : Nat) (c : AlarmCopy) (r : List AlarmCopy), s.isPort d = true ∧ (s.eth d).copies = c :: r ∧ s.due
        c.due = true ∧ t = s.setEth d { s.eth d with copies := r } ∧ t.ethUp d = false ∧ t.alarmMac = some m)
    ∧ (∃ (s t : State) (d : Nat) (c : AlarmCopy) (r : List AlarmCopy), s.isPort d = true ∧ (s.eth d).copies = c :: r ∧ s.due
        c.due = true ∧ t = s.setEth d { s.eth d with copies := r } ∧ t.ethUp d = false ∧ t.alarmMac = none) :=
  ⟨⟨(puts (lockOf 0 [(64, slot0 2 (2 ^ useMac))]) [(0, ETH_ALARM_KEY_slot, 64), (0, ETH_TPLw_bytes, 0)] |>.put 0 ETH_TPLw_bytes
      0x00450008 3 |>.put 0 ETH_TPLw_bytes 0x11000000 5), 0, ⟨(by decide +kernel), (by decide +kernel), (by decide +kernel)⟩⟩,
   ⟨on, 0, ⟨(by decide +kernel), (by decide +kernel)⟩⟩,
   ⟨(on.putB 0 ETH_CTRL_alarm_en true), 0, 0, ⟨(by decide +kernel), (by decide +kernel), (by decide +kernel),
       (by decide +kernel), (by decide +kernel)⟩⟩,
   ⟨(((ethOn { alarmNext := some 0 }).putB 0 ETH_CTRL_alarm_en true).setQue 0 0 { packets := [{ pkt0 with applied := true }] }),
       _, 0, 0, 0, { pkt0 with applied := true }, ⟨(by decide +kernel), (by decide +kernel), (by decide +kernel),
       (by decide +kernel), rfl, (by decide +kernel)⟩⟩,
   ⟨(on.setEth 0 { alarmNext := some 0 }).setQue 0 0 { packets := [{ pkt0 with applied := true }] }, _, 0, 0,
       { pkt0 with applied := true }, ⟨(by decide +kernel), (by decide +kernel), (by decide +kernel), (by decide +kernel), rfl,
       (by decide +kernel)⟩⟩,
   ⟨(ethOn { copies := [⟨0, 0, 0, 0, [], 0, [], 0, 0⟩] }), _, 0, ⟨0, 0, 0, 0, [], 0, [], 0, 0⟩, [], ⟨(by decide +kernel),
       (by decide +kernel), (by decide +kernel), rfl, (by decide +kernel)⟩⟩,
   ⟨((ethUp on).putB 0 ETH_CTRL_alarm_en true).setEth 1 { copies := [⟨0, 0, 0, 0, [], 0, [], 0, 0⟩] }, _, 1, 0, ⟨0, 0, 0, 0, [],
       0, [], 0, 0⟩, [], ⟨(by decide +kernel), (by decide +kernel), (by decide +kernel), rfl, (by decide +kernel),
       (by decide +kernel)⟩⟩,
   ⟨(on.setEth 0 { copies := [⟨0, 0, 0, 0, [], 0, [], 0, 0⟩] }), _, 0, ⟨0, 0, 0, 0, [], 0, [], 0, 0⟩, [], ⟨(by decide +kernel),
       (by decide +kernel), (by decide +kernel), rfl, (by decide +kernel), (by decide +kernel)⟩⟩⟩

/-- Values that meet the hypotheses of Obligations.SlateCompletes, clause by clause. -/
theorem witness_SlateCompletes_part1 :
    (∃ (s t : State) (d : Nat), s.isF d = true ∧ t = s.putB d SLATE_CTRL_enable true ∧ t.slateState d = 0)
    ∧ (∃ (s t : State) (d : Nat), s.isF d = true ∧ t = s.putB d SLATE_CTRL_enable false ∧ t.slateState d = 1)
    ∧ (∃ (s t u : State) (d : Nat), s.isF d = true ∧ t = s.putB d SLATE_CTRL_enable false ∧ t.slateState d = 2 ∧ t.isEpd d =
        false ∧ u = (t.putB d SLATE_STAT_deferred false).putB d SLATE_STAT_refresh_pending false)
    ∧ (∃ (s t : State) (d v : Nat), s.isF d = true ∧ s.slateState d = 1 ∧ s.isEpd d = false ∧ v = s.vlcdOf d (s.slateT d) ∧ t =
        s.setSlate d { s.slate d with vlcdGoal := v })
    ∧ (∃ (s : State) (d : Nat), s.isF d = true ∧ s.slateState d = 1 ∧ s.isEpd d = true)
    ∧ (∃ (s t : State) (d : Nat), s.isF d = true ∧ s.slateState d = 5 ∧ (s.slate d).brown = false ∧ t = ((((s.put d
        SLATE_STAT_state 0).putVlcd d 0).slateStore d).raise d 76) ∧ t.flag d SLATE_CTRL_enable = false) :=
  ⟨⟨on, _, 2, ⟨(by decide +kernel), rfl, (by decide +kernel)⟩⟩,
   ⟨(slaOn 1 {}), _, 2, ⟨(by decide +kernel), rfl, (by decide +kernel)⟩⟩,
   ⟨(slaOn 2 {}), _, _, 2, ⟨(by decide +kernel), rfl, (by decide +kernel), (by decide +kernel), rfl⟩⟩,
   ⟨(slaOn 1 {}), _, 2, _, ⟨(by decide +kernel), (by decide +kernel), (by decide +kernel), rfl, rfl⟩⟩,
   ⟨(slaOn 1 {}).put 2 SLATE_CFG_type 1, 2, ⟨(by decide +kernel), (by decide +kernel), (by decide +kernel)⟩⟩,
   ⟨(slaOn 5 {}), _, 2, ⟨(by decide +kernel), (by decide +kernel), (by decide +kernel), rfl, (by decide +kernel)⟩⟩⟩

/-- Values that meet the hypotheses of Obligations.SlateCompletes, clause by clause. -/
theorem witness_SlateCompletes_part2 :
    (∃ (s : State) (d : Nat), s.isF d = true ∧ s.slateState d ≠ 0 ∧ s.slateState d ≠ 5 ∧ (s.isEpd d = false ∨ s.flag d
        SLATE_STAT_wf_ok = true))
    ∧ (∃ (s : State) (d : Nat), s.isF d = true ∧ s.slateState d ≠ 0 ∧ s.slateState d ≠ 5 ∧ s.isEpd d = true ∧ s.flag d
        SLATE_STAT_wf_ok = false)
    ∧ (∃ (s : State) (d : Nat), s.isF d = true)
    ∧ (∃ (s t u : State) (d : Nat) (temp : Int), s.isF d = true ∧ temp = s.slateSample d ∧ t = (s.putZ d SLATE_TEMP_temp
        temp).put d SLATE_STAT_band (s.slateBandOf d temp) ∧ u = t.setSlate d { t.slate d with vlcdGoal := t.vlcdOf d temp })
    ∧ (∃ (s : State) (d : Nat), s.isF d = true)
    ∧ (∃ (s : State) (d : Nat), s.isF d = true ∧ s.slateState d = 2 ∧ s.isEpd d = false ∧ (s.slate d).stopping = true) :=
  ⟨⟨(slaOn 2 {}).putB 2 SLATE_STAT_wf_ok true, 2, ⟨(by decide +kernel), (by decide +kernel), (by decide +kernel),
      (by decide +kernel)⟩⟩,
   ⟨(slaOn 2 {}).put 2 SLATE_CFG_type 1, 2, ⟨(by decide +kernel), (by decide +kernel), (by decide +kernel), (by decide +kernel),
       (by decide +kernel)⟩⟩,
   ⟨on, 2, (by decide +kernel)⟩,
   ⟨on, _, _, 2, _, ⟨(by decide +kernel), rfl, rfl, rfl⟩⟩,
   ⟨on, 2, (by decide +kernel)⟩,
   ⟨(slaOn 2 { stopping := true }), 2, ⟨(by decide +kernel), (by decide +kernel), (by decide +kernel), (by decide +kernel)⟩⟩⟩

/-- Values that meet the hypotheses of Obligations.SlateCompletes, clause by clause. -/
theorem witness_SlateCompletes_part3 :
    (∃ (s : State) (d v : Nat), s.isF d = true ∧ s.slateState d = 2 ∧ s.isEpd d = false ∧ (s.slate d).stopping = false ∧ s.get d
        PWR_STAT_recess = 0 ∧ (s.slate d).next = none ∧ v = (if (s.slate d).vlcd < (s.slate d).vlcdGoal then min (s.slate
        d).vlcdGoal ((s.slate d).vlcd + 50) else max (s.slate d).vlcdGoal ((s.slate d).vlcd - 50)))
    ∧ (∃ (s t u : State) (d v : Nat) (img : List Nat), s.isF d = true ∧ s.slateState d = 2 ∧ s.isEpd d = false ∧ (s.slate
        d).stopping = false ∧ s.get d PWR_STAT_recess = 0 ∧ (s.slate d).next = some img ∧ v = (if (s.slate d).vlcd < (s.slate
        d).vlcdGoal then min (s.slate d).vlcdGoal ((s.slate d).vlcd + 50) else max (s.slate d).vlcdGoal ((s.slate d).vlcd - 50))
        ∧ t = s.putVlcd d v ∧ t.switchGap = false ∧ u = (t.putShown d img).setSlate d { t.slate d with next := none })
    ∧ (∃ (s t : State) (d : Nat) (r r' : SlateRun), s.isF d = true ∧ (s.slate d).run = some r ∧ s.due (r.since + (s.slate
        d).runMs r * Config.tMs) = true ∧ r.step ≠ .compensate ∧ r.phase + 1 < (s.slate d).phases r.band ∧ r' =
        { r with phase := r.phase + 1, since := s.now } ∧ t = s.setSlate d { s.slate d with run := some r' })
    ∧ (∃ (s : State) (d : Nat) (r : SlateRun), s.isF d = true ∧ (s.slate d).run = some r ∧ s.due (r.since + (s.slate d).runMs r
        * Config.tMs) = true ∧ (r.step = .update ∨ r.step = .refresh) ∧ (s.slate d).phases r.band ≤ r.phase + 1) :=
  ⟨⟨(slaOn 2 { vlcdGoal := 3000 }), 2, _, ⟨(by decide +kernel), (by decide +kernel), (by decide +kernel), (by decide +kernel),
      (by decide +kernel), (by decide +kernel), rfl⟩⟩,
   ⟨(slaOn 2 { next := some [] }), _, _, 2, _, [], ⟨(by decide +kernel), (by decide +kernel), (by decide +kernel),
       (by decide +kernel), (by decide +kernel), (by decide +kernel), rfl, rfl, (by decide +kernel), rfl⟩⟩,
   ⟨(slaOn 2 { run := some ⟨.update, 0, 0, 0, 0, 0, 0, 0⟩, wave := [(0, 3)] }), _, 2, ⟨.update, 0, 0, 0, 0, 0, 0, 0⟩, _,
       ⟨(by decide +kernel), (by decide +kernel), (by decide +kernel), (by decide +kernel), (by decide +kernel), rfl, rfl⟩⟩,
   ⟨(slaOn 2 { run := some ⟨.update, 0, 0, 0, 0, 0, 0, 0⟩ }), 2, ⟨.update, 0, 0, 0, 0, 0, 0, 0⟩, ⟨(by decide +kernel),
       (by decide +kernel), (by decide +kernel), (by decide +kernel), (by decide +kernel)⟩⟩⟩

/-- Values that meet the hypotheses of Obligations.ClocksComplete, clause by clause. -/
theorem witness_ClocksComplete_part1 :
    (∃ (s : State) (d : Nat), d < s.nDies)
    ∧ (∃ (s : State) (d : Nat), d < s.nDies ∧ s.get d CLK_STAT_quality = 0)
    ∧ (∃ (s : State) (d : Nat), d < s.nDies ∧ s.get d CLK_STAT_quality ≠ 0)
    ∧ (∃ (s : State) (d h : Nat), d < s.nDies ∧ s.get d CLK_STAT_quality = 1 ∧ (s.disc d).lockNow = false ∧ (s.disc d).holdFrom
        = some h)
    ∧ (∃ (s : State) (d : Nat), d < s.nDies ∧ s.get d CLK_STAT_quality ≠ 1)
    ∧ (∃ (s : State) (d ticks : Nat), d < s.nDies ∧ s.stepNs d < 10 * ticks) :=
  ⟨⟨on, 0, (by decide +kernel)⟩,
   ⟨(on.put 0 CLK_STAT_quality 0), 0, ⟨(by decide +kernel), (by decide +kernel)⟩⟩,
   ⟨on, 0, ⟨(by decide +kernel), (by decide +kernel)⟩⟩,
   ⟨(on.put 0 CLK_STAT_quality 1).setDisc 0 { holdFrom := some 0 }, 0, 0, ⟨(by decide +kernel), (by decide +kernel),
       (by decide +kernel), (by decide +kernel)⟩⟩,
   ⟨on, 0, ⟨(by decide +kernel), (by decide +kernel)⟩⟩,
   ⟨on, 0, (10 ^ 10), ⟨(by decide +kernel), (by decide +kernel)⟩⟩⟩

/-- Values that meet the hypotheses of Obligations.ClocksComplete, clause by clause. -/
theorem witness_ClocksComplete_part2 :
    (∃ (s : State) (d ticks : Nat), d < s.nDies ∧ 10 * ticks ≤ s.stepNs d)
    ∧ (∃ (s : State) (d : Nat), s.isPort d = true)
    ∧ (∃ (s t : State) (d : Nat) (e : Int), s.isPort d = true ∧ (s.disc d).ptp = some e ∧ t = s.setDisc d
        { s.disc d with ptp := none })
    ∧ (∃ (s : State) (d : Nat), s.isPort d = true ∧ (s.disc d).ptp = none)
    ∧ (∃ (s : State) (d : Nat) (rising : Bool), s.isPort d = true ∧ ((s.flag d CLK_PPS_in_en = false ∨ rising = s.flag d
        CLK_PPS_in_pol)))
    ∧ (∃ (s t u : State) (d : Nat) (rising : Bool), s.isPort d = true ∧ s.flag d CLK_PPS_in_en = true ∧ rising ≠ s.flag d
        CLK_PPS_in_pol ∧ t = (s.setDisc d { s.disc d with ppsLast := some s.now, ppsLost := false }).putB d CLK_STAT_pps_ok true
        ∧ u = (if (s.disc d).ppsLost then t.raise d 27 (arg 0 1) else t) ∧ d ≠ u.ppsTaker) :=
  ⟨⟨on, 0, 0, ⟨(by decide +kernel), (by decide +kernel)⟩⟩,
   ⟨on, 0, (by decide +kernel)⟩,
   ⟨(puts on [(0, ETH_CTRL_ptp_en, 1), (0, ETH_STAT_state, 1)]).setEth 0 { master := some [] } |>.setDisc 0 { ptp := some 5 },
       _, 0, 5, ⟨(by decide +kernel), (by decide +kernel), rfl⟩⟩,
   ⟨on, 0, ⟨(by decide +kernel), (by decide +kernel)⟩⟩,
   ⟨on, 0, true, ⟨(by decide +kernel), (by decide +kernel)⟩⟩,
   ⟨(puts on [(1, CLK_PPS_in_en, 1), (1, CLK_PPS_in_pol, 0)]), _, _, 1, true, ⟨(by decide +kernel), (by decide +kernel),
       (by decide +kernel), rfl, rfl, (by decide +kernel)⟩⟩⟩

/-- Values that meet the hypotheses of Obligations.ClocksComplete, clause by clause. -/
theorem witness_ClocksComplete_part3 :
    (∃ (s t u : State) (d : Nat) (rising : Bool), s.isPort d = true ∧ s.flag d CLK_PPS_in_en = true ∧ rising ≠ s.flag d
        CLK_PPS_in_pol ∧ t = (s.setDisc d { s.disc d with ppsLast := some s.now, ppsLost := false }).putB d CLK_STAT_pps_ok true
        ∧ u = (if (s.disc d).ppsLost then t.raise d 27 (arg 0 1) else t) ∧ d = u.ppsTaker ∧ u.devNs d % 1000000000 ≤ 100000000)
    ∧ (∃ (s t u : State) (d : Nat) (rising : Bool), s.isPort d = true ∧ s.flag d CLK_PPS_in_en = true ∧ rising ≠ s.flag d
        CLK_PPS_in_pol ∧ t = (s.setDisc d { s.disc d with ppsLast := some s.now, ppsLost := false }).putB d CLK_STAT_pps_ok true
        ∧ u = (if (s.disc d).ppsLost then t.raise d 27 (arg 0 1) else t) ∧ d = u.ppsTaker ∧ 900000000 ≤ u.devNs d % 1000000000)
    ∧ (∃ (s t u : State) (d : Nat) (rising : Bool), s.isPort d = true ∧ s.flag d CLK_PPS_in_en = true ∧ rising ≠ s.flag d
        CLK_PPS_in_pol ∧ t = (s.setDisc d { s.disc d with ppsLast := some s.now, ppsLost := false }).putB d CLK_STAT_pps_ok true
        ∧ u = (if (s.disc d).ppsLost then t.raise d 27 (arg 0 1) else t) ∧ d = u.ppsTaker ∧ 100000000 < u.devNs d % 1000000000 ∧
        u.devNs d % 1000000000 < 900000000)
    ∧ (∃ (s : State) (d : Nat), s.isPort d = true ∧ s.flag d CLK_PPS_in_en = true ∧ (s.disc d).ppsLost = false ∧ s.due ((s.disc
        d).ppsLast.getD 0 + 3 * Config.tS) = true)
    ∧ (∃ (s : State) (d : Nat), s.isPort d = true ∧ ((s.flag d CLK_PPS_in_en = false ∨ (s.disc d).ppsLost = true ∨ s.due
        ((s.disc d).ppsLast.getD 0 + 3 * Config.tS) = false)))
    ∧ (∃ (s t : State) (d : Nat), s.isPort d = true ∧ s.flag d CLK_CTRL_pps_out_en = true ∧ s.flag d CLK_STAT_master = true ∧
        (s.disc d).ppsSec < s.devTime d / 10 ^ 8 ∧ t = s.setDisc d
        { s.disc d with ppsSec := s.devTime d / 10 ^ 8, ppsOff := some (s.now + s.ppsWidth d) }) :=
  ⟨⟨(puts on [(0, CLK_PPS_in_en, 1), (0, CLK_PPS_in_pol, 0)]), _, _, 0, true, ⟨(by decide +kernel), (by decide +kernel),
      (by decide +kernel), rfl, rfl, (by decide +kernel), (by decide +kernel)⟩⟩,
   ⟨(puts on [(0, CLK_PPS_in_en, 1), (0, CLK_PPS_in_pol, 0)]).setCom 0 { clk := 10 ^ 21 + 95 * 10 ^ 15 }, _, _, 0, true,
       ⟨(by decide +kernel), (by decide +kernel), (by decide +kernel), rfl, rfl, (by decide +kernel), (by decide +kernel)⟩⟩,
   ⟨(puts on [(0, CLK_PPS_in_en, 1), (0, CLK_PPS_in_pol, 0)]).setCom 0 { clk := 10 ^ 21 + 50 * 10 ^ 15 }, _, _, 0, true,
       ⟨(by decide +kernel), (by decide +kernel), (by decide +kernel), rfl, rfl, (by decide +kernel), (by decide +kernel),
       (by decide +kernel)⟩⟩,
   ⟨(on.putB 0 CLK_PPS_in_en true), 0, ⟨(by decide +kernel), (by decide +kernel), (by decide +kernel), (by decide +kernel)⟩⟩,
   ⟨on, 0, ⟨(by decide +kernel), (by decide +kernel)⟩⟩,
   ⟨(puts on [(0, CLK_CTRL_pps_out_en, 1), (0, CLK_STAT_master, 1)]), _, 0, ⟨(by decide +kernel), (by decide +kernel),
       (by decide +kernel), (by decide +kernel), rfl⟩⟩⟩

/-- Values that meet the hypotheses of Obligations.ClocksComplete, clause by clause. -/
theorem witness_ClocksComplete_part4 :
    (∃ (s : State) (d : Nat), s.isPort d = true ∧ ((s.flag d CLK_CTRL_pps_out_en = false ∨ s.flag d CLK_STAT_master = false ∨
        s.devTime d / 10 ^ 8 ≤ (s.disc d).ppsSec)))
    ∧ (∃ (s : State) (d : Nat) (om : Option Nat), d < s.nDies ∧ (List.range s.nDies).find? (fun m => s.flag m CLK_STAT_master &&
        !s.pkg.fenced.contains m) = om ∧ ((om = none ∨ om = some d)))
    ∧ (∃ (s t u : State) (d m : Nat), d < s.nDies ∧ (List.range s.nDies).find? (fun m => s.flag m CLK_STAT_master &&
        !s.pkg.fenced.contains m) = some m ∧ m ≠ d ∧ t = s.setDisc d
        { s.disc d with learned := (s.disc m).learned, toSlew := (s.disc m).toSlew } ∧ u = t.put d CLK_STAT_source (t.get m
        CLK_STAT_source) ∧ (Int.ofNat (u.com1 m).clk - Int.ofNat (u.com1 d).clk).natAbs ≤ 2000000000)
    ∧ (∃ (s t u w : State) (d m k : Nat) (diff : Int), d < s.nDies ∧ (List.range s.nDies).find? (fun m => s.flag m
        CLK_STAT_master && !s.pkg.fenced.contains m) = some m ∧ m ≠ d ∧ t = s.setDisc d
        { s.disc d with learned := (s.disc m).learned, toSlew := (s.disc m).toSlew } ∧ u = t.put d CLK_STAT_source (t.get m
        CLK_STAT_source) ∧ diff = Int.ofNat (u.com1 m).clk - Int.ofNat (u.com1 d).clk ∧ u.freeBelow 41 = (k, w) ∧ 2000000000 <
        diff.natAbs ∧ w.stepNs d * 100000000 < diff.natAbs)
    ∧ (∃ (s : State) (d : Nat), d < s.nDies ∧ ((s.zcDie = none ∨ s.flag d CLK_STAT_master = false ∨ s.due ((s.disc d).zcFrom +
        86400 * Config.tS) = false)))
    ∧ (∃ (s t : State) (d f uhz : Nat) (nominal dev ppm : Int), d < s.nDies ∧ s.zcDie = some f ∧ s.flag d CLK_STAT_master = true
        ∧ s.due ((s.disc d).zcFrom + 86400 * Config.tS) = true ∧ s.due ((s.f f).plc.zcOkAt + 86400 * Config.tS) = true ∧ nominal
        = (if uhz < 55000000 then 50000000 else 60000000) ∧ dev = Int.ofNat uhz - nominal ∧ ppm = max (-32768) (min 32767
        (Int.tdiv (dev * 1000000) nominal)) ∧ t = (s.putZ d CLK_ZC_DEV_ppm ppm).setDisc d { s.disc d with zcFrom := s.now } ∧
        500 * nominal < Int.ofNat dev.natAbs * 1000000 ∧ t.flag d CLK_STAT_ref_fault = false) :=
  ⟨⟨on, 0, ⟨(by decide +kernel), (by decide +kernel)⟩⟩,
   ⟨on, 0, _, ⟨(by decide +kernel), rfl, (by decide +kernel)⟩⟩,
   ⟨(on.putB 0 CLK_STAT_master true), _, _, 1, 0, ⟨(by decide +kernel), (by decide +kernel), (by decide +kernel), rfl, rfl,
       (by decide +kernel)⟩⟩,
   ⟨(on.putB 0 CLK_STAT_master true).setCom 1 {}, _, _, _, 1, 0, _, _, ⟨(by decide +kernel), (by decide +kernel),
       (by decide +kernel), rfl, rfl, rfl, Prod.mk.eta.symm, (by decide +kernel), (by decide +kernel)⟩⟩,
   ⟨on, 0, ⟨(by decide +kernel), (by decide +kernel)⟩⟩,
   ⟨(puts { on with now := 10 ^ 14 } [(0, CLK_STAT_master, 1), (2, PLC_STAT_zc_ok, 1)]), _, 0, 2, 51000000, _, _, _,
       ⟨(by decide +kernel), (by decide +kernel), (by decide +kernel), (by decide +kernel), (by decide +kernel), rfl, rfl, rfl,
       rfl, (by decide +kernel), (by decide +kernel)⟩⟩⟩

/-- Values that meet the hypotheses of Obligations.ClocksComplete, clause by clause. -/
theorem witness_ClocksComplete_part5 :
    (∃ (s t : State) (d f uhz : Nat) (nominal dev ppm : Int), d < s.nDies ∧ s.zcDie = some f ∧ s.flag d CLK_STAT_master = true ∧
        s.due ((s.disc d).zcFrom + 86400 * Config.tS) = true ∧ s.due ((s.f f).plc.zcOkAt + 86400 * Config.tS) = true ∧ nominal =
        (if uhz < 55000000 then 50000000 else 60000000) ∧ dev = Int.ofNat uhz - nominal ∧ ppm = max (-32768) (min 32767
        (Int.tdiv (dev * 1000000) nominal)) ∧ t = (s.putZ d CLK_ZC_DEV_ppm ppm).setDisc d { s.disc d with zcFrom := s.now } ∧
        Int.ofNat dev.natAbs * 1000000 ≤ 200 * nominal ∧ t.flag d CLK_STAT_ref_fault = true)
    ∧ (∃ (s t : State) (d f uhz : Nat) (nominal dev ppm : Int), d < s.nDies ∧ s.zcDie = some f ∧ s.flag d CLK_STAT_master = true
        ∧ s.due ((s.disc d).zcFrom + 86400 * Config.tS) = true ∧ s.due ((s.f f).plc.zcOkAt + 86400 * Config.tS) = true ∧ nominal
        = (if uhz < 55000000 then 50000000 else 60000000) ∧ dev = Int.ofNat uhz - nominal ∧ ppm = max (-32768) (min 32767
        (Int.tdiv (dev * 1000000) nominal)) ∧ t = (s.putZ d CLK_ZC_DEV_ppm ppm).setDisc d { s.disc d with zcFrom := s.now } ∧
        Int.ofNat dev.natAbs * 1000000 ≤ 500 * nominal ∧ t.flag d CLK_STAT_ref_fault = false) :=
  ⟨⟨(puts { on with now := 10 ^ 14 } [(0, CLK_STAT_master, 1), (2, PLC_STAT_zc_ok, 1), (0, CLK_STAT_ref_fault, 1)]), _, 0, 2,
      50000000, _, _, _, ⟨(by decide +kernel), (by decide +kernel), (by decide +kernel), (by decide +kernel),
      (by decide +kernel), rfl, rfl, rfl, rfl, (by decide +kernel), (by decide +kernel)⟩⟩,
   ⟨(puts { on with now := 10 ^ 14 } [(0, CLK_STAT_master, 1), (2, PLC_STAT_zc_ok, 1)]), _, 0, 2, 50000000, _, _, _,
       ⟨(by decide +kernel), (by decide +kernel), (by decide +kernel), (by decide +kernel), (by decide +kernel), rfl, rfl, rfl,
       rfl, (by decide +kernel), (by decide +kernel)⟩⟩⟩

/-- Values that meet the hypotheses of Obligations.PowerCompletes, clause by clause. -/
theorem witness_PowerCompletes_part1 :
    (∃ (s t : State) (d v w : Nat), d < s.nDies ∧ s.domValue d v = w ∧ ((List.range 16).filter (fun n => (s.get d
        PWR_DOM_EN_en).testBit n && !w.testBit n)).any (fun n => s.domBusy d n || s.domKept d n) = false ∧ t = (s.put d
        PWR_DOM_EN_en w).putB d PWR_STAT_cfg_error false)
    ∧ (∃ (s : State) (d v w : Nat), d < s.nDies ∧ s.domValue d v = w ∧ ((List.range 16).filter (fun n => (s.get d
        PWR_DOM_EN_en).testBit n && !w.testBit n)).any (fun n => s.domBusy d n || s.domKept d n) = true)
    ∧ (∃ (s t : State) (d : Nat), d < s.nDies ∧ t = s.put d PWR_DOM_STAT_on (s.get d PWR_DOM_STAT_on ||| ((s.pwr d).rising &&&
        s.get d PWR_DOM_EN_en)))
    ∧ (∃ (s : State) (d : Nat), d < s.nDies ∧ s.get d PWR_RECESS_level = 0)
    ∧ (∃ (s : State) (d : Nat), d < s.nDies ∧ s.get d PWR_RECESS_level ≠ 0 ∧ s.recessOk d (s.get d PWR_RECESS_level) = true)
    ∧ (∃ (s : State) (d : Nat), d < s.nDies ∧ s.get d PWR_RECESS_level ≠ 0 ∧ s.recessOk d (s.get d PWR_RECESS_level) = false) :=
  ⟨⟨on, _, 0, 0, _, ⟨(by decide +kernel), rfl, (by decide +kernel), rfl⟩⟩,
   ⟨(puts on [(0, PWR_DOM_EN_en, 3), (0, LEDG_CTRL_enable, 1)]), 0, 0, _, ⟨(by decide +kernel), rfl, (by decide +kernel)⟩⟩,
   ⟨on, _, 0, ⟨(by decide +kernel), rfl⟩⟩,
   ⟨on, 0, ⟨(by decide +kernel), (by decide +kernel)⟩⟩,
   ⟨(on.put 0 PWR_RECESS_level 1).putB 0 LEDG_CTRL_enable false, 0, ⟨(by decide +kernel), (by decide +kernel),
       (by decide +kernel)⟩⟩,
   ⟨(puts on [(0, PWR_RECESS_level, 2), (0, LEDG_CTRL_enable, 1)]), 0, ⟨(by decide +kernel), (by decide +kernel),
       (by decide +kernel)⟩⟩⟩

/-- Values that meet the hypotheses of Obligations.PowerCompletes, clause by clause. -/
theorem witness_PowerCompletes_part2 :
    (∃ (s : State) (d : Nat), d < s.nDies)
    ∧ (∃ (s : State) (d : Nat), s.isL d = true ∧ ((s.saving d = false ∨ (s.arc d).jrn = [])))
    ∧ (∃ (s t : State) (d : Nat) (bs : List (List Nat)) (blocks : List Nat), s.isL d = true ∧ s.saving d = true ∧ (s.arc d).jrn
        = blocks :: bs ∧ t = (((s.setArc d { s.arc d with saves := s.saveOf d blocks :: (s.arc d).saves }).putJrn d bs).jrnCheck
        d).putB d PWR_STAT_saved true ∧ t.dies.any (fun e => (t.pwr e).resetWaits) = false ∧ (t.pwr d).recovering = false)
    ∧ (∃ (s t : State) (d : Nat) (bs : List (List Nat)) (blocks : List Nat), s.isL d = true ∧ s.saving d = true ∧ (s.arc d).jrn
        = blocks :: bs ∧ t = (((s.setArc d { s.arc d with saves := s.saveOf d blocks :: (s.arc d).saves }).putJrn d bs).jrnCheck
        d).putB d PWR_STAT_saved true ∧ t.dies.any (fun e => (t.pwr e).resetWaits) = false ∧ (t.pwr d).recovering = true)
    ∧ (∃ (s t : State) (d : Nat) (bs : List (List Nat)) (blocks : List Nat), s.isL d = true ∧ s.saving d = true ∧ (s.arc d).jrn
        = blocks :: bs ∧ t = (((s.setArc d { s.arc d with saves := s.saveOf d blocks :: (s.arc d).saves }).putJrn d bs).jrnCheck
        d).putB d PWR_STAT_saved true ∧ t.dies.any (fun e => (t.pwr e).resetWaits) = true ∧ t.dies.any t.saving = true)
    ∧ (∃ (s t : State) (d : Nat) (bs : List (List Nat)) (blocks : List Nat), s.isL d = true ∧ s.saving d = true ∧ (s.arc d).jrn
        = blocks :: bs ∧ t = (((s.setArc d { s.arc d with saves := s.saveOf d blocks :: (s.arc d).saves }).putJrn d bs).jrnCheck
        d).putB d PWR_STAT_saved true ∧ t.dies.any (fun e => (t.pwr e).resetWaits) = true ∧ t.dies.any t.saving = false) :=
  ⟨⟨on, 0, (by decide +kernel)⟩,
   ⟨on, 0, ⟨(by decide +kernel), (by decide +kernel)⟩⟩,
   ⟨(arcOn on { jrn := [[0, 30, 60, 90]] }).putB 0 PWR_STAT_bo_warn true, _, 0, [], [0, 30, 60, 90], ⟨(by decide +kernel),
       (by decide +kernel), (by decide +kernel), rfl, (by decide +kernel), (by decide +kernel)⟩⟩,
   ⟨((arcOn on { jrn := [[0, 30, 60, 90]] }).putB 0 PWR_STAT_bo_warn true).setPwr 0 { recovering := true }, _, 0, [], [0, 30,
       60, 90], ⟨(by decide +kernel), (by decide +kernel), (by decide +kernel), rfl, (by decide +kernel), (by decide +kernel)⟩⟩,
   ⟨(((arcOn on { jrn := [[0, 30, 60, 90]] }).putB 0 PWR_STAT_bo_warn true).putB 1 PWR_STAT_bo_warn true).setPwr 0
       { resetWaits := true }, _, 0, [], [0, 30, 60, 90], ⟨(by decide +kernel), (by decide +kernel), (by decide +kernel), rfl,
       (by decide +kernel), (by decide +kernel)⟩⟩,
   ⟨((arcOn on { jrn := [[0, 30, 60, 90]] }).putB 0 PWR_STAT_bo_warn true).setPwr 0 { resetWaits := true }, _, 0, [], [0, 30,
       60, 90], ⟨(by decide +kernel), (by decide +kernel), (by decide +kernel), rfl, (by decide +kernel), (by decide +kernel)⟩⟩⟩

/-- Values that meet the hypotheses of Obligations.PowerCompletes, clause by clause. -/
theorem witness_PowerCompletes_part3 :
    (∃ (s : State) (mv : Nat), s.dies.filter (fun d => decide (mv < s.resetMv d)) = [])
    ∧ (∃ (s : State) (mv d : Nat) (ds : List Nat), s.dies.filter (fun d => decide (mv < s.resetMv d)) = d :: ds ∧ s.dies.any
        s.saveHolds = false)
    ∧ (∃ (s : State) (mv d : Nat) (ds : List Nat), s.dies.filter (fun d => decide (mv < s.resetMv d)) = d :: ds ∧ s.dies.any
        s.saveHolds = true)
    ∧ (∃ (s t u v w : State) (d sensor : Nat) (tj : Int), d < s.nDies ∧ -128 ≤ tj ∧ tj ≤ 127 ∧ t = (s.putZ d PWR_TEMP_tj tj).put
        d PWR_TEMP_sensor (min 4 sensor) ∧ u = (if t.getZ d PWR_TEMP_MAX_max < tj then t.putZ d PWR_TEMP_MAX_max tj else t) ∧ v
        = (if u.get d PWR_STAT_stage = u.thermStage d tj then u else ((u.put d PWR_STAT_stage (u.thermStage d tj)).raise d 21
        (arg 0 (u.thermStage d tj) + arg 1 (ofSigned 8 tj))).wake d 4) ∧ w = (if u.thermStage d tj = 0 then v else v.inc d
        PWR_THROT_CNT))
    ∧ (∃ (s t : State) (d k : Nat) (f : Field), d < s.nDies ∧ (((k = 0 ∧ f = CLK_STAT_root_lock) ∨ (k = 1 ∧ f =
        CLK_STAT_ser_lock) ∨ (k = 2 ∧ f = CLK_STAT_eth_lock))) ∧ s.flag d f = true ∧ t = (s.putB d f false).inc d
        CLK_UNLOCK_CNT)
    ∧ (∃ (s : State), s.dies.any (fun d => (s.pwr d).refLost) = true) :=
  ⟨⟨on, 5000, (by decide +kernel)⟩,
   ⟨on, 0, _, _, ⟨(List.cons_head_tail (by decide +kernel)).symm, (by decide +kernel)⟩⟩,
   ⟨((arcOn on { jrn := [[0, 30, 60, 90]] }).putB 0 PWR_STAT_bo_warn true).setPwr 0 { warnedAt := some (10 ^ 12) }, 0, 0, [1, 2,
       3], ⟨(by decide +kernel), (by decide +kernel)⟩⟩,
   ⟨(on.put 0 PWR_TEMP_MAX_max 50), _, _, _, _, 0, 0, 0, ⟨(by decide +kernel), (by decide +kernel), (by decide +kernel), rfl,
       rfl, rfl, rfl⟩⟩,
   ⟨(on.putB 0 CLK_STAT_root_lock true), _, 0, 0, CLK_STAT_root_lock, ⟨(by decide +kernel), (by decide +kernel),
       (by decide +kernel), rfl⟩⟩,
   ⟨(on.setCom 0 { pwr := { refLost := true } }), (by decide +kernel)⟩⟩

/-- Values that meet the hypotheses of Obligations.PowerCompletes, clause by clause. -/
theorem witness_PowerCompletes_part4 : ∃ (s : State), s.dies.any (fun d => (s.pwr d).refLost) = false :=
  ⟨on, (by decide +kernel)⟩

/-- Values that meet the hypotheses of Obligations.MarginCompletes, clause by clause. -/
theorem witness_MarginCompletes_part1 :
    (∃ (s : State) (d : Nat), d < s.nDies ∧ ((s.planDue d = true ∨ s.flag d AGE_STAT_planning = true)))
    ∧ (∃ (s : State) (d : Nat), d < s.nDies ∧ s.planDue d = false ∧ s.flag d AGE_STAT_planning = false)
    ∧ (∃ (s : State) (d : Nat), d < s.nDies)
    ∧ (∃ (s t : State) (d monitor : Nat) (slack : Int), d < s.nDies ∧ t = (s.putZ d AGE_SLACK_slack slack).put d
        AGE_SLACK_monitor monitor ∧ Int.ofNat (t.guardPs d) ≤ 2 * slack)
    ∧ (∃ (s t : State) (d monitor : Nat) (slack : Int), d < s.nDies ∧ t = (s.putZ d AGE_SLACK_slack slack).put d
        AGE_SLACK_monitor monitor ∧ 2 * slack < Int.ofNat (t.guardPs d) ∧ t.flag d AGE_CTRL_avs_en = true ∧ t.flag d
        AGE_STAT_avs_fault = false ∧ t.get d AGE_VCORE_target_mv < t.vmax d)
    ∧ (∃ (s t : State) (d monitor : Nat) (slack : Int), d < s.nDies ∧ t = (s.putZ d AGE_SLACK_slack slack).put d
        AGE_SLACK_monitor monitor ∧ 2 * slack < Int.ofNat (t.guardPs d) ∧ t.flag d AGE_STAT_avs_fault = true ∧ t.flag d
        AGE_STAT_clk_derated = false) :=
  ⟨⟨{ on with now := 10 ^ 14 }, 0, ⟨(by decide +kernel), (by decide +kernel)⟩⟩,
   ⟨on, 0, ⟨(by decide +kernel), (by decide +kernel), (by decide +kernel)⟩⟩,
   ⟨on, 0, (by decide +kernel)⟩,
   ⟨on, _, 0, 0, 1000000, ⟨(by decide +kernel), rfl, (by decide +kernel)⟩⟩,
   ⟨(on.putB 0 AGE_CTRL_avs_en true), _, 0, 0, 0, ⟨(by decide +kernel), rfl, (by decide +kernel), (by decide +kernel),
       (by decide +kernel), (by decide +kernel)⟩⟩,
   ⟨(on.putB 0 AGE_STAT_avs_fault true), _, 0, 0, 0, ⟨(by decide +kernel), rfl, (by decide +kernel), (by decide +kernel),
       (by decide +kernel)⟩⟩⟩

/-- Values that meet the hypotheses of Obligations.MarginCompletes, clause by clause. -/
theorem witness_MarginCompletes_part2 :
    (∃ (s t : State) (d : Nat), d < s.nDies ∧ s.flag d AGE_CTRL_avs_en = true ∧ t = (s.putB d AGE_STAT_avs_fault true).inc d
        AGE_AVS_ERR_CNT)
    ∧ (∃ (s : State) (d : Nat), d < s.nDies ∧ s.flag d AGE_CTRL_avs_en = false)
    ∧ (∃ (s : State) (d : Nat), d < s.nDies) :=
  ⟨⟨(on.putB 0 AGE_CTRL_avs_en true), _, 0, ⟨(by decide +kernel), (by decide +kernel), rfl⟩⟩,
   ⟨on, 0, ⟨(by decide +kernel), (by decide +kernel)⟩⟩,
   ⟨on, 0, (by decide +kernel)⟩⟩

/-- Values that meet the hypotheses of Obligations.StartUpCompletes, clause by clause. -/
theorem witness_StartUpCompletes_part1 :
    (∃ (s : State) (d : Nat), d < s.nDies ∧ ((s.stage d ≠ 0 ∨ s.pkg.fenced.contains d = true)))
    ∧ (∃ (s t u : State) (d : Nat), d < s.nDies ∧ 2 ≤ d ∧ s.stage d = 0 ∧ s.pkg.fenced.contains d = false ∧ (s.bootDie d).alone
        = false ∧ t = s.release d ∧ s.boot.remedial = 0 ∧ u = t.startBegin ∧ (u.lock d).lc ≠ 3 ∧ u.boot.remedial = 0)
    ∧ (∃ (s u : State), 0 < s.nDies ∧ s.stage 0 = 0 ∧ s.pkg.fenced.contains 0 = false ∧ (s.bootDie 0).alone = false ∧
        s.boot.remedial = 0 ∧ u = (s.release 0).startBegin ∧ (u.lock 0).lc ≠ 3 ∧ u.boot.remedial = 0)
    ∧ (∃ (s u : State) (d : Nat), d < s.nDies ∧ s.stage d = 0 ∧ s.pkg.fenced.contains d = false ∧ (s.bootDie d).alone = false ∧
        s.boot.remedial = 0 ∧ u = (s.release d).startBegin)
    ∧ (∃ (s : State) (d bank : Nat) (i : Image), d < s.nDies ∧ s.stage d = 1 ∧ (s.bootDie d).imageIn = false ∧ s.boot.remedial =
        0 ∧ (s.bootDie d).alone = false ∧ d ≠ s.bootSource ∧ 2 ≤ s.stage s.bootSource ∧ s.sentImage d = some (bank, i) ∧
        s.imageOk d i = true ∧ i.mainOk = true)
    ∧ (∃ (s : State) (d bank : Nat) (i : Image), d < s.nDies ∧ s.stage d = 1 ∧ (s.bootDie d).imageIn = false ∧ s.boot.remedial =
        0 ∧ (s.bootDie d).alone = false ∧ d ≠ s.bootSource ∧ 2 ≤ s.stage s.bootSource ∧ s.sentImage d = some (bank, i) ∧
        s.imageOk d i = false) :=
  ⟨⟨on, 0, ⟨(by decide +kernel), (by decide +kernel)⟩⟩,
   ⟨(on.put 2 SYS_BOOT_stage 0), _, _, 2, ⟨(by decide +kernel), (by decide +kernel), (by decide +kernel), (by decide +kernel),
       (by decide +kernel), rfl, (by decide +kernel), rfl, (by decide +kernel), (by decide +kernel)⟩⟩,
   ⟨(on.put 0 SYS_BOOT_stage 0), _, ⟨(by decide +kernel), (by decide +kernel), (by decide +kernel), (by decide +kernel),
       (by decide +kernel), rfl, (by decide +kernel), (by decide +kernel)⟩⟩,
   ⟨(on.put 0 SYS_BOOT_stage 0), _, 0, ⟨(by decide +kernel), (by decide +kernel), (by decide +kernel), (by decide +kernel),
       (by decide +kernel), rfl⟩⟩,
   ⟨(bootOn (on.put 2 SYS_BOOT_stage 1)), 2, 0, img0, ⟨(by decide +kernel), (by decide +kernel), (by decide +kernel),
       (by decide +kernel), (by decide +kernel), (by decide +kernel), (by decide +kernel), (by decide +kernel),
       (by decide +kernel), (by decide +kernel)⟩⟩,
   ⟨(((on.put 2 SYS_BOOT_stage 1).setBoot { images := [(0, { img0 with signer := 9 })] }).setBootDie 0
       { imageIn := true }).setLock 2 { on.lock 2 with lc := 2 }, 2, 0, { img0 with signer := 9 }, ⟨(by decide +kernel),
       (by decide +kernel), (by decide +kernel), (by decide +kernel), (by decide +kernel), (by decide +kernel),
       (by decide +kernel), (by decide +kernel), (by decide +kernel)⟩⟩⟩

/-- Values that meet the hypotheses of Obligations.StartUpCompletes, clause by clause. -/
theorem witness_StartUpCompletes_part2 :
    (∃ (s : State) (d bank : Nat) (i : Image), d < s.nDies ∧ s.stage d = 1 ∧ (s.bootDie d).imageIn = false ∧ s.boot.remedial = 0
        ∧ (s.bootDie d).alone = false ∧ d ≠ s.bootSource ∧ 2 ≤ s.stage s.bootSource ∧ s.sentImage d = some (bank, i) ∧ s.imageOk
        d i = true ∧ i.mainOk = false)
    ∧ (∃ (s : State) (d : Nat), d < s.nDies ∧ ((s.stage d ≠ 1 ∨ (s.bootDie d).imageIn = true ∨ s.boot.remedial ≠ 0)))
    ∧ (∃ (s : State), 0 < s.nDies ∧ s.isL 1 = true ∧ s.stage 1 = 1 ∧ (s.bootDie 1).imageIn = false ∧ s.boot.remedial = 0)
    ∧ (∃ (s : State), 0 < s.nDies ∧ s.isL 1 = true ∧ s.stage 1 = 1 ∧ (s.bootDie 1).imageIn = false ∧ s.boot.remedial ≠ 0 ∧
        s.stage 0 ≠ 15)
    ∧ (∃ (s : State) (d : Nat), d < s.nDies ∧ d ≠ 0 ∧ s.boot.current.isSome = true ∧ s.stage d ≤ 1 ∧ (s.bootDie d).alone = false
        ∧ s.pkg.fenced.contains d = false)
    ∧ (∃ (s : State) (d : Nat), d < s.nDies ∧ s.stage d = 1) :=
  ⟨⟨(((on.put 2 SYS_BOOT_stage 1).setBoot { images := [(0, { img0 with mainOk := false })] }).setBootDie 0
      { imageIn := true }).setLock 2 { on.lock 2 with lc := 2 }, 2, 0, { img0 with mainOk := false }, ⟨(by decide +kernel),
      (by decide +kernel), (by decide +kernel), (by decide +kernel), (by decide +kernel), (by decide +kernel),
      (by decide +kernel), (by decide +kernel), (by decide +kernel), (by decide +kernel)⟩⟩,
   ⟨on, 0, ⟨(by decide +kernel), (by decide +kernel)⟩⟩,
   ⟨(on.put 1 SYS_BOOT_stage 1), ⟨(by decide +kernel), (by decide +kernel), (by decide +kernel), (by decide +kernel),
       (by decide +kernel)⟩⟩,
   ⟨(on.put 1 SYS_BOOT_stage 1).setBoot { remedial := 1 }, ⟨(by decide +kernel), (by decide +kernel), (by decide +kernel),
       (by decide +kernel), (by decide +kernel), (by decide +kernel)⟩⟩,
   ⟨(on.put 2 SYS_BOOT_stage 1).setBoot { current := some { seq := 1, clock := 0 } }, 2, ⟨(by decide +kernel),
       (by decide +kernel), (by decide +kernel), (by decide +kernel), (by decide +kernel), (by decide +kernel)⟩⟩,
   ⟨(on.put 0 SYS_BOOT_stage 1), 0, ⟨(by decide +kernel), (by decide +kernel)⟩⟩⟩

/-- Values that meet the hypotheses of Obligations.StartUpCompletes, clause by clause. -/
theorem witness_StartUpCompletes_part3 :
    (∃ (s : State) (d : Nat), d < s.nDies ∧ s.stage d = 2 ∧ (s.bootDie d).alone = false ∧ s.dies.any (fun e => s.inStart e &&
        decide (s.stage e < 2)) = false)
    ∧ (∃ (s : State) (d : Nat), s.isL d = true ∧ s.stage d = 3 ∧ s.flag d MIRR_FW_PROG_running = false)
    ∧ (∃ (s : State) (d : Nat), d < s.nDies ∧ s.stage d = 5 ∧ s.rcStage = 6)
    ∧ (∃ (s : State) (d : Nat), d < s.nDies ∧ (s.bootDie d).alone = false ∧ s.boot.remedial = 0 ∧ (((s.stage d = 1 ∧ s.due
        ((s.bootDie d).since + 600 * Config.tMs) = true) ∨ (s.stage d = 2 ∧ s.due ((s.bootDie d).since + 800 * Config.tMs) =
        true))))
    ∧ (∃ (s : State) (d : Nat), d < s.nDies ∧ s.stage d ≠ 1 ∧ s.stage d ≠ 2)
    ∧ (∃ (s : State) (d : Nat), s.isL d = true ∧ s.stage d ≠ 4) :=
  ⟨⟨(on.put 0 SYS_BOOT_stage 2), 0, ⟨(by decide +kernel), (by decide +kernel), (by decide +kernel), (by decide +kernel)⟩⟩,
   ⟨(on.put 0 SYS_BOOT_stage 3), 0, ⟨(by decide +kernel), (by decide +kernel), (by decide +kernel)⟩⟩,
   ⟨(on.put 0 SYS_BOOT_stage 5).eufAll EUF_STAT_rc_stage 6, 0, ⟨(by decide +kernel), (by decide +kernel), (by decide +kernel)⟩⟩,
   ⟨(on.put 0 SYS_BOOT_stage 1), 0, ⟨(by decide +kernel), (by decide +kernel), (by decide +kernel), (by decide +kernel)⟩⟩,
   ⟨on, 0, ⟨(by decide +kernel), (by decide +kernel), (by decide +kernel)⟩⟩,
   ⟨on, 0, ⟨(by decide +kernel), (by decide +kernel)⟩⟩⟩

/-- Values that meet the hypotheses of Obligations.StartUpCompletes, clause by clause. -/
theorem witness_StartUpCompletes_part4 :
    (∃ (s : State) (d : Nat) (ok : Bool), s.isL d = true ∧ s.stage d = 4 ∧ (s.bootDie d).alone = false ∧ ((ok = false ∨ (s.arc
        d).layout = none)))
    ∧ (∃ (s t u : State) (d : Nat) (l : Layout), s.isL d = true ∧ s.stage d = 4 ∧ (s.arc d).layout = some l ∧ t = (s.restore
        d).enterStage d 5 ∧ t.stage d = 5 ∧ u = (t.setBootDie d { t.bootDie d with joinAt := t.now }).decideRoles d ∧
        u.allRestored = false)
    ∧ (∃ (s : State) (d : Nat), s.isL d = true ∧ s.stage d = 5 ∧ s.due ((s.bootDie d).joinAt + 60 * Config.tS) = true ∧
        s.rcStage ≠ 6 ∧ (s.goOnline d).stage d = 6)
    ∧ (∃ (s : State) (d : Nat), s.isL d = true ∧ ((s.stage d ≠ 5 ∨ s.rcStage = 6)))
    ∧ (∃ (s : State) (d : Nat), d < s.nDies ∧ s.stage d = 6 ∧ s.isF d = true)
    ∧ (∃ (s t : State) (d : Nat), d < s.nDies ∧ s.stage d = 6 ∧ s.isF d = false ∧ t = (s.recovery d).putB d ARC_STAT_parity_full
        (s.flag d ARC_CTRL_full_stripe)) :=
  ⟨⟨(on.put 0 SYS_BOOT_stage 4), 0, false, ⟨(by decide +kernel), (by decide +kernel), (by decide +kernel),
      (by decide +kernel)⟩⟩,
   ⟨(arcOn on {}).put 0 SYS_BOOT_stage 4 |>.put 1 SYS_BOOT_stage 1, _, _, 0, lay0, ⟨(by decide +kernel), (by decide +kernel),
       (by decide +kernel), rfl, (by decide +kernel), rfl, (by decide +kernel)⟩⟩,
   ⟨(on.put 0 SYS_BOOT_stage 5), 0, ⟨(by decide +kernel), (by decide +kernel), (by decide +kernel), (by decide +kernel),
       (by decide +kernel)⟩⟩,
   ⟨on, 0, ⟨(by decide +kernel), (by decide +kernel)⟩⟩,
   ⟨on, 2, ⟨(by decide +kernel), (by decide +kernel), (by decide +kernel)⟩⟩,
   ⟨on, _, 0, ⟨(by decide +kernel), (by decide +kernel), (by decide +kernel), rfl⟩⟩⟩

/-- Values that meet the hypotheses of Obligations.StartUpCompletes, clause by clause. -/
theorem witness_StartUpCompletes_part5 :
    (∃ (s : State), s.boot.current = none)
    ∧ (∃ (s : State), s.boot.current.isSome = true) :=
  ⟨⟨on, (by decide +kernel)⟩,
   ⟨(on.setBoot { current := some { seq := 1, clock := 0 } }), (by decide +kernel)⟩⟩

/-- Values that meet the hypotheses of Obligations.StartUpCommandsComplete, clause by clause. -/
theorem witness_StartUpCommandsComplete_part1 :
    (∃ (s : State) (d : Nat) (c : Cmd), d < s.nDies ∧ s.nextCmd d 0x70 = some c)
    ∧ (∃ (s : State) (d : Nat) (c : Cmd), d < s.nDies ∧ s.nextCmd d 0x71 = some c ∧ s.longOp d 0x71 = none ∧ ((c.op 24 4 = 0 ∨
        16 * 2 ^ 20 < c.op 24 4)))
    ∧ (∃ (s : State) (d : Nat) (img : Image) (c : Cmd), d < s.nDies ∧ s.nextCmd d 0x71 = some c ∧ s.longOp d 0x71 = none ∧ c.op
        24 4 ≠ 0 ∧ c.op 24 4 ≤ 16 * 2 ^ 20 ∧ ((s.imageOk d img = false ∨ img.mainOk = false)))
    ∧ (∃ (s t : State) (d : Nat) (img : Image) (c : Cmd), d < s.nDies ∧ s.nextCmd d 0x71 = some c ∧ s.longOp d 0x71 = none ∧
        c.op 24 4 ≠ 0 ∧ c.op 24 4 ≤ 16 * 2 ^ 20 ∧ s.imageOk d img = true ∧ img.mainOk = true ∧ t = s.setBoot
        { s.boot with images := smPut s.boot.images 2 img, trial := some 2 })
    ∧ (∃ (s t u : State) (d : Nat) (c : Cmd) (i : Image), d < s.nDies ∧ s.nextCmd d 0x72 = some c ∧ c.op 16 1 = 0 ∧ smGet
        s.boot.images (s.boot.bankOf 0) = some i ∧ t = (if s.stage d = 15 then s else s.saveAll).complete c.id 0 ∧ u =
        t.writeOut c.group (t.grp c.group).waiting.length ∧ (s.lock d).fuses.svn ≤ i.svn)
    ∧ (∃ (s t u : State) (d : Nat) (c : Cmd) (i : Image), d < s.nDies ∧ s.nextCmd d 0x72 = some c ∧ c.op 16 1 = 0 ∧ smGet
        s.boot.images (s.boot.bankOf 0) = some i ∧ t = (if s.stage d = 15 then s else s.saveAll).complete c.id 0 ∧ u =
        t.writeOut c.group (t.grp c.group).waiting.length ∧ i.svn < (s.lock d).fuses.svn) :=
  ⟨⟨(inCmd on 0 0x70 []), 0, (cmdOf 0 0x70 []), ⟨(by decide +kernel), (by decide +kernel)⟩⟩,
   ⟨(inCmd on 0 0x71 []), 0, (cmdOf 0 0x71 []), ⟨(by decide +kernel), (by decide +kernel), (by decide +kernel),
       (by decide +kernel)⟩⟩,
   ⟨(inCmd on 0 0x71 [(24, 4, 1)]), 0, { img0 with mainOk := false }, (cmdOf 0 0x71 [(24, 4, 1)]), ⟨(by decide +kernel),
       (by decide +kernel), (by decide +kernel), (by decide +kernel), (by decide +kernel), (by decide +kernel)⟩⟩,
   ⟨(inCmd (lockOf 0 []) 0 0x71 [(24, 4, 1)]), _, 0, img0, (cmdOf 0 0x71 [(24, 4, 1)]), ⟨(by decide +kernel),
       (by decide +kernel), (by decide +kernel), (by decide +kernel), (by decide +kernel), (by decide +kernel),
       (by decide +kernel), rfl⟩⟩,
   ⟨((inCmd on 0 0x72 []).put 0 SYS_BOOT_stage 15).setBoot { images := [(0, img0)] }, _, _, 0, (cmdOf 0 0x72 []), img0,
       ⟨(by decide +kernel), (by decide +kernel), (by decide +kernel), (by decide +kernel), rfl, rfl, (by decide +kernel)⟩⟩,
   ⟨((inCmd on 0 0x72 []).setBoot { images := [(0, img0)] }).setLock 0
       { on.lock 0 with fuses := { (on.lock 0).fuses with svn := 2 } }, _, _, 0, (cmdOf 0 0x72 []), img0, ⟨(by decide +kernel),
       (by decide +kernel), (by decide +kernel), (by decide +kernel), rfl, rfl, (by decide +kernel)⟩⟩⟩

/-- Values that meet the hypotheses of Obligations.StartUpCommandsComplete, clause by clause. -/
theorem witness_StartUpCommandsComplete_part2 :
    (∃ (s t u : State) (d n : Nat) (c : Cmd) (i : Image), d < s.nDies ∧ s.nextCmd d 0x72 = some c ∧ c.op 16 1 = n ∧ 1 ≤ n ∧ n ≤
        3 ∧ smGet s.boot.images (n - 1) = some i ∧ (s.lock d).fuses.svn ≤ i.svn ∧ t = (if s.stage d = 15 then s else
        s.saveAll).complete c.id 0 ∧ u = t.writeOut c.group (t.grp c.group).waiting.length)
    ∧ (∃ (s : State) (d : Nat) (c : Cmd), d < s.nDies ∧ s.nextCmd d 0x72 = some c ∧ 3 < c.op 16 1)
    ∧ (∃ (s t : State) (d : Nat) (c : Cmd), d < s.nDies ∧ s.nextCmd d 0x73 = some c ∧ s.dies.any (fun e => s.flag e
        LOCK_STAT_fuse_error || (s.lock e).lc == 3) = false ∧ t = s.setBoot
        { s.boot with remedial := 0, fails := [], rejected := 0 })
    ∧ (∃ (s : State) (d : Nat) (c : Cmd), d < s.nDies ∧ s.nextCmd d 0x73 = some c ∧ s.dies.any (fun e => s.flag e
        LOCK_STAT_fuse_error || (s.lock e).lc == 3) = true)
    ∧ (∃ (s t : State) (d corrected : Nat) (failed upOk : Bool) (c : Cmd) (x : Nat × Nat × Nat), d < s.nDies ∧ s.nextCmd d 0x74
        = some c ∧ s.longOp d 0x74 = none ∧ testOf (s.isL d) (c.op 16 1) = true ∧ ((s.boot.remedial = 0 ∨ upOk = true)) ∧ t =
        s.testCount d (c.op 16 1) corrected failed ∧ x = smGetD (t.com1 d).tests (0, 0, 0) (c.op 16 1))
    ∧ (∃ (s : State) (d : Nat) (c : Cmd), d < s.nDies ∧ s.nextCmd d 0x74 = some c ∧ s.longOp d 0x74 = none ∧ testOf (s.isL d)
        (c.op 16 1) = false) :=
  ⟨⟨(inCmd on 0 0x72 [(16, 1, 1)]).setBoot { images := [(0, img0)] }, _, _, 0, 1, (cmdOf 0 0x72 [(16, 1, 1)]), img0,
      ⟨(by decide +kernel), (by decide +kernel), (by decide +kernel), (by decide +kernel), (by decide +kernel),
      (by decide +kernel), (by decide +kernel), rfl, rfl⟩⟩,
   ⟨(inCmd on 0 0x72 [(16, 1, 4)]), 0, (cmdOf 0 0x72 [(16, 1, 4)]), ⟨(by decide +kernel), (by decide +kernel),
       (by decide +kernel)⟩⟩,
   ⟨(inCmd on 0 0x73 []), _, 0, (cmdOf 0 0x73 []), ⟨(by decide +kernel), (by decide +kernel), (by decide +kernel), rfl⟩⟩,
   ⟨(inCmd (on.putB 0 LOCK_STAT_fuse_error true) 0 0x73 []), 0, (cmdOf 0 0x73 []), ⟨(by decide +kernel), (by decide +kernel),
       (by decide +kernel)⟩⟩,
   ⟨(inCmd on 0 0x74 [(16, 1, 5)]), _, 0, 0, true, true, (cmdOf 0 0x74 [(16, 1, 5)]), _, ⟨(by decide +kernel),
       (by decide +kernel), (by decide +kernel), (by decide +kernel), (by decide +kernel), rfl, rfl⟩⟩,
   ⟨(inCmd on 0 0x74 [(16, 1, 77)]), 0, (cmdOf 0 0x74 [(16, 1, 77)]), ⟨(by decide +kernel), (by decide +kernel),
       (by decide +kernel), (by decide +kernel)⟩⟩⟩

/-- Values that meet the hypotheses of Obligations.StartUpCommandsComplete, clause by clause. -/
theorem witness_StartUpCommandsComplete_part3 :
    (∃ (s t : State) (d : Nat) (blob : Bytes) (writes : List CfgWrite) (c : Cmd), d < s.nDies ∧ s.nextCmd d 0x75 = some c ∧
        s.longOp d 0x75 = none ∧ c.op 24 4 ≤ 512 * 1024 ∧ s.blobOk writes = true ∧ t = s.setBoot
        { s.boot with config := slice blob 0 (c.op 24 4), writes := writes })
    ∧ (∃ (s : State) (d : Nat) (c : Cmd), d < s.nDies ∧ s.nextCmd d 0x75 = some c ∧ s.longOp d 0x75 = none ∧ 512 * 1024 < c.op
        24 4)
    ∧ (∃ (s : State) (d : Nat) (writes : List CfgWrite) (crcOk : Bool) (c : Cmd), d < s.nDies ∧ s.nextCmd d 0x75 = some c ∧
        s.longOp d 0x75 = none ∧ c.op 24 4 ≤ 512 * 1024 ∧ ((crcOk = false ∨ s.blobOk writes = false)))
    ∧ (∃ (s : State) (d n : Nat) (c : Cmd), d < s.nDies ∧ s.nextCmd d 0x76 = some c ∧ n = min (c.op 24 4) s.boot.config.length)
        :=
  ⟨⟨(inCmd on 0 0x75 []), _, 0, [], [], (cmdOf 0 0x75 []), ⟨(by decide +kernel), (by decide +kernel), (by decide +kernel),
      (by decide +kernel), (by decide +kernel), rfl⟩⟩,
   ⟨(inCmd on 0 0x75 [(24, 4, 1000000)]), 0, (cmdOf 0 0x75 [(24, 4, 1000000)]), ⟨(by decide +kernel), (by decide +kernel),
       (by decide +kernel), (by decide +kernel)⟩⟩,
   ⟨(inCmd on 0 0x75 []), 0, [], false, (cmdOf 0 0x75 []), ⟨(by decide +kernel), (by decide +kernel), (by decide +kernel),
       (by decide +kernel), (by decide +kernel)⟩⟩,
   ⟨(inCmd on 0 0x76 []), 0, _, (cmdOf 0 0x76 []), ⟨(by decide +kernel), (by decide +kernel), rfl⟩⟩⟩

/-- Values that meet the hypotheses of Obligations.StepRunsTheFrontCommand, clause by clause. -/
theorem witness_StepRunsTheFrontCommand : ∃ (s : State) (c : Instr) (cs : List Instr), s.pending = c :: cs :=
  ⟨{ on with pending := [.evtTest 0 3] }, (.evtTest 0 3), [], (by decide +kernel)⟩

/-- Values that meet the hypotheses of Obligations.EmptyQueueStepIsOneTick, clause by clause. -/
theorem witness_EmptyQueueStepIsOneTick : ∃ (s : State), s.pending = [] :=
  ⟨on, (by decide +kernel)⟩

/-- Values that meet the hypotheses of Obligations.CommandsCompleteWhereTheirUnitExists, clause by clause. -/
theorem witness_CommandsCompleteWhereTheirUnitExists :
    (∃ (c : Instr) (s : State), (siteOf s c).present s = true)
    ∧ (∃ (c : Instr) (s : State), (siteOf s c).present s = false) :=
  ⟨⟨(.evtTest 0 3), on, (by decide +kernel)⟩,
   ⟨(.evtTest 9 3), on, (by decide +kernel)⟩⟩

/-- Values that meet the hypotheses of Obligations.CommandsKeepVariantQueueAndTime, clause by clause. -/
theorem witness_CommandsKeepVariantQueueAndTime : ∃ (c : Instr) (s t : State), exec c s = .next t :=
  ⟨(.evtTest 0 3), on, _, (rfl)⟩

/-- Values that meet the hypotheses of Obligations.EveryStepKeepsTheQueueWellFormed, clause by clause. -/
theorem witness_EveryStepKeepsTheQueueWellFormed :
    (∃ (s t : State), step s = .next t)
    ∧ (∃ (s t : State), step s = .next t ∧ s.queueOk = true) :=
  ⟨⟨{ on with pending := [.evtTest 0 3, .evtTest 0 4] }, _, (rfl)⟩,
   ⟨{ on with pending := [.evtTest 0 3, .evtTest 0 4] }, _, ⟨rfl, (by decide +kernel)⟩⟩⟩

/-- Values that meet the hypotheses of Obligations.DieIndices, clause by clause. -/
theorem witness_DieIndices :
    (∃ (s : State), s.variant = .f2l2)
    ∧ (∃ (s : State), s.variant = .f1l1) :=
  ⟨⟨on, (by decide +kernel)⟩,
   ⟨{ on with variant := .f1l1 }, (by decide +kernel)⟩⟩

/-- Values that meet the hypotheses of Obligations.CountersSaturateAndClear, clause by clause. -/
theorem witness_CountersSaturateAndClear :
    (∃ (f : Field), f.width = 32)
    ∧ (∃ (s : State) (d : Nat) (b : Block), s.hasBlock d b = true ∧ s.blockOn d b = true) :=
  ⟨⟨SYS_ACC_ERR_CNT, (by decide +kernel)⟩,
   ⟨on, 0, .sys, ⟨(by decide +kernel), (by decide +kernel)⟩⟩⟩

/-- Values that meet the hypotheses of Obligations.ScratchReadsBack, clause by clause. -/
theorem witness_ScratchReadsBack : ∃ (s : State) (d : Nat), d < s.nDies ∧ s.blockOn d .sys = true :=
  ⟨on, 0, ⟨(by decide +kernel), (by decide +kernel)⟩⟩

/-- Values that meet the hypotheses of Obligations.EthernetWindowsOfOtherDies, clause by clause. -/
theorem witness_EthernetWindowsOfOtherDies : ∃ (s : State) (d off : Nat), s.isL d = true ∧ 2 ≤ d ∧ 0x280000 ≤ off ∧ off <
    0x2A0000 ∧ off % 4 = 0 :=
  ⟨onL4, 2, 0x280000, ⟨(by decide +kernel), (by decide +kernel), (by decide +kernel), (by decide +kernel), (by decide +kernel)⟩⟩

/-- Values that meet the hypotheses of Obligations.RaisesTouchOnlyEventState, clause by clause. -/
theorem witness_RaisesTouchOnlyEventState : ∃ (s t : State) (d n args handle : Nat), t = s.raise d n args handle :=
  ⟨on, _, 0, 0, 0, 0, (rfl)⟩

/-- Values that meet the hypotheses of Obligations.RingsRefuseOtherKinds, clause by clause. -/
theorem witness_RingsRefuseOtherKinds : ∃ (s : State) (g kind op : Nat) (e : Bytes), g < 256 ∧ s.isPort (s.groupPort g) = true ∧
    s.sqCount g ≠ 0 ∧ s.linkUp (s.groupPort g) = true ∧ 3 ≤ s.get (s.groupPort g) SYS_BOOT_stage ∧ s.get 0
    HIF_GRPn_STAT_sq_state g = 1 ∧ s.get 0 HIF_GRPn_CTRL_sq_kind g = kind ∧ leField e 0 1 = op ∧ (¬ ((kind = 1 ∧ 1 ≤ op ∧ op ≤
    0x7F) ∨ (kind = 2 ∧ op = 0x80) ∨ (kind = 3 ∧ op = 0x81))) :=
  ⟨(grpHost (puts on [(0, HIF_STAT_a_up, 1), (0, HIF_GRPn_STAT_cq_state, 1), (0, HIF_GRPn_SIZE_cq_log2, 8), (0,
      HIF_GRPn_STAT_sq_state, 1), (0, HIF_GRPn_SIZE_sq_log2, 8), (0, HIF_GRPn_CTRL_sq_kind, 1)]) { sqTail := 1 }), 0, _, _,
      (fillBytes 64 0x80), ⟨(by decide +kernel), (by decide +kernel), (by decide +kernel), (by decide +kernel),
      (by decide +kernel), (by decide +kernel), rfl, rfl, (by decide +kernel)⟩⟩

/-- Values that meet the hypotheses of Obligations.InvalidHandlesAreRefused, clause by clause. -/
theorem witness_InvalidHandlesAreRefused : ∃ (s : State) (g op h : Nat) (e : Bytes), g < 256 ∧ s.isPort (s.groupPort g) = true ∧
    s.sqCount g ≠ 0 ∧ s.linkUp (s.groupPort g) = true ∧ s.get (s.groupPort g) SYS_BOOT_stage = 6 ∧ s.get 0
    HIF_GRPn_STAT_sq_state g = 1 ∧ s.get 0 HIF_GRPn_CTRL_sq_kind g = 1 ∧ leField e 0 1 = op ∧ leField e 8 4 = h ∧ op ∈ [0x01,
    0x02, 0x03, 0x05, 0x07, 0x08, 0x09, 0x0A, 0x10, 0x11, 0x12, 0x13, 0x28] ∧ ((2 ^ 23 ≤ h ∨ s.nL ≤ h / 2 ^ 20 ∨ (s.paired =
    true ∧ h / 2 ^ 20 % 2 = 1))) :=
  ⟨(grpHost (puts on [(0, HIF_STAT_a_up, 1), (0, HIF_GRPn_STAT_cq_state, 1), (0, HIF_GRPn_SIZE_cq_log2, 8), (0,
      HIF_GRPn_STAT_sq_state, 1), (0, HIF_GRPn_SIZE_sq_log2, 8), (0, HIF_GRPn_CTRL_sq_kind, 1)]) { sqTail := 1 }), 0, _, _,
      (fillBytes 64 1), ⟨(by decide +kernel), (by decide +kernel), (by decide +kernel), (by decide +kernel),
      (by decide +kernel), (by decide +kernel), (by decide +kernel), rfl, rfl, (by decide +kernel), (by decide +kernel)⟩⟩

/-- Values that meet the hypotheses of Obligations.KeyOperationRules, clause by clause. -/
theorem witness_KeyOperationRules :
    (∃ (s : State) (d : Nat), s.flag d LOCK_STAT_fuse_error = true)
    ∧ (∃ (s : State) (d : Nat), s.flag d LOCK_STAT_fuse_error = false)
    ∧ (∃ (s t : State) (d n st : Nat), t = s.lockRefuse d n st)
    ∧ (∃ (s t : State) (d n : Nat) (x : Slot), s.slot d n = some x ∧ t = s.keyUsed d n x) :=
  ⟨⟨(on.putB 0 LOCK_STAT_fuse_error true), 0, (by decide +kernel)⟩,
   ⟨on, 0, (by decide +kernel)⟩,
   ⟨on, _, 0, 0, 0, (rfl)⟩,
   ⟨(lockOf 0 [(4, slot0 1 1)]), _, 0, 4, (slot0 1 1), ⟨(by decide +kernel), rfl⟩⟩⟩

/-- Values that meet the hypotheses of Obligations.MarksExtendOrRefuse, clause by clause. -/
theorem witness_MarksExtendOrRefuse : ∃ (s : State) (d m : Nat), d < s.nDies ∧ m < 8 :=
  ⟨on, 0, 0, ⟨(by decide +kernel), (by decide +kernel)⟩⟩

/-- Values that meet the hypotheses of Obligations.ZeroiseClearsTheKeys, clause by clause. -/
theorem witness_ZeroiseClearsTheKeys :
    (∃ (s : State) (d : Nat) (c : Instr), d < s.nDies ∧ ((c = .lockZeroise d ∨ c = .integrityFault d)))
    ∧ (∃ (s : State) (d : Nat) (c : Instr), d < s.nDies ∧ ((c = .lockZeroise d ∨ c = .integrityFault d)) ∧ s.isL d = true) :=
  ⟨⟨on, 0, (.lockZeroise 0), ⟨(by decide +kernel), (by decide +kernel)⟩⟩,
   ⟨on, 0, (.lockZeroise 0), ⟨(by decide +kernel), (by decide +kernel), (by decide +kernel)⟩⟩⟩

/-- Values that meet the hypotheses of Obligations.AccessNumberIsExtended, clause by clause. -/
theorem witness_AccessNumberIsExtended :
    (∃ (f : Parsed) (unbound : Bool), ((f.suite ≠ 2 ∨ unbound = true)))
    ∧ (∃ (f : Parsed), f.suite = 2) :=
  ⟨⟨{}, true, (by decide +kernel)⟩,
   ⟨{ suite := 2 }, (by decide +kernel)⟩⟩

/-- Values that meet the hypotheses of Obligations.TransmissionsStayInTheirBand, clause by clause. -/
theorem witness_TransmissionsStayInTheirBand :
    (∃ (s : State) (d n : Nat) (f : TxFrame), s.dcCheck d f = .inr n)
    ∧ (∃ (s : State) (d : Nat) (f : TxFrame), ((∀ n, n < 8 → ¬ (s.get d RFT_DC_LOn_lo n < s.get d RFT_DC_HIn_hi n ∧ s.get d
        RFT_DC_LOn_lo n ≤ f.lo ∧ f.hi ≤ s.get d RFT_DC_HIn_hi n)))) :=
  ⟨⟨(puts (rdo { txq := [frame0 .bell .queued (10 ^ 12 + 10000)] }) [(2, RFT_DC_LOn_lo, 8680000), (2, RFT_DC_HIn_hi, 8681000),
      (2, RFT_DC_LIMn_lim, 100)]), 2, _, (frame0 .bell .queued (10 ^ 12 + 10000)), (inrOf (by decide +kernel))⟩,
   ⟨on, 2, (frame0 .bell .queued (10 ^ 12 + 10000)), (by decide +kernel)⟩⟩

/-- Values that meet the hypotheses of Obligations.TheLeastWornFreeBlockIsTaken, clause by clause. -/
theorem witness_TheLeastWornFreeBlockIsTaken : ∃ (a : Arc) (lun : Nat), a.freeBlock lun = none :=
  ⟨{ blocks := [(0, { st := .closed })] }, 0, (by decide +kernel)⟩

/-- Values that meet the hypotheses of Obligations.PanelVoltageFollowsTheTemperature, clause by clause. -/
theorem witness_PanelVoltageFollowsTheTemperature :
    (∃ (s : State) (d : Nat) (T v : Int), v = Int.ofNat (s.get d SLATE_VLCD_v25) + s.getZ d SLATE_VLCD_tc * (T - 25) ∧ 2500 ≤ v
        ∧ v ≤ 5500)
    ∧ (∃ (s : State) (d : Nat), s.isF d = true ∧ s.flag d SLATE_STAT_deferred = false)
    ∧ (∃ (s : State) (d : Nat), s.isF d = true) :=
  ⟨⟨(on.put 2 SLATE_VLCD_v25 3000), 2, 25, _, ⟨rfl, (by decide +kernel), (by decide +kernel)⟩⟩,
   ⟨on, 2, ⟨(by decide +kernel), (by decide +kernel)⟩⟩,
   ⟨on, 2, (by decide +kernel)⟩⟩


end Sys2Proof.Tests
end

section
/-! The places of the dies in a package (R2): which indices are L-dies, which are F-dies, and where each F-die stands. -/

namespace Sys2Proof.Machine

/-- Every variant of R1 has an L-die, so that index 0 is never an F-die's. -/
theorem Variant.lDies_pos (v : Variant) : 0 < v.lDies := by
  cases v with
  | f1l1 | f2l2 | l4 | l8 => decide

theorem State.isL_iff (s : State) (d : Nat) : s.isL d = true ↔ d < s.variant.lDies := by
  simp [State.isL]

theorem State.isF_iff (s : State) (d : Nat) : s.isF d = true ↔ s.variant.lDies ≤ d ∧ d < s.nDies := by
  simp [State.isF, State.nDies]

theorem State.isL_zero (s : State) : s.isL 0 = true := (s.isL_iff 0).2 s.variant.lDies_pos

theorem State.lt_of_isL_of_isF {s : State} {d e : Nat} (hL : s.isL d = true) (hF : s.isF e = true) : d < e := by
  have hd := (s.isL_iff d).1 hL
  obtain ⟨he, -⟩ := (s.isF_iff e).1 hF
  exact hd.trans_le he

/-- A die of the package is of exactly one kind. -/
theorem State.isL_iff_isF_eq_false {s : State} {d : Nat} (hd : d < s.nDies) : s.isL d = true ↔ s.isF d = false := by
  rw [← Bool.not_eq_true, s.isL_iff, s.isF_iff, not_and_or, not_le]
  exact ⟨Or.inl, fun h => h.resolve_right (not_not_intro hd)⟩

theorem State.isF_fIndex {s : State} {f : Nat} (hf : f < s.variant.fDies) : s.isF (s.fIndex f) = true :=
  (s.isF_iff _).2 ⟨Nat.le_add_right _ _, Nat.add_lt_add_left hf _⟩

/-- On the SG4-F2L2 the F-dies follow two L-dies. -/
theorem State.fIndex_of_f2l2 {s : State} (h : s.variant = .f2l2) (f : Nat) : s.fIndex f = 2 + f := by
  rw [State.fIndex, h, Variant.lDies]

/-- On the SG4-F1L1 the F-die follows one L-die. -/
theorem State.fIndex_of_f1l1 {s : State} (h : s.variant = .f1l1) (f : Nat) : s.fIndex f = 1 + f := by
  rw [State.fIndex, h, Variant.lDies]

/-- Settles O44 (R2): an index below the variant's count of L-dies is an L-die, and F-die `f` stands `f` places above that count. -/
theorem dieIndices : Obligations.DieIndices := by
  unfold Obligations.DieIndices
  intro s
  exact ⟨s.isL_zero, fun _ _ => State.lt_of_isL_of_isF, fun _ => State.isL_iff_isF_eq_false, fun _ => State.isF_fIndex,
    fun h => ⟨State.fIndex_of_f2l2 h 0, State.fIndex_of_f2l2 h 1⟩, fun h => State.fIndex_of_f1l1 h 0⟩

end Sys2Proof.Machine
end

section
/-! The band entries of an F-die (R55): which entry carries a transmission, what the check of R56 answers with it and without one,
and that reset leaves none valid. -/

namespace Sys2Proof.Machine

/-- Band entry `n` of a die is valid and wholly contains the occupied bandwidth of a frame (R55). -/
def State.BandContains (s : State) (d n : Nat) (f : TxFrame) : Prop :=
  s.get d RFT_DC_LOn_lo n < s.get d RFT_DC_HIn_hi n ∧ s.get d RFT_DC_LOn_lo n ≤ f.lo ∧ f.hi ≤ s.get d RFT_DC_HIn_hi n

/-- The entry taken is the first of the eight that contains the frame. -/
theorem State.bandOf_eq_some_iff {s : State} {d n : Nat} {f : TxFrame} :
    s.bandOf d f = some n ↔ s.BandContains d n f ∧ n < 8 ∧ ∀ m, m < n → ¬ s.BandContains d m f := by
  simp only [State.bandOf, State.BandContains, List.find?_range_eq_some, List.mem_range, decide_eq_true_eq, Bool.not_eq_true',
    decide_eq_false_iff_not]

theorem State.bandOf_eq_none_iff {s : State} {d : Nat} {f : TxFrame} :
    s.bandOf d f = none ↔ ∀ n, n < 8 → ¬ s.BandContains d n f := by
  simp [State.bandOf, State.BandContains]

theorem State.dcCheck_of_bandOf_none {s : State} {d : Nat} {f : TxFrame} (h : s.bandOf d f = none) :
    s.dcCheck d f = .inl 0x0502 := by
  simp [State.dcCheck, h]

/-- The budget of R56 permits a frame in its entry or refuses it; it never picks another entry. -/
theorem State.dcCheck_of_bandOf_some {s : State} {d n : Nat} {f : TxFrame} (h : s.bandOf d f = some n) :
    s.dcCheck d f = .inl 0x0501 ∨ s.dcCheck d f = .inr n := by
  simp only [State.dcCheck, h]
  exact ite_eq_or_eq _ _ _

theorem State.bandOf_of_dcCheck {s : State} {d n : Nat} {f : TxFrame} (h : s.dcCheck d f = .inr n) : s.bandOf d f = some n := by
  cases hb : s.bandOf d f with
  | none => cases h.symm.trans (State.dcCheck_of_bandOf_none hb)
  | some k =>
    obtain hrefused | hpermitted := State.dcCheck_of_bandOf_some hb
    · cases h.symm.trans hrefused
    · rw [Sum.inr.inj (hpermitted.symm.trans h)]

/-- A reset value that the field's table gives as one number holds on every die and copy. -/
theorem resetFor_of_lt {f : Field} (h : f.reset < 2 ^ 32) (v : Variant) (d i : Nat) : resetFor v d f i = f.reset := by
  unfold resetFor
  exact if_pos h

/-- At reset no register is written, so such a field reads as its reset value. -/
theorem State.get_reset {f : Field} (h : f.reset < 2 ^ 32) (d i : Nat) : State.reset.get d f i = f.reset := by
  have hget : State.reset.get d f i = State.reset.resetOf d f i := rfl
  rw [hget, State.resetOf, resetFor_of_lt h]

/-- Settles O55 (R55): the entry of a permitted frame is the first that contains it, a frame that none contains is refused, and both
edges of every entry reset to 0. -/
theorem transmissionsStayInTheirBand : Obligations.TransmissionsStayInTheirBand := by
  unfold Obligations.TransmissionsStayInTheirBand
  refine ⟨fun s d n f h => ?permitted, fun s d f h => ?refused, fun d n => ?reset⟩
  case permitted =>
    obtain ⟨⟨hvalid, hlo, hhi⟩, hn, hfirst⟩ := State.bandOf_eq_some_iff.1 (State.bandOf_of_dcCheck h)
    exact ⟨hn, hvalid, hlo, hhi, hfirst⟩
  case refused => exact State.dcCheck_of_bandOf_none (State.bandOf_eq_none_iff.2 h)
  case reset =>
    have hlo : State.reset.get d RFT_DC_LOn_lo n = 0 := State.get_reset (by decide) d n
    have hhi : State.reset.get d RFT_DC_HIn_hi n = 0 := State.get_reset (by decide) d n
    rw [hlo, hhi]
    exact lt_irrefl 0

end Sys2Proof.Machine
end

section
/-! The place of a register field in the die windows of BAR0 (R9): which fields a write and a raise of an event leave alone. -/

namespace Sys2Proof.Machine

/-- Copy `i` of `f` and copy `j` of `g` stand at different places of the die window. -/
abbrev Field.Besides (f : Field) (i : Nat) (g : Field) (j : Nat) : Prop :=
  f.dieOff i < dieWindow ∧ f.lsb < 32 ∧ g.dieOff j < dieWindow ∧ g.lsb < 32 ∧ (f.dieOff i ≠ g.dieOff j ∨ f.lsb ≠ g.lsb)

/-- Windows do not overlap: copies at different places of a window have different keys on whatever dies. -/
theorem Field.Besides.key_ne {f g : Field} {i j : Nat} (h : f.Besides i g j) (d e : Nat) : f.key d i ≠ g.key e j := by
  obtain ⟨hf, hfl, hg, hgl, hne⟩ := h
  unfold Field.key dieWindow at *
  omega

theorem Field.apart_of_besides {g : Field} {fs : List Field} {i : Nat} (h : ∀ f ∈ fs, ∀ j, j < f.count → f.Besides j g i) (e : Nat) :
    g.apart fs e i :=
  fun f hf d j hj => (h f hf j hj).key_ne d e

theorem State.get_put_besides {f g : Field} {i j : Nat} (h : f.Besides i g j) (s : State) (d e v : Nat) :
    (s.put d f v i).get e g j = s.get e g j :=
  get_put_ne s d e f g v i j (h.key_ne d e).symm

theorem State.get_put_of_apart {f g : Field} {fs : List Field} {e i j : Nat} (hg : g.apart fs e j) (hf : f ∈ fs) (hi : i < f.count)
    (s : State) (d v : Nat) : (s.put d f v i).get e g j = s.get e g j :=
  get_put_ne s d e f g v i j (hg f hf d i hi).symm

/-- A 32-bit counter holds one more, up to its highest value (R8). -/
theorem State.get_inc {f : Field} (h : f.width = 32) (s : State) (d : Nat) :
    (s.inc d f).get d f = min (s.get d f + 1) 0xFFFFFFFF := by
  rw [State.inc, get_put_same, h, satAdd32]
  exact Nat.mod_eq_of_lt (by omega)

end Sys2Proof.Machine
end

section
/-! Raises of event sources (R374 to R379): what they leave alone. -/

namespace Sys2Proof.Machine

/-- The fields of the EVT block that a raise writes. -/
def eventFields : List Field := [EVT_RAISE_CNT, EVT_COALESCE_CNT, EVT_SAT_CNT, EVT_PENDw_pend]

/-- A state with other registers, and with the event state of another host interface. -/
def State.withEvents (s : State) (regs : SMap Nat) (x : Hif) : State :=
  { s with
    regs := regs
    hif := { s.hif with
      evtWait := x.evtWait
      evtNet := x.evtNet
      msixPend := x.msixPend
      msixSent := x.msixSent
      hostOut := x.hostOut } }

/-- `t` is `s` but for event state: entries that wait, messages to the port die, MSI-X signals, and the fields of `eventFields`. -/
structure State.EventsOnly (s t : State) : Prop where
  eq_withEvents : ∃ regs x, t = s.withEvents regs x
  get_eq : ∀ (e i : Nat) (g : Field), g.apart eventFields e i → t.get e g i = s.get e g i

namespace State.EventsOnly

variable {s t u : State}

theorem refl (s : State) : s.EventsOnly s := ⟨⟨s.regs, s.hif, rfl⟩, fun _ _ _ _ => rfl⟩

theorem trans (hst : s.EventsOnly t) (htu : t.EventsOnly u) : s.EventsOnly u := by
  obtain ⟨⟨_, _, rfl⟩, ht⟩ := hst
  obtain ⟨⟨regs, x, rfl⟩, hu⟩ := htu
  exact ⟨⟨regs, x, rfl⟩, fun e i g hg => (hu e i g hg).trans (ht e i g hg)⟩

theorem put {f : Field} {i : Nat} (hf : f ∈ eventFields) (hi : i < f.count) (s : State) (d v : Nat) : s.EventsOnly (s.put d f v i) :=
  ⟨⟨_, s.hif, rfl⟩, fun _ _ _ hg => State.get_put_of_apart hg hf hi s d v⟩

theorem inc {f : Field} (hf : f ∈ eventFields) (hi : 0 < f.count) (s : State) (d k : Nat) : s.EventsOnly (s.inc d f k) :=
  put hf hi s d _

theorem withEvents (s : State) (x : Hif) : s.EventsOnly (s.withEvents s.regs x) := ⟨⟨s.regs, x, rfl⟩, fun _ _ _ _ => rfl⟩

theorem foldl {α : Type} {f : State → α → State} (hf : ∀ (s : State) (a : α), s.EventsOnly (f s a)) (l : List α) (s : State) :
    s.EventsOnly (l.foldl f s) := by
  induction l generalizing s with
  | nil => exact refl s
  | cons a l ih => exact (hf s a).trans (ih (f s a))

theorem signal (s : State) (p v : Nat) : s.EventsOnly (s.signal p v) := by
  unfold State.signal
  split
  · exact refl s
  · split
    · exact withEvents s { s.hif with msixPend := smSet s.hif.msixPend false (64 * p + v) true }
    · exact withEvents s { s.hif with
        msixSent := smSet s.hif.msixSent 0 (64 * p + v) (smGetD s.hif.msixSent 0 (64 * p + v) + 1)
        hostOut := hostWrite s.hif.hostOut p _ _ }

theorem evtEnqueue (s : State) (w : EvtWait) : s.EventsOnly (s.evtEnqueue w) := by
  have setWait (t : State) (l : List EvtWait) : t.EventsOnly { t with hif := { t.hif with evtWait := l } } :=
    withEvents t { t.hif with evtWait := l }
  unfold State.evtEnqueue
  split
  · split
    · exact setWait s _
    · refine trans ?_ (setWait _ _)
      split
      · exact inc (by decide) (by decide) s _ _
      · exact inc (by decide) (by decide) s _ _
  · exact setWait s _

theorem evtArrive (s : State) (m : EvtMsg) : s.EventsOnly (s.evtArrive m) := by
  unfold State.evtArrive
  extract_lets queued
  have entries : s.EventsOnly queued := by
    unfold queued
    split
    · exact foldl (fun t p => evtEnqueue t ⟨p, m.die, m.src, 1, m.time, m.handle, m.args⟩) _ s
    · exact refl s
  split
  · exact entries
  · exact entries.trans (signal queued _ _)

end State.EventsOnly

/-- The sources of R375 and R376 have numbers that EVT_PEND has bits for. -/
theorem State.lt_of_evtDefault {s : State} {d n c : Nat} (h : s.evtDefault d n = some c) : n < 256 := by
  have small {l : List Nat} (hl : ∀ k ∈ l, k < 256) (hn : ¬ n < 256) : n ∉ l := fun hmem => hn (hl n hmem)
  by_contra hn
  have hL : evtClassL n = none := by
    rw [evtClassL, if_neg (small (by decide) hn), if_neg (small (by decide) hn), if_neg (small (by decide) hn)]
  have hF : evtClassF n = none := by
    rw [evtClassF, if_neg (small (by decide) hn), if_neg (small (by decide) hn), if_neg (small (by decide) hn), if_neg (by omega)]
  simp [State.evtDefault, hL, hF] at h

/-- A raise changes event state only (R219, R378, R379). -/
theorem State.raise_eventsOnly (s : State) (d n args handle : Nat) : s.EventsOnly (s.raise d n args handle) := by
  cases hclass : s.evtDefault d n with
  | none =>
    rw [raise_reserved args handle hclass]
    exact .refl s
  | some c =>
    have hword : n / 32 < EVT_PENDw_pend.count := Nat.div_lt_of_lt_mul (State.lt_of_evtDefault hclass)
    have counted : s.EventsOnly (if s.flag d EVT_SRCs_en n then s.inc d EVT_RAISE_CNT else s) := by
      split
      · exact .inc (by decide) (by decide) s d 1
      · exact .refl s
    unfold State.raise
    rw [hclass, Option.isNone_some, if_neg Bool.false_ne_true]
    extract_lets en dir was s1 s2 m
    have pended : s.EventsOnly s2 := by
      unfold s2
      split
      · exact counted.trans (.put (by decide) hword s1 d _)
      · exact counted
    split
    · exact pended
    · split
      · exact pended.trans (.evtArrive s2 m)
      · exact pended.trans (.withEvents s2 { s2.hif with evtNet := s2.hif.evtNet ++ [m] })

section
variable (s : State) (d n args handle : Nat)

@[simp] theorem raise_variant : (s.raise d n args handle).variant = s.variant := by
  obtain ⟨⟨_, _, h⟩, -⟩ := s.raise_eventsOnly d n args handle; rw [h]; rfl
@[simp] theorem raise_com : (s.raise d n args handle).com = s.com := by
  obtain ⟨⟨_, _, h⟩, -⟩ := s.raise_eventsOnly d n args handle; rw [h]; rfl
@[simp] theorem raise_pkg : (s.raise d n args handle).pkg = s.pkg := by
  obtain ⟨⟨_, _, h⟩, -⟩ := s.raise_eventsOnly d n args handle; rw [h]; rfl
@[simp] theorem raise_ldies : (s.raise d n args handle).ldies = s.ldies := by
  obtain ⟨⟨_, _, h⟩, -⟩ := s.raise_eventsOnly d n args handle; rw [h]; rfl
@[simp] theorem raise_fdies : (s.raise d n args handle).fdies = s.fdies := by
  obtain ⟨⟨_, _, h⟩, -⟩ := s.raise_eventsOnly d n args handle; rw [h]; rfl

/-- A raise leaves every field beside those of `eventFields` alone. -/
theorem State.get_raise_besides {g : Field} {i : Nat} (h : ∀ f ∈ eventFields, ∀ j, j < f.count → f.Besides j g i) (e : Nat) :
    (s.raise d n args handle).get e g i = s.get e g i :=
  (s.raise_eventsOnly d n args handle).get_eq e i g (Field.apart_of_besides h e)

end

end Sys2Proof.Machine
end

section
/-! What the slots and marks of a Locker are read from (R111, R116, R120): the common part of its die, and two status bits. -/

namespace Sys2Proof.Machine

/-- The bits of LOCK_STAT that slot 0 and the checks of R118 look at. -/
def lockerStatus : List Field := [LOCK_STAT_ready, LOCK_STAT_fuse_error]

theorem State.slot0_eq (s : State) (d : Nat) :
    s.slot0 d =
      if s.flag d LOCK_STAT_ready && !s.flag d LOCK_STAT_fuse_error && (s.lock d).lc != 3
          && (s.lock d).fuses.root != fillBytes 32 0xFF then
        some { alg := 2, usage := 2 ^ 5, origin := 3, key := (s.lock d).fuses.root }
      else none := rfl

/-- Slot 0 is a function of the lifecycle, the fuses and the status bits; every other slot is stored (R116, R117). -/
theorem State.slot_congr {s t : State} {e : Nat} (hlock : t.lock e = s.lock e) (hstat : ∀ g ∈ lockerStatus, t.get e g = s.get e g)
    (n : Nat) : t.slot e n = s.slot e n := by
  have hready := hstat LOCK_STAT_ready (by decide)
  have herror := hstat LOCK_STAT_fuse_error (by decide)
  rw [State.slot, State.slot, State.slot0_eq, State.slot0_eq, State.flag, State.flag, hlock, hready, herror, ← State.flag, ← State.flag]

theorem lock_settle (s t : State) (e : Nat) : (s.settle t).lock e = t.lock e := rfl

theorem slot_settle {s t : State} (h : t.variant = s.variant) (e n : Nat) : (s.settle t).slot e n = t.slot e n := by
  have hstat : ∀ g ∈ lockerStatus, (s.settle t).get e g = t.get e g := fun g _ => get_settle s t e g 0 h
  exact State.slot_congr (lock_settle s t e) hstat n

theorem lock_setLock (s : State) (d e : Nat) (k : Lock) : (s.setLock d k).lock e = if e = d then k else s.lock e := by
  rw [State.lock, State.setLock, com1_setCom, State.lock]
  split <;> rfl

theorem com1_setLock_ne {d e : Nat} (h : e ≠ d) (s : State) (k : Lock) : (s.setLock d k).com1 e = s.com1 e := by
  rw [State.setLock, com1_setCom, if_neg h]

theorem mark_setLock (s : State) (d e m : Nat) (k : Lock) :
    (s.setLock d k).mark e m = if e = d then smGetD k.marks (fillBytes 32 0) m else s.mark e m := by
  rw [State.mark, lock_setLock, State.mark]
  split <;> rfl

/-- A Locker of the same lifecycle and fuses shows the slots stored in it, and slot 0 as it was. -/
theorem slot_setLock {s : State} {d : Nat} {k : Lock} (hlc : k.lc = (s.lock d).lc) (hfuses : k.fuses = (s.lock d).fuses) (e n : Nat) :
    (s.setLock d k).slot e n = if e = d ∧ n ≠ 0 then smGet k.slots n else s.slot e n := by
  by_cases he : e = d
  · subst he
    have hlock : (s.setLock e k).lock e = k := by rw [lock_setLock, if_pos rfl]
    by_cases hn : n = 0
    · have hslot0 : (s.setLock e k).slot0 e = s.slot0 e := by
        rw [State.slot0_eq, State.slot0_eq, hlock, hlc, hfuses]
        rfl
      simp [State.slot, hn, hslot0]
    · simp [State.slot, hn, hlock]
  · rw [if_neg (fun h => he h.1)]
    have hlock : (s.setLock d k).lock e = s.lock e := by rw [lock_setLock, if_neg he]
    exact State.slot_congr hlock (fun _ _ => rfl) n

/-- The dies' own state and the package are in `t` as they are in `s`, and no status bit of a Locker differs. -/
structure State.LockersKept (s t : State) : Prop where
  variant : t.variant = s.variant
  com : t.com = s.com
  pkg : t.pkg = s.pkg
  ldies : t.ldies = s.ldies
  fdies : t.fdies = s.fdies
  status : ∀ e, ∀ g ∈ lockerStatus, t.get e g = s.get e g

namespace State.LockersKept

variable {s t u : State}

theorem trans (hst : s.LockersKept t) (htu : t.LockersKept u) : s.LockersKept u where
  variant := htu.variant.trans hst.variant
  com := htu.com.trans hst.com
  pkg := htu.pkg.trans hst.pkg
  ldies := htu.ldies.trans hst.ldies
  fdies := htu.fdies.trans hst.fdies
  status e g hg := (htu.status e g hg).trans (hst.status e g hg)

theorem put {f : Field} {i : Nat} (h : ∀ g ∈ lockerStatus, f.Besides i g 0) (s : State) (d v : Nat) :
    s.LockersKept (s.put d f v i) :=
  ⟨rfl, rfl, rfl, rfl, rfl, fun e g hg => State.get_put_besides (h g hg) s d e v⟩

theorem inc {f : Field} (h : ∀ g ∈ lockerStatus, f.Besides 0 g 0) (s : State) (d : Nat) : s.LockersKept (s.inc d f) := put h s d _

theorem raise (s : State) (d n args handle : Nat) : s.LockersKept (s.raise d n args handle) where
  variant := raise_variant s d n args handle
  com := raise_com s d n args handle
  pkg := raise_pkg s d n args handle
  ldies := raise_ldies s d n args handle
  fdies := raise_fdies s d n args handle
  status e g hg := by
    have hbeside : ∀ g ∈ lockerStatus, ∀ f ∈ eventFields, ∀ j, j < f.count → f.Besides j g 0 := by decide
    exact State.get_raise_besides s d n args handle (hbeside g hg) e

/-- What settles differs in the queue and the time only. -/
theorem settle (h : s.LockersKept t) : s.LockersKept (s.settle t) where
  variant := rfl
  com := h.com
  pkg := h.pkg
  ldies := h.ldies
  fdies := h.fdies
  status e g hg := (get_settle s t e g 0 h.variant).trans (h.status e g hg)

theorem com1 (h : s.LockersKept t) (e : Nat) : t.com1 e = s.com1 e := by rw [State.com1, State.com1, h.com]
theorem lock (h : s.LockersKept t) (e : Nat) : t.lock e = s.lock e := congrArg Com.lock (h.com1 e)
theorem mark (h : s.LockersKept t) (e m : Nat) : t.mark e m = s.mark e m := by rw [State.mark, State.mark, h.lock]
theorem slot (h : s.LockersKept t) (e n : Nat) : t.slot e n = s.slot e n := State.slot_congr (h.lock e) (h.status e) n
theorem fuseError (h : s.LockersKept t) (e : Nat) : t.flag e LOCK_STAT_fuse_error = s.flag e LOCK_STAT_fuse_error := by
  rw [State.flag, State.flag, h.status e LOCK_STAT_fuse_error (by decide)]

end State.LockersKept

/-- A refusal is counted and raised, and touches no Locker (R118). -/
theorem State.lockRefuse_lockersKept (s : State) (d n status : Nat) : s.LockersKept (s.lockRefuse d n status) :=
  (State.LockersKept.inc (by decide) s d).trans (.raise _ d 14 _ _)

/-- A refused extend shows its error and is raised, and touches no Locker (R120). -/
theorem State.extendRefuse_lockersKept (s : State) (d m status : Nat) : s.LockersKept (s.extendRefuse d m status) :=
  (State.LockersKept.put (by decide) s d status).trans (.raise _ d 15 _ _)

end Sys2Proof.Machine
end

section
/-! Key operations (R112, R118): the checks in their order, what a refusal does, and what a performed operation takes. -/

namespace Sys2Proof.Machine

theorem State.keyCheck_of_fuseError {s : State} {d : Nat} (h : s.flag d LOCK_STAT_fuse_error = true) (n u : Nat) :
    s.keyCheck d n u = .inl 0x0204 := by
  rw [State.keyCheck, if_pos h]

theorem State.keyCheck_of_slot_none {s : State} {d n : Nat} (hf : s.flag d LOCK_STAT_fuse_error = false) (h : s.slot d n = none)
    (u : Nat) : s.keyCheck d n u = .inl 0x0201 := by
  simp [State.keyCheck, hf, h]

/-- With sound fuses a valid slot is checked for its usage, then its uses, then the lifecycle. -/
theorem State.keyCheck_of_slot_some {s : State} {d n : Nat} {x : Slot} (hf : s.flag d LOCK_STAT_fuse_error = false)
    (h : s.slot d n = some x) (u : Nat) :
    s.keyCheck d n u =
      if bit x.usage u = false then .inl 0x0202
      else if x.uses = 0 then .inl 0x0203
      else if (s.lock d).lc = 3 then .inl 0x0204
      else .inr x := by
  simp [State.keyCheck, State.lockPermits, hf, h]

theorem State.keyCheck_eq_inr_iff {s : State} {d n u : Nat} {x : Slot} :
    s.keyCheck d n u = .inr x ↔
      s.flag d LOCK_STAT_fuse_error = false ∧ s.slot d n = some x ∧ bit x.usage u = true ∧ x.uses ≠ 0 ∧ (s.lock d).lc ≠ 3 := by
  cases hf : s.flag d LOCK_STAT_fuse_error with
  | true => simp [State.keyCheck_of_fuseError hf]
  | false =>
    cases hs : s.slot d n with
    | none => simp [State.keyCheck_of_slot_none hf hs]
    | some y =>
      rw [State.keyCheck_of_slot_some hf hs]
      grind

theorem State.keyCheck_eq_inl_iff {s : State} {d n u st : Nat} (hf : s.flag d LOCK_STAT_fuse_error = false) :
    s.keyCheck d n u = .inl st ↔
      (st = 0x0201 ∧ s.slot d n = none)
      ∨ (∃ x, s.slot d n = some x ∧ ((st = 0x0202 ∧ bit x.usage u = false)
          ∨ (st = 0x0203 ∧ bit x.usage u = true ∧ x.uses = 0)
          ∨ (st = 0x0204 ∧ bit x.usage u = true ∧ x.uses ≠ 0 ∧ (s.lock d).lc = 3))) := by
  cases hs : s.slot d n with
  | none =>
    rw [State.keyCheck_of_slot_none hf hs]
    grind
  | some y =>
    rw [State.keyCheck_of_slot_some hf hs]
    grind

theorem State.lockRefuse_eq (s : State) (d n st : Nat) :
    s.lockRefuse d n st = (s.inc d LOCK_REFUSE_CNT).raise d 14 (n + 2 ^ 16 * st) := by
  have hargs : arg 0 n + arg 2 st = n + 2 ^ 16 * st := by
    unfold arg
    omega
  rw [State.lockRefuse, hargs]

theorem State.get_lockRefuse_refuseCnt (s : State) (d n st : Nat) :
    (s.lockRefuse d n st).get d LOCK_REFUSE_CNT = min (s.get d LOCK_REFUSE_CNT + 1) 0xFFFFFFFF := by
  rw [State.lockRefuse, State.get_raise_besides _ _ _ _ _ (by decide), State.get_inc rfl]

/-- The root secret has no use count (R117). -/
theorem State.uses_of_slot_zero {s : State} {d : Nat} {x : Slot} (h : s.slot d 0 = some x) : x.uses = 0xFFFFFFFF := by
  rw [State.slot, if_pos rfl, State.slot0_eq] at h
  split at h
  · cases h
    rfl
  · cases h

theorem slot_setSlot {n : Nat} (hn : n ≠ 0) (s : State) (d : Nat) (x : Slot) (e k : Nat) :
    (s.setSlot d n x).slot e k = if (e, k) = (d, n) then some x else s.slot e k := by
  have hslot := slot_setLock (s := s) (k := { s.lock d with slots := smPut (s.lock d).slots n x }) rfl rfl e k
  rw [smGet_smPut] at hslot
  refine hslot.trans ?_
  grind [State.slot]

/-- Unlimited uses stay; finite ones go down by one, and nothing else of any slot changes (R118). -/
theorem State.slot_keyUsed {s : State} {d n : Nat} {x : Slot} (hx : s.slot d n = some x) (e k : Nat) :
    (s.keyUsed d n x).slot e k =
      if (e, k) = (d, n) then some { x with uses := if x.uses = 0xFFFFFFFF then x.uses else x.uses - 1 } else s.slot e k := by
  have hcount : s.LockersKept (s.inc d LOCK_OP_CNT) := .inc (by decide) s d
  by_cases hu : x.uses = 0xFFFFFFFF
  · rw [State.keyUsed, if_pos hu, if_pos hu, hcount.slot]
    split
    next h =>
      obtain ⟨rfl, rfl⟩ := Prod.mk.inj h
      exact hx
    next => rfl
  · have hn : n ≠ 0 := by
      rintro rfl
      exact hu (State.uses_of_slot_zero hx)
    rw [State.keyUsed, if_neg hu, if_neg hu, slot_setSlot hn, hcount.slot]

theorem State.com1_keyUsed_ne {d e : Nat} (h : e ≠ d) (s : State) (n : Nat) (x : Slot) : (s.keyUsed d n x).com1 e = s.com1 e := by
  unfold State.keyUsed
  split
  · exact put_com1 s d _ _ _ e
  · exact (com1_setLock_ne h _ _).trans (put_com1 s d _ _ _ e)

theorem State.ldies_keyUsed (s : State) (d n : Nat) (x : Slot) : (s.keyUsed d n x).ldies = s.ldies := by
  unfold State.keyUsed
  split <;> rfl

/-- Settles O51 (R112, R118): the chain of checks read both ways, the frame of a refusal, and the slots after a performed operation. -/
theorem keyOperationRules : Obligations.KeyOperationRules := by
  unfold Obligations.KeyOperationRules
  refine ⟨fun s d n u x => State.keyCheck_eq_inr_iff, fun s d n u h => State.keyCheck_of_fuseError h n u,
    fun s d n u st h => State.keyCheck_eq_inl_iff h, ?refused, ?performed⟩
  case refused =>
    rintro s _ d n st rfl
    have kept := s.lockRefuse_lockersKept d n st
    exact ⟨kept.com, kept.pkg, kept.ldies, kept.fdies, s.get_lockRefuse_refuseCnt d n st, s.lockRefuse_eq d n st⟩
  case performed =>
    rintro s _ d n x hx rfl
    exact ⟨(State.slot_keyUsed hx d n).trans (if_pos rfl), fun e k hne => (State.slot_keyUsed hx e k).trans (if_neg hne),
      fun e he => State.com1_keyUsed_ne he s n x, s.ldies_keyUsed d n x⟩

end Sys2Proof.Machine
end

section
/-! Marks (R112, R120, R121): what an extend from the host does to the marks, and which error it shows. -/

namespace Sys2Proof.Machine

theorem length_leBytes (n v : Nat) : (leBytes n v).length = n := by
  induction n generalizing v with
  | zero => rfl
  | succ n ih => rw [leBytes, List.length_cons, ih]

/-- A slice that is as long as its bytes is those bytes. -/
theorem slice_eq_self {bs : Bytes} {n : Nat} (h : bs.length = n) : slice bs 0 n = bs := by
  subst h
  simp [slice]

/-- LOCK_EXT_DATA0 to 7 hold 32 bytes. -/
theorem State.length_extData (s : State) (d : Nat) : (s.extData d).length = 32 := by
  simp [State.extData, List.length_flatMap, length_leBytes]

theorem State.get_extendRefuse_error (s : State) (d m st : Nat) :
    (s.extendRefuse d m st).get d LOCK_EXT_CTRL_error = st % 2 ^ 8 := by
  rw [State.extendRefuse, State.get_raise_besides _ _ _ _ _ (by decide), get_put_same]
  rfl

theorem State.get_lockRefuse_error (s : State) (d n st : Nat) :
    (s.lockRefuse d n st).get d LOCK_EXT_CTRL_error = s.get d LOCK_EXT_CTRL_error := by
  rw [State.lockRefuse, State.get_raise_besides _ _ _ _ _ (by decide), State.inc, State.get_put_besides (by decide)]

theorem State.extend_of_locked {s : State} {d m : Nat} (hf : s.flag d LOCK_STAT_fuse_error = false)
    (hlock : bit (s.get d LOCK_MARK_LOCK_lock) m = true) (dig : Bytes) : s.extend d m dig = s.extendRefuse d m 0x0205 := by
  simp [State.extend, hf, hlock]

theorem State.extend_of_unlocked {s : State} {d m : Nat} (hf : s.flag d LOCK_STAT_fuse_error = false)
    (hlock : bit (s.get d LOCK_MARK_LOCK_lock) m = false) (dig : Bytes) :
    s.extend d m dig = s.setLock d { s.lock d with
      marks := smSet (s.lock d).marks (fillBytes 32 0) m (sha256 (s.mark d m ++ slice dig 0 32)) } := by
  simp [State.extend, hf, hlock]

/-- An extend of a mark that passes its checks replaces that mark and no other. -/
theorem State.mark_extend {s : State} {d m : Nat} (hf : s.flag d LOCK_STAT_fuse_error = false)
    (hlock : bit (s.get d LOCK_MARK_LOCK_lock) m = false) (dig : Bytes) (e k : Nat) :
    (s.extend d m dig).mark e k = if (e, k) = (d, m) then sha256 (s.mark d m ++ slice dig 0 32) else s.mark e k := by
  rw [State.extend_of_unlocked hf hlock, mark_setLock, smGetD_smSet]
  grind [State.mark]

/-- An extend leaves every slot alone. -/
theorem State.slot_extend {s : State} {d m : Nat} (hf : s.flag d LOCK_STAT_fuse_error = false)
    (hlock : bit (s.get d LOCK_MARK_LOCK_lock) m = false) (dig : Bytes) (e n : Nat) : (s.extend d m dig).slot e n = s.slot e n := by
  rw [State.extend_of_unlocked hf hlock]
  refine (slot_setLock (by rfl) (by rfl) e n).trans ?_
  split
  next h =>
    obtain ⟨rfl, hn⟩ := h
    rw [State.slot, if_neg hn]
  next => rfl

/-- What a write of LOCK_EXT_CTRL with a mark 4 to 7 leaves for the extend: the mark chosen, and the error it starts from. -/
def State.extChosen (s : State) (d m error : Nat) : State := (s.put d LOCK_EXT_CTRL_mark m).put d LOCK_EXT_CTRL_error error

theorem State.extChosen_lockersKept (s : State) (d m error : Nat) : s.LockersKept (s.extChosen d m error) :=
  (State.LockersKept.put (by decide) s d m).trans (.put (by decide) _ d error)

theorem State.get_extChosen_error (s : State) (d m error : Nat) :
    (s.extChosen d m error).get d LOCK_EXT_CTRL_error = error % 2 ^ 8 := by
  rw [State.extChosen, get_put_same]
  rfl

theorem State.get_extChosen_lock (s : State) (d m error : Nat) :
    (s.extChosen d m error).get d LOCK_MARK_LOCK_lock = s.get d LOCK_MARK_LOCK_lock := by
  rw [State.extChosen, State.get_put_besides (by decide), State.get_put_besides (by decide)]

theorem exec_markExtend : ∀ (s : State) (d m : Nat), exec (.markExtend d m) s = execMarkExtend d m s := by
  intros; rfl

/-- The host cannot extend a mark 0 to 3 (R121). -/
theorem exec_markExtend_of_lt {s : State} {d m : Nat} (hd : d < s.nDies) (hm : m < 4) :
    exec (.markExtend d m) s = .next (s.settle (s.extendRefuse d m 0x0205)) := by
  have hmod : m % 8 = m := Nat.mod_eq_of_lt (by omega)
  rw [exec_markExtend, execMarkExtend, onDie_of_lt hd]
  simp only [hmod, if_pos hm, State.extMark]

theorem exec_markExtend_of_fuseError {s : State} {d m : Nat} (hd : d < s.nDies) (h4 : ¬ m < 4) (h8 : m < 8)
    (hf : s.flag d LOCK_STAT_fuse_error = true) :
    exec (.markExtend d m) s = .next (s.settle ((s.extChosen d m 0x0204).lockRefuse d m 0x0204)) := by
  rw [exec_markExtend, execMarkExtend, onDie_of_lt hd]
  simp only [Nat.mod_eq_of_lt h8, if_neg h4, if_pos hf, State.extMark, State.extChosen]

theorem exec_markExtend_of_sound {s : State} {d m : Nat} (hd : d < s.nDies) (h4 : ¬ m < 4) (h8 : m < 8)
    (hf : s.flag d LOCK_STAT_fuse_error = false) :
    exec (.markExtend d m) s = .next (s.settle ((s.extChosen d m 0).extend d m (s.extData d))) := by
  rw [exec_markExtend, execMarkExtend, onDie_of_lt hd]
  simp only [Nat.mod_eq_of_lt h8, if_neg h4, hf, Bool.false_eq_true, if_false, State.extMark, State.extChosen]

/-- What an extend of mark `m` of die `d` leaves alone, whether performed or refused: the other marks, the slots, the other dies. -/
abbrev State.ExtendFrame (s : State) (d m : Nat) (t : State) : Prop :=
  (∀ e k, (e, k) ≠ (d, m) → t.mark e k = s.mark e k) ∧ (∀ e k, t.slot e k = s.slot e k)
    ∧ (∀ e, e ≠ d → t.com1 e = s.com1 e) ∧ t.ldies = s.ldies ∧ t.fdies = s.fdies ∧ t.pkg = s.pkg

theorem State.LockersKept.extendFrame {s t : State} (h : s.LockersKept t) (d m : Nat) : s.ExtendFrame d m t :=
  ⟨fun e k _ => h.mark e k, h.slot, fun e _ => h.com1 e, h.ldies, h.fdies, h.pkg⟩

/-- The answers of a refusal: the marks of before, the error shown, and the frame. -/
theorem State.LockersKept.extendRefused {s t : State} (h : s.LockersKept t) {d error : Nat}
    (herror : t.get d LOCK_EXT_CTRL_error = error) (m : Nat) :
    ((s.settle t).com = s.com ∧ (s.settle t).get d LOCK_EXT_CTRL_error = error) ∧ s.ExtendFrame d m (s.settle t) :=
  ⟨⟨h.com, (get_settle s t d _ 0 h.variant).trans herror⟩, h.settle.extendFrame d m⟩

/-- The answers of an extend that passes its checks: the mark replaced, the error as it was, and the frame, all counted from before the
write that chose the mark. -/
theorem State.LockersKept.extendDone {s u : State} (hu : s.LockersKept u) {d m : Nat} (hf : u.flag d LOCK_STAT_fuse_error = false)
    (hlock : bit (u.get d LOCK_MARK_LOCK_lock) m = false) (dig : Bytes) :
    ((s.settle (u.extend d m dig)).mark d m = sha256 (s.mark d m ++ slice dig 0 32)
      ∧ (s.settle (u.extend d m dig)).get d LOCK_EXT_CTRL_error = u.get d LOCK_EXT_CTRL_error)
    ∧ s.ExtendFrame d m (s.settle (u.extend d m dig)) := by
  have hmark := State.mark_extend hf hlock dig
  have hslot := State.slot_extend hf hlock dig
  rw [hu.mark] at hmark
  rw [State.extend_of_unlocked hf hlock] at hmark hslot ⊢
  refine ⟨⟨(hmark d m).trans (if_pos rfl), get_settle s _ d _ 0 hu.variant⟩, fun e k hne => ?mark, fun e k => ?slot, fun e he => ?com1,
    hu.ldies, hu.fdies, hu.pkg⟩
  case mark => exact ((hmark e k).trans (if_neg hne)).trans (hu.mark e k)
  case slot => exact ((slot_settle (t := u.setLock d _) hu.variant e k).trans (hslot e k)).trans (hu.slot e k)
  case com1 => exact (com1_setLock_ne he u _).trans (hu.com1 e)

/-- Settles O52 (R112, R120, R121): the host's extend of mark 0 to 3, with faulty fuses, of a locked mark, and of one that is free. -/
theorem marksExtendOrRefuse : Obligations.MarksExtendOrRefuse := by
  unfold Obligations.MarksExtendOrRefuse
  intro s d m hd h8
  by_cases h4 : m < 4
  · have kept := s.extendRefuse_lockersKept d m 0x0205
    refine ⟨_, exec_markExtend_of_lt hd h4, ?_⟩
    rw [if_pos h4]
    exact kept.extendRefused (s.get_extendRefuse_error d m 0x0205) m
  simp only [if_neg h4]
  cases hf : s.flag d LOCK_STAT_fuse_error with
  | true =>
    have kept := (s.extChosen_lockersKept d m 0x0204).trans (State.lockRefuse_lockersKept _ d m 0x0204)
    refine ⟨_, exec_markExtend_of_fuseError hd h4 h8 hf, ?_⟩
    rw [if_pos rfl]
    exact kept.extendRefused ((State.get_lockRefuse_error _ d m _).trans (s.get_extChosen_error d m 0x0204)) m
  | false =>
    have chosen := s.extChosen_lockersKept d m 0
    have hfu := (chosen.fuseError d).trans hf
    have hlocked := s.get_extChosen_lock d m 0
    refine ⟨_, exec_markExtend_of_sound hd h4 h8 hf, ?_⟩
    rw [if_neg Bool.false_ne_true]
    cases hlock : bit (s.get d LOCK_MARK_LOCK_lock) m with
    | true =>
      have kept := chosen.trans (State.extendRefuse_lockersKept _ d m 0x0205)
      rw [State.extend_of_locked hfu (by rw [hlocked, hlock]), if_pos rfl]
      exact kept.extendRefused (State.get_extendRefuse_error _ d m 0x0205) m
    | false =>
      have extended := chosen.extendDone hfu (by rw [hlocked, hlock]) (s.extData d)
      rw [slice_eq_self (s.length_extData d), s.get_extChosen_error] at extended
      rw [if_neg Bool.false_ne_true]
      exact extended

end Sys2Proof.Machine
end

section
/-! Zeroisation (R115): what it clears and what it keeps. -/

namespace Sys2Proof.Machine

theorem smGet_filter_key_zero {α : Type} (m : SMap α) {n : Nat} (hn : n ≠ 0) : smGet (m.filter (fun p => p.1 == 0)) n = none := by
  induction m with
  | nil => rfl
  | cons p m ih =>
    obtain ⟨k, v⟩ := p
    by_cases hk : k = 0
    · subst hk
      rw [List.filter_cons_of_pos (by rfl), smGet, if_neg hn, ih]
    · rw [List.filter_cons_of_neg (by simpa using hk), ih]

theorem slot_zeroiseSlots (s : State) (d e n : Nat) :
    (s.zeroiseSlots d).slot e n = if e = d ∧ n ≠ 0 then none else s.slot e n := by
  refine (slot_setLock (by rfl) (by rfl) e n).trans ?_
  split
  next h =>
    obtain ⟨-, hn⟩ := h
    exact smGet_filter_key_zero _ hn
  next => rfl

theorem mark_zeroiseSlots (s : State) (d e m : Nat) : (s.zeroiseSlots d).mark e m = s.mark e m := by
  refine (mark_setLock s d e m _).trans ?_
  split
  next h => rw [h, State.mark]
  next => rfl

theorem fuses_zeroiseSlots (s : State) (d : Nat) : ((s.zeroiseSlots d).lock d).fuses = (s.lock d).fuses := by
  rw [State.zeroiseSlots, lock_setLock, if_pos rfl]

/-- The key cache of an L-die is emptied; an F-die has none. -/
def State.clearCache (s : State) (d : Nat) : State :=
  if s.isL d then s.setL d { s.l d with sec := { (s.l d).sec with cache := [] } } else s

@[simp] theorem clearCache_variant (s : State) (d : Nat) : (s.clearCache d).variant = s.variant := by
  unfold State.clearCache; split <;> rfl
@[simp] theorem clearCache_com (s : State) (d : Nat) : (s.clearCache d).com = s.com := by
  unfold State.clearCache; split <;> rfl
@[simp] theorem clearCache_pkg (s : State) (d : Nat) : (s.clearCache d).pkg = s.pkg := by
  unfold State.clearCache; split <;> rfl
@[simp] theorem clearCache_fdies (s : State) (d : Nat) : (s.clearCache d).fdies = s.fdies := by
  unfold State.clearCache; split <;> rfl
@[simp] theorem clearCache_get (s : State) (d e : Nat) (g : Field) (i : Nat) : (s.clearCache d).get e g i = s.get e g i := by
  unfold State.clearCache; split <;> rfl

theorem l_clearCache_of_isL {s : State} {d : Nat} (h : s.isL d = true) :
    (s.clearCache d).l d = { s.l d with sec := { (s.l d).sec with cache := [] } } := by
  rw [State.clearCache, if_pos h, l_setL, if_pos rfl]

theorem l_clearCache_ne {d e : Nat} (h : e ≠ d) (s : State) : (s.clearCache d).l e = s.l e := by
  unfold State.clearCache
  split
  · rw [l_setL, if_neg h]
  · rfl

theorem State.zeroise_eq (s : State) (d : Nat) :
    s.zeroise d = (((s.zeroiseSlots d).putB d LOCK_STAT_integrity_alarm true).clearCache d).raise d 13 := rfl

theorem zeroise_variant (s : State) (d : Nat) : (s.zeroise d).variant = s.variant := by
  rw [State.zeroise_eq, raise_variant, clearCache_variant]
  rfl

/-- Of the common parts of the dies, a zeroisation changes slots only. -/
theorem zeroise_com (s : State) (d : Nat) : (s.zeroise d).com = (s.zeroiseSlots d).com := by
  rw [State.zeroise_eq, raise_com, clearCache_com]
  rfl

theorem zeroise_pkg (s : State) (d : Nat) : (s.zeroise d).pkg = s.pkg := by
  rw [State.zeroise_eq, raise_pkg, clearCache_pkg]
  rfl

theorem zeroise_fdies (s : State) (d : Nat) : (s.zeroise d).fdies = s.fdies := by
  rw [State.zeroise_eq, raise_fdies, clearCache_fdies]
  rfl

theorem State.l_raise (s : State) (d n args handle e : Nat) : (s.raise d n args handle).l e = s.l e := by
  rw [State.l, raise_ldies, State.l]

theorem State.l_zeroise_ne {d e : Nat} (h : e ≠ d) (s : State) : (s.zeroise d).l e = s.l e := by
  rw [State.zeroise_eq, State.l_raise, l_clearCache_ne h]
  rfl

theorem State.l_zeroise_of_isL {s : State} {d : Nat} (h : s.isL d = true) :
    (s.zeroise d).l d = { s.l d with sec := { (s.l d).sec with cache := [] } } := by
  rw [State.zeroise_eq, State.l_raise]
  exact l_clearCache_of_isL h

/-- A zeroisation writes no register beside the alarm and those of a raise. -/
theorem State.get_zeroise {g : Field} {i : Nat} (hevt : ∀ f ∈ eventFields, ∀ j, j < f.count → f.Besides j g i) (s : State) (d e : Nat) :
    (s.zeroise d).get e g i = (s.putB d LOCK_STAT_integrity_alarm true).get e g i := by
  rw [State.zeroise_eq, State.get_raise_besides _ _ _ _ _ hevt, clearCache_get]
  rfl

theorem State.flag_zeroise_alarm (s : State) (d : Nat) : (s.zeroise d).flag d LOCK_STAT_integrity_alarm = true := by
  rw [State.flag, State.get_zeroise (by decide), State.putB, get_put_same]
  rfl

theorem State.lock_zeroise (s : State) (d e : Nat) : (s.zeroise d).lock e = (s.zeroiseSlots d).lock e := by
  rw [State.lock, State.com1, zeroise_com]
  rfl

theorem State.slot_zeroise (s : State) (d e n : Nat) :
    (s.zeroise d).slot e n = if e = d ∧ n ≠ 0 then none else s.slot e n := by
  have hstat : ∀ g ∈ lockerStatus, (s.zeroise d).get e g = (s.zeroiseSlots d).get e g := by
    have hbeside : ∀ g ∈ lockerStatus, LOCK_STAT_integrity_alarm.Besides 0 g 0
        ∧ ∀ f ∈ eventFields, ∀ j, j < f.count → f.Besides j g 0 := by decide
    intro g hg
    obtain ⟨halarm, hevt⟩ := hbeside g hg
    exact (State.get_zeroise hevt s d e).trans (State.get_put_besides halarm s d e _)
  exact (State.slot_congr (s.lock_zeroise d e) hstat n).trans (slot_zeroiseSlots s d e n)

theorem State.mark_zeroise (s : State) (d e m : Nat) : (s.zeroise d).mark e m = s.mark e m := by
  rw [State.mark, s.lock_zeroise, ← State.mark, mark_zeroiseSlots]

theorem State.com1_zeroise_ne {d e : Nat} (h : e ≠ d) (s : State) : (s.zeroise d).com1 e = s.com1 e := by
  rw [State.com1, zeroise_com]
  exact com1_setLock_ne h s _

/-- Both rows of R115 are the zeroisation of their die. -/
theorem exec_zeroise {d : Nat} {c : Instr} (hc : c = .lockZeroise d ∨ c = .integrityFault d) (s : State) :
    exec c s = onDie s d (s.zeroise d) := by
  obtain rfl | rfl := hc
  · rfl
  · rfl

/-- Settles O53 (R115): the slots but slot 0 and the key cache are emptied, the alarm is set, and the rest is as it was. -/
theorem zeroiseClearsTheKeys : Obligations.ZeroiseClearsTheKeys := by
  unfold Obligations.ZeroiseClearsTheKeys
  intro s d c hd hc
  have hv := zeroise_variant s d
  have hslot (n : Nat) := (slot_settle hv d n).trans (s.slot_zeroise d d n)
  refine ⟨_, (exec_zeroise hc s).trans (onDie_of_lt hd), fun n hn => ?cleared, ?root, fun hL => ?cache, ?alarm, s.mark_zeroise d, ?fuses,
    fun e he => ⟨State.com1_zeroise_ne he s, State.l_zeroise_ne he s⟩, zeroise_fdies s d, zeroise_pkg s d⟩
  case cleared => exact (hslot n).trans (if_pos ⟨rfl, hn⟩)
  case root => exact (hslot 0).trans (if_neg (fun h => h.2 rfl))
  case cache =>
    have hl : (s.settle (s.zeroise d)).l d = { s.l d with sec := { (s.l d).sec with cache := [] } } := State.l_zeroise_of_isL hL
    rw [hl]
    exact ⟨rfl, rfl⟩
  case alarm =>
    rw [State.flag, get_settle _ _ _ _ _ hv]
    exact s.flag_zeroise_alarm d
  case fuses =>
    rw [lock_settle, s.lock_zeroise]
    exact fuses_zeroiseSlots s d

end Sys2Proof.Machine
end

section
/-! The counter of a verdict (R136). -/

namespace Sys2Proof.Machine

theorem Parsed.count_of_counter {f : Parsed} {unbound : Bool} (h : f.suite ≠ 2 ∨ unbound = true) (m : Nat) :
    f.count unbound m = Int.ofNat f.counter := by
  rw [Parsed.count, if_pos h]

/-- The window of 256 counters from `m - 127` holds one of each residue, and the access number picks it. -/
theorem Parsed.count_of_access {f : Parsed} (h : f.suite = 2) (m : Nat) :
    f.count false m = Int.ofNat m - 127 + (Int.ofNat f.counter - (Int.ofNat m - 127)) % 256 := by
  rw [Parsed.count, if_neg (by simp [h])]

theorem add_emod_sub_eq_iff (base x c : Int) : base + (x - base) % 256 = c ↔ base ≤ c ∧ c ≤ base + 255 ∧ (c - x) % 256 = 0 := by
  omega

/-- Settles O54 (R136): the frame's own counter, or under profile A the member of the window that the access number picks. -/
theorem accessNumberIsExtended : Obligations.AccessNumberIsExtended := by
  unfold Obligations.AccessNumberIsExtended
  refine ⟨fun f unbound m h => Parsed.count_of_counter h m, fun f m c h => ?_⟩
  rw [Parsed.count_of_access h, add_emod_sub_eq_iff]
  omega

end Sys2Proof.Machine
end

section
/-! The free block that the controller takes on a LUN (R238). -/

namespace Sys2Proof.Machine

/-- The free blocks of a LUN, in the order of their numbers. -/
def Arc.freeBlocks (a : Arc) (lun : Nat) : List Nat :=
  ((List.range a.bpl).map (fun i => lun * a.bpl + i)).filter (fun b => (a.blk b).st == .free)

theorem Arc.mem_freeBlocks {a : Arc} {lun b : Nat} :
    b ∈ a.freeBlocks lun ↔ lun * a.bpl ≤ b ∧ b < (lun + 1) * a.bpl ∧ (a.blk b).st = .free := by
  have hrange : (∃ i < a.bpl, lun * a.bpl + i = b) ↔ lun * a.bpl ≤ b ∧ b < (lun + 1) * a.bpl := by
    rw [Nat.succ_mul]
    exact ⟨fun ⟨i, hi, hb⟩ => by omega, fun h => ⟨b - lun * a.bpl, by omega, by omega⟩⟩
  simp [Arc.freeBlocks, hrange, and_assoc]

theorem Arc.sortedLT_freeBlocks (a : Arc) (lun : Nat) : (a.freeBlocks lun).SortedLT := by
  have hnumbers : ((List.range a.bpl).map (fun i => lun * a.bpl + i)).Pairwise (· < ·) :=
    (List.sortedLT_range a.bpl).pairwise.map _ (fun _ _ h => Nat.add_lt_add_left h _)
  exact (hnumbers.filter _).sortedLT

/-- The block taken is the library's first minimum of the erase count. -/
theorem Arc.freeBlock_eq_argmin (a : Arc) (lun : Nat) :
    a.freeBlock lun = (a.freeBlocks lun).argmin (fun b => (a.blk b).ec) := by
  refine congrArg (fun f => (a.freeBlocks lun).foldl f none) ?_
  funext o b
  cases o with
  | none => rfl
  | some c => rfl

/-- In an increasing list, the places of two members stand as the members do. -/
theorem le_of_idxOf_le {l : List Nat} (hl : l.SortedLT) {b c : Nat} (hb : b ∈ l) (hc : c ∈ l)
    (h : l.idxOf b ≤ l.idxOf c) : b ≤ c := by
  have hget := hl.strictMono_get.monotone (a := ⟨_, List.idxOf_lt_length_of_mem hb⟩)
    (b := ⟨_, List.idxOf_lt_length_of_mem hc⟩) h
  simpa using hget

/-- Settles O56 (R238): the fold is the first minimum of the erase count over the free blocks, which stand in the order of their
numbers. -/
theorem theLeastWornFreeBlockIsTaken : Obligations.TheLeastWornFreeBlockIsTaken := by
  unfold Obligations.TheLeastWornFreeBlockIsTaken
  intro a lun
  rw [Arc.freeBlock_eq_argmin]
  refine ⟨fun b hb => ?taken, fun hnone c hlo hhi hfree => ?none⟩
  case taken =>
    obtain ⟨hmem, hmin, hfirst⟩ := List.argmin_eq_some_iff.1 hb
    obtain ⟨hlo, hhi, hfree⟩ := Arc.mem_freeBlocks.1 hmem
    refine ⟨hlo, hhi, hfree, fun c hclo hchi hcfree => ?_⟩
    have hc : c ∈ a.freeBlocks lun := Arc.mem_freeBlocks.2 ⟨hclo, hchi, hcfree⟩
    refine (hmin c hc).lt_or_eq.imp_right (fun heq => ⟨heq, ?_⟩)
    exact le_of_idxOf_le (a.sortedLT_freeBlocks lun) hmem hc (hfirst c hc heq.ge)
  case none =>
    have hc : c ∈ a.freeBlocks lun := Arc.mem_freeBlocks.2 ⟨hlo, hhi, hfree⟩
    exact List.ne_nil_of_mem hc (List.argmin_eq_none.1 hnone)

end Sys2Proof.Machine
end

section
/-! Windows without a block (R372, R373): what an aligned read and an aligned write at such an offset do, and that the ETH offsets of
an L-die other than L0 and L1 are such (R295). -/

namespace Sys2Proof.Machine

/-- The fields of the SYS block that show an access error (R6, R373). -/
def accessFields : List Field := [SYS_STAT_acc_error, SYS_ACC_ADDR_offset, SYS_ACC_ADDR_kind, SYS_ACC_ERR_CNT]

/-- The registers that an access error marks before it raises its event (R6, R373). -/
def State.accMarked (s : State) (d off kind : Nat) : State :=
  (((s.putB d SYS_STAT_acc_error true).put d SYS_ACC_ADDR_offset off).put d SYS_ACC_ADDR_kind kind).inc d SYS_ACC_ERR_CNT

theorem State.accError_of_off {s : State} {d : Nat} (h : s.domOn d 1 = false) (off kind : Nat) : s.accError d off kind = s := by
  simp [State.accError, h]

theorem State.accError_of_on {s : State} {d : Nat} (h : s.domOn d 1 = true) (off kind : Nat) :
    s.accError d off kind = (s.accMarked d off kind).raise d 0 (arg 0 off + arg 4 kind) := by
  simp [State.accError, State.accMarked, h]

@[simp] theorem accError_variant (s : State) (d off kind : Nat) : (s.accError d off kind).variant = s.variant := by
  cases h : s.domOn d 1 with
  | false => rw [State.accError_of_off h]
  | true => rw [State.accError_of_on h, raise_variant]; rfl

@[simp] theorem accError_ldies (s : State) (d off kind : Nat) : (s.accError d off kind).ldies = s.ldies := by
  cases h : s.domOn d 1 with
  | false => rw [State.accError_of_off h]
  | true => rw [State.accError_of_on h, raise_ldies]; rfl

/-- An access error leaves every field beside its own and those of a raise alone. -/
theorem State.get_accError_besides {g : Field} {i : Nat} (hacc : ∀ f ∈ accessFields, f.Besides 0 g i)
    (hevt : ∀ f ∈ eventFields, ∀ j, j < f.count → f.Besides j g i) (s : State) (d off kind e : Nat) :
    (s.accError d off kind).get e g i = s.get e g i := by
  cases h : s.domOn d 1 with
  | false => rw [State.accError_of_off h]
  | true =>
    simp only [accessFields, List.forall_mem_cons] at hacc
    obtain ⟨herror, hoffset, hkind, hcount, -⟩ := hacc
    rw [State.accError_of_on h, State.get_raise_besides _ _ _ _ _ hevt, State.accMarked, State.inc, State.get_put_besides hcount,
      State.get_put_besides hkind, State.get_put_besides hoffset, State.putB, State.get_put_besides herror]

/-- Where no block stands, a read gives all ones (R373), as it does in the window of an absent die (R9). -/
theorem State.readWord_of_blockAt_none {s : State} {d off : Nat} (h : s.blockAt d off = none) : s.readWord d off = 0xFFFFFFFF := by
  simp [State.readWord, h]

theorem exec_registerWrite : ∀ (bar : Bar) (addr v : Nat) (s : State),
    exec (.registerWrite bar addr v) s = execRegisterWrite bar addr v s := by
  intros; rfl

/-- Where no block stands, an aligned write is an access error of kind 1 and no more (R373). -/
theorem exec_registerWrite_of_blockAt_none {s : State} {d off : Nat} (hd : d < s.nDies) (hoff : off < dieWindow) (halign : off % 4 = 0)
    (h : s.blockAt d off = none) (v : Nat) :
    exec (.registerWrite .regs (d * dieWindow + off) v) s = .next (s.settle (s.accError d off 1)) := by
  have hdie : (d * dieWindow + off) / dieWindow = d := by unfold dieWindow at *; omega
  have hplace : (d * dieWindow + off) % dieWindow = off := by unfold dieWindow at *; omega
  have haddr : (d * dieWindow + off) % 4 = 0 := by unfold dieWindow; omega
  simp [exec_registerWrite, execRegisterWrite, execUnmappedWrite, onAll, hdie, hplace, haddr, h, hd.not_ge]

/-- The base map of an L-die (R372) has ETH on L0 and L1 only. -/
theorem State.blockAt_eth {s : State} {d off : Nat} (hL : s.isL d = true) (hlo : 0x280000 ≤ off) (hhi : off < 0x2A0000) :
    s.blockAt d off = if d < 2 then some .eth else none := by
  obtain hp | hp : off / 0x10000 = 0x28 ∨ off / 0x10000 = 0x29 := by omega
  · simp [State.blockAt, hL, hp]
  · simp [State.blockAt, hL, hp]

/-- The ETH registers stand at their block's base and above it. -/
theorem dieOff_of_mem_ethFields : ∀ f ∈ Block.eth.fields, ∀ i, i < f.count →
    0x280000 ≤ f.dieOff i ∧ f.dieOff i < dieWindow ∧ f.lsb < 32 := by
  decide

/-- What an access error and its raise write stands below the ETH block. -/
theorem dieOff_of_mem_accessFields : ∀ f ∈ accessFields ++ eventFields, ∀ j, j < f.count → f.dieOff j < 0x280000 ∧ f.lsb < 32 := by
  decide

theorem besides_of_mem_ethFields {f g : Field} {i j : Nat} (hf : f ∈ Block.eth.fields) (hi : i < f.count)
    (hg : g ∈ accessFields ++ eventFields) (hj : j < g.count) : g.Besides j f i := by
  obtain ⟨hlo, hhi, hlsb⟩ := dieOff_of_mem_ethFields f hf i hi
  obtain ⟨hbelow, hglsb⟩ := dieOff_of_mem_accessFields g hg j hj
  exact ⟨hbelow.trans (hlo.trans_lt hhi), hglsb, hhi, hlsb, .inl (hbelow.trans_le hlo).ne⟩

/-- An access error leaves every ETH register alone. -/
theorem State.get_accError_eth {f : Field} {i : Nat} (hf : f ∈ Block.eth.fields) (hi : i < f.count) (s : State) (d off kind e : Nat) :
    (s.accError d off kind).get e f i = s.get e f i := by
  have hsingle : ∀ g ∈ accessFields, 0 < g.count := by decide
  exact State.get_accError_besides
    (fun g hg => besides_of_mem_ethFields hf hi (List.mem_append_left _ hg) (hsingle g hg))
    (fun g hg j hj => besides_of_mem_ethFields hf hi (List.mem_append_right _ hg) hj) s d off kind e

/-- Settles O47 (R295): no block stands at the ETH offsets of these dies, so that a read gives all ones and a write is no more than an
access error. -/
theorem ethernetWindowsOfOtherDies : Obligations.EthernetWindowsOfOtherDies := by
  unfold Obligations.EthernetWindowsOfOtherDies
  intro s d off v hL h2 hlo hhi halign
  have hnone (t : State) (ht : t.isL d = true) : t.blockAt d off = none :=
    (State.blockAt_eth ht hlo hhi).trans (if_neg h2.not_gt)
  have hd : d < s.nDies := ((s.isL_iff d).1 hL).trans_le (Nat.le_add_right _ _)
  have hoff : off < dieWindow := by unfold dieWindow; omega
  refine ⟨State.readWord_of_blockAt_none (hnone s hL), _,
    exec_registerWrite_of_blockAt_none hd hoff halign (hnone s hL) v, ?dies, ?reads, fun e i f hf hi => ?registers⟩
  case dies => rw [settle_ldies, accError_ldies]
  case reads => exact State.readWord_of_blockAt_none (hnone _ hL)
  case registers => rw [get_settle _ _ _ _ _ (accError_variant s d off 1), State.get_accError_eth hf hi]

end Sys2Proof.Machine
end

section
/-! The VLCD of a panel (R310, R313): the value a temperature gives, what a sample sets, and how far VLCD moves at a frame pair
boundary. -/

namespace Sys2Proof.Machine

/-! ### The value of a temperature -/

/-- The fields that R310 works VLCD out from. -/
def vlcdFields : List Field := [SLATE_VLCD_v25, SLATE_VLCD_tc]

/-- The line of R310 before it is clamped. -/
def State.vlcdLine (s : State) (d : Nat) (T : Int) : Int := Int.ofNat (s.get d SLATE_VLCD_v25) + s.getZ d SLATE_VLCD_tc * (T - 25)

/-- The clamped value is positive, so that it is no less as a natural number. -/
theorem State.ofNat_vlcdOf (s : State) (d : Nat) (T : Int) : Int.ofNat (s.vlcdOf d T) = max 2500 (min 5500 (s.vlcdLine d T)) :=
  Int.toNat_of_nonneg (le_max_of_le_left (by decide))

theorem State.vlcdOf_mem_range (s : State) (d : Nat) (T : Int) : 2500 ≤ s.vlcdOf d T ∧ s.vlcdOf d T ≤ 5500 := by
  have hclamp : (s.vlcdOf d T : Int) = _ := s.ofNat_vlcdOf d T
  omega

theorem State.ofNat_vlcdOf_of_mem_range {s : State} {d : Nat} {T : Int} (hlo : 2500 ≤ s.vlcdLine d T) (hhi : s.vlcdLine d T ≤ 5500) :
    Int.ofNat (s.vlcdOf d T) = s.vlcdLine d T := by
  rw [State.ofNat_vlcdOf, min_eq_right hhi, max_eq_right hlo]

theorem State.vlcdOf_congr {s t : State} {d : Nat} (h : ∀ g ∈ vlcdFields, t.get d g = s.get d g) (T : Int) :
    t.vlcdOf d T = s.vlcdOf d T := by
  simp only [vlcdFields, List.forall_mem_cons] at h
  obtain ⟨hv25, htc, -⟩ := h
  rw [State.vlcdOf, State.vlcdOf, State.getZ, State.getZ, hv25, htc]

/-! ### The panel driver of a die -/

/-- The panel driver of a die is what the state of the F-dies holds at its place. -/
theorem State.slate_congr {s t : State} (hvariant : t.variant = s.variant) (hfdies : t.fdies = s.fdies) (d : Nat) :
    t.slate d = s.slate d := by
  rw [State.slate, State.slate, State.f, State.f, hvariant, hfdies]

@[simp] theorem slate_setSlate (s : State) (d : Nat) (x : Slate) : (s.setSlate d x).slate d = x := by
  rw [State.slate, State.setSlate, f_setFd, if_pos rfl]

@[simp] theorem slate_put (s : State) (d : Nat) (f : Field) (v i e : Nat) : (s.put d f v i).slate e = s.slate e := rfl

@[simp] theorem slate_raise (s : State) (d n args handle e : Nat) : (s.raise d n args handle).slate e = s.slate e :=
  State.slate_congr (raise_variant s d n args handle) (raise_fdies s d n args handle) e

theorem slate_settle {s t : State} (h : t.variant = s.variant) (d : Nat) : (s.settle t).slate d = t.slate d :=
  State.slate_congr (s := t) (t := s.settle t) h.symm rfl d

/-! ### A temperature sample -/

/-- The registers that a temperature sample shows. -/
def sampleFields : List Field := [SLATE_TEMP_temp, SLATE_STAT_band]

/-- A temperature sample shows the temperature and its band. -/
def State.tempShown (s : State) (d : Nat) : State :=
  (s.putZ d SLATE_TEMP_temp (s.slateSample d)).put d SLATE_STAT_band (s.slateBandOf d (s.slateSample d))

theorem State.get_tempShown_of_apart {g : Field} {e i : Nat} (h : g.apart sampleFields e i) (s : State) (d : Nat) :
    (s.tempShown d).get e g i = s.get e g i := by
  rw [State.tempShown, State.get_put_of_apart h (by decide) (by decide), State.putZ, State.get_put_of_apart h (by decide) (by decide)]

/-- VLCD is worked out from registers that the sample does not write. -/
theorem State.vlcdOf_tempShown (s : State) (d e : Nat) (T : Int) : (s.tempShown d).vlcdOf e T = s.vlcdOf e T := by
  have hbeside : ∀ g ∈ vlcdFields, ∀ f ∈ sampleFields, ∀ j, j < f.count → f.Besides j g 0 := by decide
  exact State.vlcdOf_congr (fun g hg => State.get_tempShown_of_apart (Field.apart_of_besides (hbeside g hg) e) s d) T

theorem State.flag_tempShown_deferred (s : State) (d e : Nat) :
    (s.tempShown d).flag e SLATE_STAT_deferred = s.flag e SLATE_STAT_deferred := by
  rw [State.flag, State.get_tempShown_of_apart (Field.apart_of_besides (by decide) e), State.flag]

/-- A temperature sample taken: the registers show it, and the panel goes to its VLCD. -/
def State.tempSampled (s : State) (d : Nat) : State :=
  (s.tempShown d).setSlate d { s.slate d with vlcdGoal := s.vlcdOf d (s.slateSample d) }

theorem State.slate_tempSampled (s : State) (d : Nat) :
    (s.tempSampled d).slate d = { s.slate d with vlcdGoal := s.vlcdOf d (s.slateSample d) } :=
  slate_setSlate _ d _

theorem exec_tempSample : ∀ (s : State) (d : Nat), exec (.tempSample d) s = execTempSample d s := by
  intros; rfl

/-- While no update waits for the temperature, a sample starts none. -/
theorem exec_tempSample_of_not_deferred {s : State} {d : Nat} (hF : s.isF d = true) (h : s.flag d SLATE_STAT_deferred = false) :
    exec (.tempSample d) s = .next (s.settle (s.tempSampled d)) := by
  rw [exec_tempSample, execTempSample, onF_of_isF hF]
  extract_lets T shown panel sampled
  have hsampled : sampled = s.tempSampled d := by
    have hgoal : shown.vlcdOf d T = s.vlcdOf d T := s.vlcdOf_tempShown d d T
    unfold sampled
    rw [hgoal]
    rfl
  have hflag : (s.tempSampled d).flag d SLATE_STAT_deferred = false := (s.flag_tempShown_deferred d d).trans h
  rw [hsampled, hflag, if_neg Bool.false_ne_true]

/-! ### A frame pair boundary -/

/-- VLCD after one step toward its value, which R310 bounds. -/
def Slate.vlcdStep (x : Slate) : Nat := if x.vlcd < x.vlcdGoal then min x.vlcdGoal (x.vlcd + 50) else max x.vlcdGoal (x.vlcd - 50)

theorem Slate.vlcdStep_near (x : Slate) : x.vlcdStep ≤ x.vlcd + 50 ∧ x.vlcd ≤ x.vlcdStep + 50 := by
  unfold Slate.vlcdStep
  split <;> omega

/-- `t` is a state of the same silicon in which VLCD of die `d` is that of `s`, or one step further. -/
structure State.PanelStep (s : State) (d : Nat) (t : State) : Prop where
  variant : t.variant = s.variant
  vlcd : (t.slate d).vlcd = (s.slate d).vlcd ∨ (t.slate d).vlcd = (s.slate d).vlcdStep

/-- A new image is taken up (R309). -/
def State.imageTaken (s : State) (d : Nat) (img : List Nat) : State :=
  (((s.putShown d img).setSlate d { s.slate d with next := none }).inc d SLATE_UPD_CNT).raise d 72

theorem putShown_variant (s : State) (d : Nat) (img : List Nat) : (s.putShown d img).variant = s.variant := rfl

theorem State.slate_imageTaken (s : State) (d : Nat) (img : List Nat) : (s.imageTaken d img).slate d = { s.slate d with next := none } := by
  rw [State.imageTaken, slate_raise, State.inc, slate_put, slate_setSlate]

theorem imageTaken_variant (s : State) (d : Nat) (img : List Nat) : (s.imageTaken d img).variant = s.variant := by
  rw [State.imageTaken, raise_variant, State.inc, put_variant, State.setSlate, setFd_variant, putShown_variant]

namespace State.PanelStep

variable {s t : State} {d : Nat}

theorem refl (s : State) (d : Nat) : s.PanelStep d s := ⟨rfl, .inl rfl⟩

theorem slateDischarge (s : State) (d : Nat) : s.PanelStep d (s.slateDischarge d) := by
  refine ⟨rfl, .inl ?_⟩
  rw [State.slateDischarge, slate_setSlate]
  rfl

theorem putVlcd (s : State) (d : Nat) : s.PanelStep d (s.putVlcd d (s.slate d).vlcdStep) := by
  refine ⟨rfl, .inr ?_⟩
  rw [State.putVlcd, slate_put, slate_setSlate]

theorem imageTaken (h : s.PanelStep d t) (img : List Nat) : s.PanelStep d (t.imageTaken d img) where
  variant := (imageTaken_variant t d img).trans h.variant
  vlcd := by
    rw [State.slate_imageTaken]
    exact h.vlcd

theorem settle (h : s.PanelStep d t) : s.PanelStep d (s.settle t) where
  variant := rfl
  vlcd := by
    rw [slate_settle h.variant]
    exact h.vlcd

theorem near (h : s.PanelStep d t) : (t.slate d).vlcd ≤ (s.slate d).vlcd + 50 ∧ (s.slate d).vlcd ≤ (t.slate d).vlcd + 50 := by
  obtain hkept | hmoved := h.vlcd
  · omega
  · rw [hmoved]
    exact (s.slate d).vlcdStep_near

end State.PanelStep

theorem exec_framePairBoundary : ∀ (s : State) (d : Nat), exec (.framePairBoundary d) s = execFramePairBoundary d s := by
  intros; rfl

/-- A frame pair boundary leaves VLCD as it is, or takes it one step toward its value. -/
theorem exec_framePairBoundary_panelStep {s : State} {d : Nat} (hF : s.isF d = true) :
    ∃ t, exec (.framePairBoundary d) s = .next t ∧ s.PanelStep d t := by
  refine ⟨_, (exec_framePairBoundary s d).trans (onF_of_isF hF), .settle ?_⟩
  extract_lets x v u
  have hstep : s.PanelStep d u := .putVlcd s d
  split
  next => exact .refl s d
  split
  next => exact .slateDischarge s d
  split
  next => exact .refl s d
  split
  next => exact hstep
  next img _ =>
    split
    next => exact hstep
    next => exact hstep.imageTaken img

/-- Settles O57 (R310, R313): the clamp gives the range and, inside it, the line; a sample sets the goal and shows two registers; a
frame pair boundary takes VLCD at most one step. -/
theorem panelVoltageFollowsTheTemperature : Obligations.PanelVoltageFollowsTheTemperature := by
  unfold Obligations.PanelVoltageFollowsTheTemperature
  refine ⟨State.vlcdOf_mem_range, ?line, fun s d hF hdeferred => ?sample, fun s d hF => ?boundary⟩
  case line =>
    rintro s d T _ rfl hlo hhi
    exact State.ofNat_vlcdOf_of_mem_range hlo hhi
  case sample =>
    have hslate : (s.settle (s.tempSampled d)).slate d = _ := (slate_settle (by rfl) d).trans (s.slate_tempSampled d)
    refine ⟨_, exec_tempSample_of_not_deferred hF hdeferred, ?goal, ?vlcd, rfl, fun e i g hg => ?registers⟩
    case goal => rw [hslate]
    case vlcd => rw [hslate]
    case registers => exact (get_settle s (s.tempSampled d) e g i rfl).trans (State.get_tempShown_of_apart hg s d)
  case boundary =>
    obtain ⟨t, hexec, hstep⟩ := exec_framePairBoundary_panelStep hF
    exact ⟨t, hexec, hstep.near⟩

end Sys2Proof.Machine
end

section
/-! Reserved event sources (R377): their numbers have no default class, so that a raise and a write of their registers change nothing
and a read gives 0. -/

namespace Sys2Proof.Machine

/-! ### The reserved numbers -/

/-- The numbers of an L-die that R377 reserves, with those above its range. -/
abbrev ReservedOnL (n : Nat) : Prop := n ∈ [1, 2, 3, 10, 11, 31, 87, 93, 94, 95, 109, 110, 111, 127] ∨ (40 ≤ n ∧ n ≤ 63) ∨ 144 ≤ n

/-- The numbers of an F-die that R377 reserves, with those above its range. -/
abbrev ReservedOnF (n : Nat) : Prop :=
  n ∈ [1, 2, 3, 18, 27, 31, 77, 78, 79] ∨ (5 ≤ n ∧ n ≤ 11) ∨ (58 ≤ n ∧ n ≤ 63) ∨ (67 ≤ n ∧ n ≤ 71) ∨ 96 ≤ n

/-- No class of R375 lists a reserved number. -/
theorem evtClassL_of_reserved {n : Nat} (h : ReservedOnL n) : evtClassL n = none := by
  have unlisted {l : List Nat} (hl : ∀ k ∈ l, ¬ ReservedOnL k) : n ∉ l := fun hmem => hl n hmem h
  rw [evtClassL, if_neg (unlisted (by decide)), if_neg (unlisted (by decide)), if_neg (unlisted (by decide))]

/-- No class of R376 lists a reserved number, and the pins' numbers 80 to 95 are none. -/
theorem evtClassF_of_reserved {n : Nat} (h : ReservedOnF n) : evtClassF n = none := by
  have unlisted {l : List Nat} (hl : ∀ k ∈ l, ¬ ReservedOnF k) : n ∉ l := fun hmem => hl n hmem h
  have hpin : ¬ (80 ≤ n ∧ n ≤ 95) := by
    simp only [ReservedOnF, List.mem_cons, List.not_mem_nil, or_false] at h
    omega
  rw [evtClassF, if_neg (unlisted (by decide)), if_neg (unlisted (by decide)), if_neg (unlisted (by decide)), if_neg hpin]

theorem State.evtDefault_of_reserved {s : State} {d n : Nat}
    (h : (s.isL d = true ∧ ReservedOnL n) ∨ (s.isL d = false ∧ ReservedOnF n)) : s.evtDefault d n = none := by
  obtain ⟨hL, hn⟩ | ⟨hL, hn⟩ := h
  · rw [State.evtDefault, if_pos hL, evtClassL_of_reserved hn]
  · rw [State.evtDefault, hL, if_neg Bool.false_ne_true, evtClassF_of_reserved hn]

/-! ### Their registers -/

/-- The offset of a copy of a register leads back to the copy. -/
theorem Field.copyAt_dieOff {f : Field} {i : Nat} (hcount : f.count ≠ 1) (hstride : 0 < f.stride) (hi : i < f.count) :
    f.copyAt (f.dieOff i) = some i := by
  have hbase : ¬ f.dieOff i < f.base + f.off := (Nat.le_add_right _ _).not_gt
  have hplace : f.dieOff i - (f.base + f.off) = f.stride * i := Nat.add_sub_cancel_left ..
  rw [Field.copyAt, if_neg hbase, if_neg hcount, hplace, Nat.mul_mod_right, Nat.mul_div_cancel_left i hstride, if_pos ⟨rfl, hi⟩]

theorem copyAt_evtSrc {n : Nat} (hn : n < 256) : EVT_SRCs_en.copyAt (0x30400 + 4 * n) = some n :=
  Field.copyAt_dieOff (f := EVT_SRCs_en) (by decide) (by decide) hn

/-- Every die has EVT at its base (R372). -/
theorem State.blockAt_evt (s : State) (d : Nat) {off : Nat} (hlo : 0x30000 ≤ off) (hhi : off < 0x40000) :
    s.blockAt d off = some .evt := by
  have hp : off / 0x10000 = 3 := by omega
  simp [State.blockAt, hp]

/-- Where a block stands, an aligned write is its own. -/
theorem exec_registerWrite_of_blockAt {s : State} {d off : Nat} {b : Block} (hd : d < s.nDies) (hoff : off < dieWindow)
    (halign : off % 4 = 0) (h : s.blockAt d off = some b) (v : Nat) :
    exec (.registerWrite .regs (d * dieWindow + off) v) s = .next (s.settle (s.regWrite d off v)) := by
  have hdie : (d * dieWindow + off) / dieWindow = d := by unfold dieWindow at *; omega
  have hplace : (d * dieWindow + off) % dieWindow = off := by unfold dieWindow at *; omega
  have haddr : (d * dieWindow + off) % 4 = 0 := by unfold dieWindow; omega
  simp [exec_registerWrite, execRegisterWrite, onAll, hdie, hplace, haddr, h, hd.not_ge]

section Reserved

variable {s : State} {d n : Nat}

/-- The register of a reserved source reads 0 (R377). -/
theorem State.readWord_evtSrc_reserved (hd : d < s.nDies) (hn : n < 256) (h : s.evtDefault d n = none)
    (hon : s.blockOn d .evt = true) : s.readWord d (0x30400 + 4 * n) = 0 := by
  have hblock : s.blockAt d (0x30400 + 4 * n) = some .evt := s.blockAt_evt d (by omega) (by omega)
  have hreserved : s.evtReserved d (0x30400 + 4 * n) = true := by simp [State.evtReserved, copyAt_evtSrc hn, h]
  simp [State.readWord, hd.not_ge, hblock, hon, hreserved]

/-- The register of a reserved source ignores writes (R377). -/
theorem State.writeEvt_evtSrc_reserved (hn : n < 256) (h : s.evtDefault d n = none) (v : Nat) :
    s.writeEvt d (0x30400 + 4 * n) v = s := by
  simp [State.writeEvt, copyAt_evtSrc hn, h]

/-- It ignores them whether or not the block is powered (R322). -/
theorem State.regWrite_evtSrc_reserved (hn : n < 256) (h : s.evtDefault d n = none) (v : Nat) :
    s.regWrite d (0x30400 + 4 * n) v = s := by
  rw [State.regWrite, s.blockAt_evt d (by omega) (by omega)]
  exact ite_eq_right_iff.2 fun _ => State.writeEvt_evtSrc_reserved hn h _

end Reserved

/-- Settles O2 (R377): a reserved number has no default class, and without one a raise, a read and a write find no source. -/
theorem reservedSourcesNeverRaise : Obligations.ReservedSourcesNeverRaise := by
  unfold Obligations.ReservedSourcesNeverRaise
  intro s d n hd hn hreserved
  have hclass : s.evtDefault d n = none := State.evtDefault_of_reserved hreserved
  refine ⟨fun args handle => raise_reserved args handle hclass, State.readWord_evtSrc_reserved hd hn hclass, fun v => ?write⟩
  case write =>
    have hoff : 0x30400 + 4 * n < dieWindow := by unfold dieWindow; omega
    rw [exec_registerWrite_of_blockAt hd hoff (by omega) (s.blockAt_evt d (by omega) (by omega)),
      State.regWrite_evtSrc_reserved hn hclass]
    rfl

end Sys2Proof.Machine
end

section
/-! What a command answers at the site it acts at (R1, R2), and what every command and every step keep. -/

namespace Sys2Proof.Machine

/-- What a meaning that acts at a site answers: the settled state of its effect, where the package has the site. -/
def Site.answer (s : State) (p : Site) (t : State) : Res := if p.present s then .next (s.settle t) else .fault .absentUnit

theorem Site.answer_of_present {s : State} {p : Site} (h : p.present s = true) (t : State) : p.answer s t = .next (s.settle t) :=
  if_pos h

theorem Site.answer_of_absent {s : State} {p : Site} (h : p.present s = false) (t : State) : p.answer s t = .fault .absentUnit :=
  if_neg (Bool.not_eq_true _ ▸ h)

theorem Site.answer_eq_next {s t u : State} {p : Site} (h : p.answer s t = .next u) : u = s.settle t := by
  cases hp : p.present s with
  | true => rw [p.answer_of_present hp] at h; cases h; rfl
  | false => rw [p.answer_of_absent hp] at h; cases h

theorem onDie_eq_answer (s : State) (d : Nat) (t : State) : onDie s d t = Site.answer s (.die d) t := by
  simp only [onDie, Site.answer, Site.present, decide_eq_true_eq]

theorem execNarrowOrUnalignedWrite_answers (a : BusAddr) (s : State) :
    ∃ t, execNarrowOrUnalignedWrite a s = Site.answer s .package t := by
  obtain ⟨bar, addr⟩ := a
  cases bar with
  | regs => exact ⟨_, rfl⟩
  | doorbell p | msix p => exact ⟨_, rfl⟩

theorem execUnmappedWrite_answers (addr : Nat) (s : State) : ∃ t, execUnmappedWrite addr s = Site.answer s .package t := by
  unfold execUnmappedWrite
  extract_lets d off
  split
  · exact ⟨_, rfl⟩
  · split
    · exact ⟨_, rfl⟩
    · exact ⟨_, rfl⟩

theorem execRegisterWrite_answers (bar : Bar) (addr v : Nat) (s : State) :
    ∃ t, execRegisterWrite bar addr v s = Site.answer s .package t := by
  unfold execRegisterWrite
  split
  · exact execNarrowOrUnalignedWrite_answers _ s
  · cases bar with
    | msix p | doorbell p => exact ⟨_, rfl⟩
    | regs =>
      dsimp only
      split
      · exact ⟨_, rfl⟩
      · split
        · exact execUnmappedWrite_answers addr s
        · exact ⟨_, rfl⟩

theorem execEventRaiseMessage_answers (s : State) : ∃ t, execEventRaiseMessage s = Site.answer s .package t := by
  unfold execEventRaiseMessage
  split
  · exact ⟨_, rfl⟩
  · exact ⟨_, rfl⟩

/-- Every command answers at its site. Four meanings split on the address or the queue of raises; each other one is an effect under
`onAll`, `onL`, `onF`, `onPort` or `onDie`. -/
theorem exec_answers (c : Instr) (s : State) : ∃ t, exec c s = (siteOf s c).answer s t := by
  cases c with
  | registerWrite bar addr v => exact execRegisterWrite_answers bar addr v s
  | narrowOrUnalignedWrite a => exact execNarrowOrUnalignedWrite_answers a s
  | unmappedWrite addr => exact execUnmappedWrite_answers addr s
  | eventRaiseMessage => exact execEventRaiseMessage_answers s
  | lockZeroise | integrityFault | markExtend | markLock | deviceTimeStep | timeQualityChange | downlinkExpiry
  | longOperationComplete | longOperationProgress | abortOperation | importKey | exportKey | deriveKey | generateKey | clearSlot
  | attest | lifecycleAdvance | updateDie | readReportCard | readStartLog | loadRecoveryImage | restart | clearFailedStarts
  | runDiagnostic | writeConfig | readConfig | downlink | invigilatorTest | domainEnable | recessGo | wake | timingMessage
  | holdoverEntry | holdoverExpiry | zcComparison | thermalSample | pllUnlock | marginReplan | planNow | slackDeficit
  | avsCommandFail | avsEnable | resetRelease | bootImageMessage | bootAnswerTimeout | bootStageAdvance | stageBoundExpiry
  | startUpRecoveryComplete | evtTest | evtPendClear | domainPowerUpComplete => exact ⟨_, onDie_eq_answer s _ _⟩
  | _ => exact ⟨_, rfl⟩

/-- Settles O40: a command answers at its site, with a next state where that is present and a fault where it is not. -/
theorem commandsCompleteWhereTheirUnitExists : Obligations.CommandsCompleteWhereTheirUnitExists := by
  unfold Obligations.CommandsCompleteWhereTheirUnitExists
  intro c s
  obtain ⟨t, ht⟩ := exec_answers c s
  rw [ht]
  exact ⟨fun h => ⟨_, Site.answer_of_present h t⟩, fun h => Site.answer_of_absent h t⟩

/-- A next state that a command answers has settled. -/
theorem exec_next_settled {c : Instr} {s t : State} (h : exec c s = .next t) : ∃ u, t = s.settle u := by
  obtain ⟨u, hu⟩ := exec_answers c s
  exact ⟨u, Site.answer_eq_next (hu.symm.trans h)⟩

/-- Settles O41: what settles keeps the variant, the queue and the time. -/
theorem commandsKeepVariantQueueAndTime : Obligations.CommandsKeepVariantQueueAndTime := by
  unfold Obligations.CommandsKeepVariantQueueAndTime
  intro c s t h
  obtain ⟨u, rfl⟩ := exec_next_settled h
  exact settle_keeps s u

theorem step_of_pending_nil {s : State} (h : s.pending = []) : step s = .next s.tick := by
  simp only [step, h]

theorem step_of_pending_cons {s : State} {c : Instr} {cs : List Instr} (h : s.pending = c :: cs) :
    step s = exec c { s with pending := cs } := by
  simp only [step, h]

/-- What a step does to the queue, the variant and the time: it takes the front command, or lets a tick pass where none waits. -/
theorem step_keeps {s t : State} (h : step s = .next t) :
    t.pending = s.pending.tail ∧ t.variant = s.variant ∧ t.now = s.now + (if s.pending = [] then 1 else 0) := by
  cases hq : s.pending with
  | nil =>
    rw [step_of_pending_nil hq] at h
    cases h
    exact ⟨hq, rfl, rfl⟩
  | cons c cs =>
    rw [step_of_pending_cons hq] at h
    obtain ⟨u, rfl⟩ := exec_next_settled h
    exact ⟨rfl, rfl, rfl⟩

/-- The rest of a queue of well-formed commands is one. -/
theorem State.queueOk_of_tail {s t : State} (h : t.pending = s.pending.tail) (hs : s.queueOk = true) : t.queueOk = true := by
  unfold State.queueOk at *
  rw [h, List.all_eq_true]
  exact fun c hc => List.all_eq_true.1 hs c (List.mem_of_mem_tail hc)

/-- Settles O42: by what a step does to the queue, the variant and the time. -/
theorem everyStepKeepsTheQueueWellFormed : Obligations.EveryStepKeepsTheQueueWellFormed := by
  unfold Obligations.EveryStepKeepsTheQueueWellFormed
  intro s t h
  obtain ⟨hqueue, hvariant, hnow⟩ := step_keeps h
  exact ⟨State.queueOk_of_tail hqueue, hqueue, hvariant, hnow⟩

/-- Settles O38. -/
theorem stepRunsTheFrontCommand : Obligations.StepRunsTheFrontCommand := by
  unfold Obligations.StepRunsTheFrontCommand
  exact fun _ _ _ => step_of_pending_cons

/-- Settles O39: the tick is what elapses, settled, one unit of time later. -/
theorem emptyQueueStepIsOneTick : Obligations.EmptyQueueStepIsOneTick := by
  unfold Obligations.EmptyQueueStepIsOneTick
  intro s h
  have htick : s.tick = { s.elapse with variant := s.variant, pending := [], now := s.now + 1 } := by
    rw [State.tick, State.settle, h]
  exact ⟨s.tick, step_of_pending_nil h, rfl, h, rfl, htick⟩

/-- Settles O48: what a raise leaves alone is `State.EventsOnly`. -/
theorem raisesTouchOnlyEventState : Obligations.RaisesTouchOnlyEventState := by
  unfold Obligations.RaisesTouchOnlyEventState
  rintro s _ d n args handle rfl
  obtain ⟨⟨regs, x, heq⟩, hget⟩ := s.raise_eventsOnly d n args handle
  refine ⟨⟨regs, _, heq⟩, ⟨x.evtWait, x.evtNet, x.msixPend, x.msixSent, x.hostOut, ?_⟩, hget⟩
  rw [heq]
  rfl

/-- At reset no register is written. -/
theorem State.get_reset_eq_resetOf (d : Nat) (f : Field) (i : Nat) : State.reset.get d f i = State.reset.resetOf d f i := rfl

/-- At reset no Locker has a mark (R120). -/
theorem State.lock_reset (d : Nat) : State.reset.lock d = {} := by
  have hcom : State.reset.com1 d = {} := by
    rw [State.com1, State.reset, List.getD_eq_getElem?_getD, List.getElem?_replicate]
    split
    · rfl
    · rfl
  rw [State.lock, hcom]

/-- Settles O43: the state after reset lists no register, no mark and no command, and both edges of every band entry reset to 0. -/
theorem resetState : Obligations.ResetState := by
  unfold Obligations.ResetState
  refine ⟨rfl, rfl, rfl, State.get_reset_eq_resetOf, fun d _ => State.get_reset (by decide) d 0, fun d f => ?band, fun d m => ?mark⟩
  case band =>
    refine State.bandOf_eq_none_iff.2 fun n _ h => ?_
    rw [State.BandContains, State.get_reset (by decide), State.get_reset (by decide)] at h
    exact lt_irrefl 0 h.1
  case mark =>
    rw [State.mark, State.lock_reset]
    rfl

end Sys2Proof.Machine
end

section
/-! SYS_SCRATCH: its place among the registers of SYS, what a write stores there and what a read gives. -/

namespace Sys2Proof.Machine

theorem State.blockAt_sys (s : State) (d : Nat) {off : Nat} (h : off < 0x10000) : s.blockAt d off = some .sys := by
  have hp : off / 0x10000 = 0 := by omega
  simp [State.blockAt, hp]

/-- SYS_SCRATCH is the one field of its offset. -/
theorem State.store_scratch (s : State) (d v : Nat) :
    s.store d .sys 0x20 v = s.put d SYS_SCRATCH_value (SYS_SCRATCH_value.of v) := rfl

/-- SYS_SCRATCH shows what it holds. -/
theorem State.fieldRead_scratch (s : State) (d : Nat) :
    s.fieldRead d SYS_SCRATCH_value 0 = s.get d SYS_SCRATCH_value % 2 ^ 32 := by
  have hlive : (if s.isL d then s.liveL d SYS_SCRATCH_value 0 else s.liveF d SYS_SCRATCH_value 0) = none := by
    cases s.isL d <;> rfl
  have hcommon : s.liveCommon d SYS_SCRATCH_value 0 = none := rfl
  rw [State.fieldRead, if_neg (by decide), hcommon]
  dsimp only
  rw [hlive]
  rfl

theorem State.readWord_scratch {s : State} {d : Nat} (hd : d < s.nDies) (hon : s.blockOn d .sys = true) :
    s.readWord d 0x20 = s.get d SYS_SCRATCH_value % 2 ^ 32 := by
  have hfields : s.readWord d 0x20 = 0 + s.fieldRead d SYS_SCRATCH_value 0 * 2 ^ 0 := by
    rw [State.readWord, if_neg hd.not_ge, s.blockAt_sys d (by decide)]
    dsimp only
    rw [hon]
    rfl
  rw [hfields, State.fieldRead_scratch, pow_zero, mul_one, zero_add]

theorem State.writeBlock_scratch (s : State) (d v : Nat) :
    s.writeBlock d .sys 0x20 v = s.put d SYS_SCRATCH_value (SYS_SCRATCH_value.of v) := by
  have hquiet : ∀ t : State, t.pulseClear d 0 .sys SYS_CTRL_cnt_clear = t := fun _ => rfl
  rw [State.writeBlock, if_neg (by decide), hquiet, State.store_scratch]

/-- The power of SYS shows in registers that SYS_SCRATCH is apart from. -/
theorem State.blockOn_sys_put_scratch (s : State) (d v : Nat) : (s.put d SYS_SCRATCH_value v).blockOn d .sys = s.blockOn d .sys := by
  have hon : (s.put d SYS_SCRATCH_value v).get d PWR_DOM_STAT_on = s.get d PWR_DOM_STAT_on := State.get_put_besides (by decide) s d d v
  have hstage : (s.put d SYS_SCRATCH_value v).get d SYS_BOOT_stage = s.get d SYS_BOOT_stage := State.get_put_besides (by decide) s d d v
  have hdomain : (s.put d SYS_SCRATCH_value v).domOn d = s.domOn d := by
    funext n
    rw [State.domOn, State.domOn, hon, hstage]
  rw [State.blockOn, State.blockOn, hdomain, hstage]

theorem Field.of_scratch (v : Nat) : SYS_SCRATCH_value.of v % 2 ^ SYS_SCRATCH_value.width = v % 2 ^ 32 := by
  have hwidth : SYS_SCRATCH_value.width = 32 := rfl
  have hlsb : SYS_SCRATCH_value.lsb = 0 := rfl
  rw [Field.of, hwidth, hlsb, pow_zero, Nat.div_one, Nat.mod_mod]

theorem exec_registerWrite_scratch {s : State} {d : Nat} (hd : d < s.nDies) (hon : s.blockOn d .sys = true) (v : Nat) :
    exec (.registerWrite .regs (d * dieWindow + 0x20) v) s
      = .next (s.put d SYS_SCRATCH_value (SYS_SCRATCH_value.of (v % 2 ^ 32))) := by
  have hblock : s.blockAt d 0x20 = some .sys := s.blockAt_sys d (by decide)
  have hwrite : s.regWrite d 0x20 v = s.writeBlock d .sys 0x20 (v % 2 ^ 32) := by simp only [State.regWrite, hblock, hon, if_true]
  rw [exec_registerWrite_of_blockAt hd (by decide) (by decide) hblock, hwrite, State.writeBlock_scratch]
  rfl

/-- Settles O46: the write is a put of SYS_SCRATCH, and a read gives what is put. -/
theorem scratchReadsBack : Obligations.ScratchReadsBack := by
  unfold Obligations.ScratchReadsBack
  intro s d v hd hon
  refine ⟨_, exec_registerWrite_scratch hd hon v, ?reads, ⟨_, rfl⟩, fun e i g hg => ?fields⟩
  case reads =>
    have hput := (s.blockOn_sys_put_scratch d (SYS_SCRATCH_value.of (v % 2 ^ 32))).trans hon
    rw [State.readWord_scratch (s := s.put d _ _) hd hput, get_put_same, Field.of_scratch, Nat.mod_mod, Nat.mod_mod]
  case fields => exact State.get_put_of_apart hg (List.mem_singleton_self _) (by decide) s d _

end Sys2Proof.Machine
end

section
/-! Meanings that act at a die of the package: what they answer is their effect, settled. -/

namespace Sys2Proof.Machine

theorem onL_answers {s t u : State} {d : Nat} (hd : s.isL d = true) (h : t = u) : onL s d t = .next (s.settle u) :=
  h ▸ onL_of_isL hd

theorem onF_answers {s t u : State} {d : Nat} (hd : s.isF d = true) (h : t = u) : onF s d t = .next (s.settle u) :=
  h ▸ onF_of_isF hd

theorem onPort_answers {s t u : State} {d : Nat} (hd : s.isPort d = true) (h : t = u) : onPort s d t = .next (s.settle u) :=
  h ▸ onPort_of_isPort hd

theorem onDie_answers {s t u : State} {d : Nat} (hd : d < s.nDies) (h : t = u) : onDie s d t = .next (s.settle u) :=
  h ▸ onDie_of_lt hd

theorem onAll_answers {s t u : State} (h : t = u) : onAll s t = .next (s.settle u) :=
  h ▸ rfl

/-! ### What a put of a flag, of a signed value and of a count leaves alone -/

section
variable (s : State) (d : Nat) (f : Field)

@[simp] theorem putB_now (b : Bool) (i : Nat) : (s.putB d f b i).now = s.now := rfl
@[simp] theorem putB_variant (b : Bool) (i : Nat) : (s.putB d f b i).variant = s.variant := rfl
@[simp] theorem inc_now (k i : Nat) : (s.inc d f k i).now = s.now := rfl
@[simp] theorem inc_variant (k i : Nat) : (s.inc d f k i).variant = s.variant := rfl

end

end Sys2Proof.Machine
end

section
/-! Register access (R6, R8, R203, R373): what an access of each kind does. -/

namespace Sys2Proof.Machine

/-- Addresses of BAR0 split into the index of a die and a place of its window (R9). -/
theorem die_of_address {d off : Nat} (hoff : off < dieWindow) : (d * dieWindow + off) / dieWindow = d := by
  unfold dieWindow at *; omega

theorem place_of_address {d off : Nat} (hoff : off < dieWindow) : (d * dieWindow + off) % dieWindow = off := by
  unfold dieWindow at *; omega

/-- A write to a powered block is that block's. -/
theorem State.regWrite_of_blockOn {s : State} {d off : Nat} {b : Block} (h : s.blockAt d off = some b) (hon : s.blockOn d b = true)
    (v : Nat) : s.regWrite d off v = s.writeBlock d b off (v % 2 ^ 32) := by
  simp only [State.regWrite, h, hon, if_true]

/-- Settles O1. -/
theorem registerAccessCompletes : Obligations.RegisterAccessCompletes := by
  unfold Obligations.RegisterAccessCompletes
  refine ⟨?write, ?narrowWrite, ?narrowRead, ?narrowDoorbellRead, ?unmappedWrite, ?counterClear⟩
  case write =>
    intro s d off v b hd hoff halign hblock hon
    rw [exec_registerWrite_of_blockAt hd hoff halign hblock, State.regWrite_of_blockOn hblock hon]
  case narrowWrite =>
    intro s d off b hd hoff hblock hon hddr hhold hsys
    refine onAll_answers ?_
    have herror : s.narrowError (d * dieWindow + off) = s.accError d off 0 := by
      simp [State.narrowError, die_of_address hoff, place_of_address hoff, hd.not_ge, hblock, hon, hddr, hhold]
    have hkind : arg 4 0 = 0 := Nat.zero_mul _
    rw [herror, State.accError_of_on hsys, hkind, add_zero, State.accMarked]
  case narrowRead =>
    intro s bar addr hbar
    cases bar with
    | doorbell p => exact absurd rfl (hbar p)
    | regs | msix p => rfl
  case narrowDoorbellRead => exact fun s p addr => rfl
  case unmappedWrite =>
    intro s d off hd hoff hblock hsys
    have herror : execUnmappedWrite (d * dieWindow + off) s = onAll s (s.accError d off 1) := by
      simp [execUnmappedWrite, die_of_address hoff, place_of_address hoff, hd.not_ge, hblock]
    rw [State.accError_of_on hsys, State.accMarked] at herror
    exact herror
  case counterClear =>
    intro s d b hhas hon
    refine (if_pos hhas).trans (onAll_answers ?_)
    exact if_pos hon

end Sys2Proof.Machine
end

section
/-! Events and pins (R375 to R379 of the index). -/

namespace Sys2Proof.Machine

/-- Settles O3. -/
theorem eventCommandsComplete : Obligations.EventCommandsComplete := by
  unfold Obligations.EventCommandsComplete
  refine ⟨?test, ?pendClear, ?arrival, ?rise, ?fall⟩
  case test =>
    intro s d n hd hon hn
    refine onDie_answers hd ?_
    rw [if_pos hon, State.evtTest, Nat.mod_eq_of_lt hn]
  case pendClear =>
    intro s d w mask hd hon hw
    refine onDie_answers hd ?_
    simp [hon, hw, State.pendClear]
  case arrival =>
    intro s m rest hnet
    change execEventRaiseMessage s = _
    simp [execEventRaiseMessage, hnet, onAll]
  case rise =>
    intro s t d n hF hn hlow ht hedge hinput hpower hwake
    refine onF_answers hF ?_
    subst ht
    simp [hn.not_ge, hlow, hedge, hinput, hpower, hwake, b2n]
  case fall =>
    intro s t d n hF hn hhigh ht hedge hinput hpower hwake
    refine onF_answers hF ?_
    subst ht
    simp [hn.not_ge, hhigh, hedge, hinput, hpower, hwake, b2n]

/-- Settles O4: the write is refused before it is stored. -/
theorem eventPortRefused : Obligations.EventPortRefused := by
  unfold Obligations.EventPortRefused
  intro s d n v hd hn hone hsource hon hport
  have hblock : s.blockAt d (0x30400 + 4 * n) = some .evt := s.blockAt_evt d (by omega) (by omega)
  have hrefused : s.writeEvt d (0x30400 + 4 * n) (v % 2 ^ 32) = s.putB d EVT_SRCs_cfg_error true n := by
    have hlisted : ¬ (s.evtDefault d n).isNone = true := by rw [Option.isNone_iff_eq_none]; exact Option.isSome_iff_ne_none.1 hsource
    rw [State.writeEvt, copyAt_evtSrc hn]
    exact (if_neg hlisted).trans (if_pos ⟨hport, hone⟩)
  rw [exec_registerWrite_of_blockAt hd (by unfold dieWindow; omega) (by omega) hblock, State.regWrite_of_blockOn hblock hon]
  exact congrArg (fun t => Host.Outcome.next (s.settle t)) hrefused

end Sys2Proof.Machine
end

section
/-! Reception (01_reading_path, 02_radio_reception): frames and their contexts. -/

namespace Sys2Proof.Machine

/-- Settles O5. -/
theorem receptionCompletes : Obligations.ReceptionCompletes := by
  unfold Obligations.ReceptionCompletes
  refine ⟨?sync, ?addressField, ?lostEarly, ?lostLate, ?dataRun, ?lastBit, ?unpickStart, ?unpickComplete⟩
  case sync =>
    intro s d n mode b c h fec rssi freq noise pre hF hn hrun hmode hmask hfloor hblank hdeaf hhalt hctx hhold
    refine onF_answers hF ?_
    simp [hn, hrun, hmode, hmask, hfloor, hblank, hdeaf, hhalt, hctx, hhold]
  case addressField =>
    intro s d c psduLen k modeSwitch b identity x hF hx haddr hstate hwithheld hlast hcheck
    refine onF_answers hF ?_
    simp [hx, haddr, hstate, hwithheld, hlast, hcheck]
  case lostEarly =>
    intro s d c x hF hx hlast haddr
    refine onF_answers hF ?_
    simp [hx, hlast, haddr]
  case lostLate =>
    intro s d c o x hF hx hlast haddr hheader howner
    refine onF_answers hF ?_
    simp [hx, hlast, haddr, State.abortCtx, hheader, howner]
  case dataRun =>
    intro s d c o b x hF hx haddr hwithheld hlast hb hlen howner
    refine onF_answers hF ?_
    simp [hx, haddr, hwithheld, hlast, List.isEmpty_eq_false_iff.1 hb, hlen.not_gt, howner]
  case lastBit =>
    intro s d c rssiMean fecCorrected b x hF hx hlast hwithheld haddr hrecovered
    refine onF_answers hF ?_
    simp [hx, haddr, hwithheld, hlast, hrecovered]
  case unpickStart =>
    intro s d weak strong k x hF hx hwithheld hstate hstrong hpassed hlong hroom
    refine onF_answers hF ?_
    have hok : ∀ o ∈ x.overlaps, o.ok = some true := fun o ho => beq_iff_eq.1 (List.all_eq_true.1 hpassed o ho)
    have hnoneFailed : x.overlaps.any (fun o => o.ok == some false) = false :=
      List.any_eq_false.2 fun o ho => by simp [hok o ho]
    have hnoneOpen : x.overlaps.any (fun o => o.ok.isNone) = false := List.any_eq_false.2 fun o ho => by simp [hok o ho]
    simp only [hx, hwithheld, hstate, hstrong, hnoneFailed, hnoneOpen, hlong, hroom.not_ge]
    simp
  case unpickComplete =>
    intro s d weak psduLen rssiMean fecCorrected keep from_ o modeSwitch b x u hF hx hu haddr howner hwithheld hfrom hlast
    refine onF_answers hF ?_
    simp [hx, hu, haddr, howner, hwithheld, hfrom, hlast]

end Sys2Proof.Machine
end

section
/-! Receive paths, slots and calibration (02_radio_reception). -/

namespace Sys2Proof.Machine

theorem b2n_ne_two (b : Bool) : b2n b ≠ 2 := by
  cases b with
  | true | false => decide

theorem decide_b2n_eq_one (b : Bool) : decide (b2n b = 1) = b := by
  cases b with
  | true | false => rfl

/-- A gain calibration that is not under way starts where a free tone lies in the band (R54). -/
theorem State.gainStart_of_free (s : State) {d : Nat} {pathB : Bool} (hidle : (s.cal d (b2n pathB)).gainSince = none)
    (hfree : s.toneFree d pathB = true) :
    s.gainStart d pathB
      = (s.setCal d (b2n pathB) { s.cal d (b2n pathB) with gainSince := some s.now, deferredAt := none }).putB d
          (pathField pathB RFA_CTRL_gain_cal_start) true := by
  simp [State.gainStart, hidle, hfree]

/-- Settles O6. -/
theorem receivePathCompletes : Obligations.ReceivePathCompletes := by
  unfold Obligations.ReceivePathCompletes
  refine ⟨?slotEnable, ?slotDisable, ?pathEnable, ?lnaBypass, ?lnaBypassLow, ?lnaRestore, ?overload, ?calStart, ?rxCalEnd, ?txCalEnd,
    ?gainStart, ?gainDefer, ?gainTrigger, ?gainEnd, ?gainFail, ?rxUnlock, ?txUnlock⟩
  case slotEnable =>
    intro s d n hF hon hn hidle hok
    refine onF_answers hF ?_
    simp [hon, hn.not_ge, hidle, hok]
  case slotDisable =>
    intro s d n hF hn hrun
    refine onF_answers hF ?_
    obtain hrun | hrun := hrun
    · simp [hn.not_ge, hrun]
    · simp [hn.not_ge, hrun]
  case pathEnable =>
    intro s d pathB on hF hpower hfree
    refine onF_answers hF ?_
    obtain rfl | hfree := hfree
    · simp [hpower]
    · simp [hpower, hfree]
  case lnaBypass =>
    intro s t d power pathB hF hpower ht hauto hquiet hby hhigh
    refine onF_answers hF ?_
    subst ht
    simp [hpower, hauto, hquiet, hby, hhigh.not_ge]
  case lnaBypassLow =>
    intro s t u d power pathB hF hpower hlow ht hauto hby hu hquiet
    refine onF_answers hF ?_
    subst hu ht
    simp [hpower, hauto, hquiet, hby, hlow]
  case lnaRestore =>
    intro s t u d power pathB hF hpower ht hauto hby hu hquiet
    refine onF_answers hF ?_
    have hlow : toSigned 16 power ≤ -60 := by omega
    subst hu ht
    simp [hpower, hauto, hquiet, hby, hlow]
  case overload =>
    intro s t u d power pathB hF hpower ht hwas hu hauto
    refine onF_answers hF ?_
    subst hu ht
    simp [hpower.not_ge, hauto, hwas]
  case calStart =>
    intro s t d pathB hF hfree ht
    refine onF_answers hF ?_
    subst ht
    simp [hfree]
  case rxCalEnd =>
    intro s t d t0 pathB ok hF hsince hdue ht
    refine onF_answers hF ?_
    subst ht
    have hreceive : b2n pathB ≠ 2 := b2n_ne_two pathB
    have hpath : decide (b2n pathB = 1) = pathB := decide_b2n_eq_one pathB
    cases ok with
    | true => simp [hsince, hreceive, hdue, hpath]
    | false => simp [hsince, hreceive, hdue, hpath]
  case txCalEnd =>
    intro s t d t0 ok hF hsince hdue ht
    refine onF_answers hF ?_
    subst ht
    cases ok with
    | true => simp [hsince, hdue]
    | false => simp [hsince, hdue]
  case gainStart =>
    intro s d pathB hF hidle hfree
    refine onF_answers hF ?_
    exact s.gainStart_of_free hidle hfree
  case gainDefer =>
    intro s d pathB hF hidle hfree
    refine onF_answers hF ?_
    simp [State.gainStart, hidle, hfree]
  case gainTrigger =>
    intro s d cause pathB hF hen hidle hfree hcause
    refine onF_answers hF ?_
    have hstart := s.gainStart_of_free hidle hfree
    obtain ⟨rfl, hnever⟩ | ⟨rfl, x, hlast, hdue⟩ | ⟨rfl, hmoved⟩ | ⟨rfl, x, hdeferred, hdue⟩ | ⟨rfl, hdeferred⟩ | rfl := hcause
    · simp [hen, hnever, hstart]
    · simp [hen, hlast, hdue, hstart]
    · simp [hen, hmoved, hstart]
    · simp [hen, hdeferred, hdue, hstart]
    · simp [hen, hdeferred, hstart]
    · simp [hen, hstart]
  case gainEnd =>
    intro s t d t0 pathB hF hsince hdue ht
    refine onF_answers hF ?_
    subst ht
    simp [hsince, hdue]
  case gainFail =>
    intro s t d t0 pathB hF hsince hdue ht
    refine onF_answers hF ?_
    subst ht
    simp [hsince, hdue]
  case rxUnlock =>
    intro s d p hF hp
    refine onF_answers hF ?_
    rw [if_neg (by omega)]
  case txUnlock =>
    intro s d hF
    exact onF_answers hF (if_pos rfl)

end Sys2Proof.Machine
end

section
/-! The transmit path of an F-die (02_radio_reception R38 to R59). -/

namespace Sys2Proof.Machine

/-- With the path enabled a frame joins the queue (R59). -/
theorem State.txEnqueue_of_enabled {s : State} {d : Nat} (h : s.flag d RFT_CTRL_enable = true) (f : TxFrame) :
    s.txEnqueue d f = s.setTxq d ((s.rad d).txq ++ [f]) := if_pos h

/-- Settles O7. -/
theorem transmitCompletes : Obligations.TransmitCompletes := by
  unfold Obligations.TransmitCompletes
  refine ⟨?handover, ?settle, ?unlocked, ?rampUp, ?power, ?powerFault, ?bellOver, ?ackOver, ?responseOver, ?downlinkOver, ?disable,
    ?bucketRoll, ?dcLock⟩
  case handover =>
    intro s t u d n f hF hrun hq hnext hasap ht hkey hlead hduty hu
    refine onF_answers hF ?_
    subst hu ht
    simp [hrun, hq, hnext, hasap, hkey, hlead.not_gt, hduty, replaceTx]
  case settle =>
    intro s t d f hF hrun hf ht hkey
    refine onF_answers hF ?_
    subst ht
    simp [hrun, hf, hkey]
  case unlocked =>
    intro s t d f hF hrun hf ht hkey
    refine onF_answers hF ?_
    subst ht
    simp [hrun, hf, hkey]
  case rampUp =>
    intro s d f hF hrun hf
    refine onF_answers hF ?_
    simp [hrun, hf]
  case power =>
    intro s t d measured f hF hf htime ht hnear
    refine onF_answers hF ?_
    subst ht
    simp [hf, htime.not_gt, hnear]
  case powerFault =>
    intro s t u d measured f hF hf htime ht hfar hu
    refine onF_answers hF ?_
    subst hu ht
    simp [hf, htime.not_gt, hfar.not_ge]
  case bellOver =>
    intro s t d f hF hf htime hkind ht
    refine onF_answers hF ?_
    subst ht
    simp [hf, htime.not_gt, hkind]
  case ackOver =>
    intro s t d f dl hF hf htime hkind hfollow ht
    refine onF_answers hF ?_
    subst ht
    simp [hf, htime.not_gt, hkind, hfollow]
  case responseOver =>
    intro s t d f hF hf htime hkind ht
    refine onF_answers hF ?_
    subst ht
    simp [hf, htime.not_gt, hkind]
  case downlinkOver =>
    intro s t d f hF hf htime hkind ht
    refine onF_answers hF ?_
    subst ht
    simp [hf, htime.not_gt, hkind]
  case disable =>
    intro s t d hF ht
    refine onF_answers hF ?_
    subst ht
    rfl
  case bucketRoll =>
    intro s d hF hdue
    refine onF_answers hF ?_
    simp [hdue]
  case dcLock => exact fun s d hF => onF_of_isF hF

end Sys2Proof.Machine
end

section
/-! What waits at an F-die (R20, R24, R52, R66 to R69, R262). -/

namespace Sys2Proof.Machine

/-- Settles O8. -/
theorem holdAndAcksComplete : Obligations.HoldAndAcksComplete := by
  unfold Obligations.HoldAndAcksComplete
  refine ⟨?release, ?releaseAck, ?ackDue, ?responseDue, ?follow, ?holdTimeout, ?noOwner, ?partition⟩
  case release =>
    intro s t d m rest e hF hm he hverdict ht hack
    refine onF_answers hF ?_
    have he' : ({ s with back := rest } : State).holdAt d m.hold = some e := he
    subst ht
    simp [hm, State.doRelease, he', hverdict, hack]
  case releaseAck =>
    intro s t u d m rest e a as hF hm he hverdict ht hack hwmb hu htime htwin hen
    refine onF_answers hF ?_
    have he' : ({ s with back := rest } : State).holdAt d m.hold = some e := he
    subst hu ht
    simp [hm, State.doRelease, he', hverdict, hack, State.ackRelease, htime.not_gt, htwin, hwmb, State.txEnqueue_of_enabled hen]
  case ackDue =>
    intro s d a rest hF ha
    refine onF_answers hF ?_
    simp [ha]
  case responseDue =>
    intro s d a rest hF ha
    refine onF_answers hF ?_
    simp [ha]
  case follow =>
    intro s t d p rest hF hp ht hen
    refine onF_answers hF ?_
    subst ht
    simp [hp, State.txEnqueue_of_enabled hen]
  case holdTimeout =>
    intro s d h t e hF he hlast hverdict howner htime
    refine onF_answers hF ?_
    simp [he, hlast, hverdict, howner, htime.not_gt]
  case noOwner =>
    intro s d t h e hF hhold howner hdue
    refine onF_answers hF ?_
    simp [hhold, howner, hdue]
  case partition =>
    intro s d m rest hF hm
    refine onF_answers hF ?_
    simp [hm]

end Sys2Proof.Machine
end

section
/-! Timetables and campaigns of an F-die (03_timetable_mac R61 to R65, R79 to R81). -/

namespace Sys2Proof.Machine

/-- Settles O9. -/
theorem timetablesComplete : Obligations.TimetablesComplete := by
  unfold Obligations.TimetablesComplete
  refine ⟨?enable, ?disable, ?superframe, ?campStart, ?campAbort, ?campAbortLater, ?block⟩
  case enable =>
    intro s t d n follow hF hon hn hidle hok ht
    refine onF_answers hF ?_
    subst ht
    simp [hon, hn.not_ge, hidle, hok]
  case disable =>
    intro s d n hF hn hrun
    refine onF_answers hF ?_
    simp [hn.not_ge, hrun]
  case superframe =>
    intro s t u v d n k m c x p hF hn hrun hp hk hseen hfollow ht hu hfrom hkey hmode hv hc
    refine onF_answers hF ?_
    subst hc hv hu ht hp
    simp [hn.not_ge, hrun, hk, hseen, hfollow, hfrom.not_gt, hkey, hmode]
  case campStart =>
    intro s d hF hidle hrun hfollow hkey
    refine onF_answers hF ?_
    simp [hidle, hrun, hfollow, hkey]
  case campAbort =>
    intro s d hF hrun hnone
    refine onF_answers hF ?_
    simp [hrun, hnone]
  case campAbortLater =>
    intro s d hF hrun hsome
    refine onF_answers hF ?_
    simp [hrun, hsome]
  case block =>
    intro s t d n k m c slot first dur start b x p hF hrun hn hp hcount hblocks habort hnone hk hkey hmode hslot hfirst hb hdur hstart hc
      hfits hnear ht
    refine onF_answers hF ?_
    subst ht hc hstart hdur hb hfirst hslot hp hn
    rw [max_assoc] at hfits
    simp [hrun, hnone, habort, hblocks, hcount, hk, hkey, hmode, hfits.not_gt, hnear.not_gt]

end Sys2Proof.Machine
end

section
/-! The power-line modem of an F-die (04_powerline): transmission. -/

namespace Sys2Proof.Machine

/-- Settles O10. -/
theorem plcTransmitCompletes : Obligations.PlcTransmitCompletes := by
  unfold Obligations.PlcTransmitCompletes
  refine ⟨?enable, ?disable, ?ackSend, ?sendPlain, ?sendSecured, ?sendRefused, ?busy, ?frameEnd, ?ackEnd, ?retry, ?noRetry⟩
  case enable =>
    intro s d hF hon12 hon13 hidle halone
    refine onF_answers hF ?_
    simp only [hon12, hon13, hidle, halone]
    simp
  case disable =>
    intro s t d hF hrun ht hcur
    refine onF_answers hF ?_
    subst ht
    simp [hrun, hcur]
  case ackSend =>
    intro s d a r hF hrun hline hcur hrx hacks htime
    refine onF_answers hF ?_
    simp [hrun, hline, hcur, hrx, hacks, htime.not_gt]
  case sendPlain =>
    intro s d t hF hrun hcur hstage htime hrx hacks hline hkey
    refine onF_answers hF ?_
    cases hfits : s.plcFits d t with
    | true => simp [hrun, hcur, hstage, htime.not_gt, hrx, hacks, hline, hkey, hfits]
    | false => simp [hrun, hcur, hstage, htime.not_gt, hrx, hacks, hline, hfits]
  case sendSecured =>
    intro s u d k t b hF hrun hcur hstage htime hrx hacks hline hkey hsecure
    refine onF_answers hF ?_
    cases hfits : s.plcFits d t with
    | true => simp [hrun, hcur, hstage, htime.not_gt, hrx, hacks, hline, hkey, hfits, hsecure]
    | false => simp [hrun, hcur, hstage, htime.not_gt, hrx, hacks, hline, hfits]
  case sendRefused =>
    intro s u d k st t hF hrun hcur hstage htime hrx hacks hline hkey hsecure
    refine onF_answers hF ?_
    cases hfits : s.plcFits d t with
    | true => simp [hrun, hcur, hstage, htime.not_gt, hrx, hacks, hline, hkey, hfits, hsecure]
    | false => simp [hrun, hcur, hstage, htime.not_gt, hrx, hacks, hline, hfits]
  case busy =>
    intro s d t idle reserved hF hrun hcur hstage htime hbusy
    have hbusy' : (!idle || reserved || !(s.plc d).rx.isEmpty || !(s.plc d).acks.isEmpty || (s.plc d).ackOn) = true := by
      simpa [or_assoc] using hbusy
    refine ⟨fun hmore => onF_answers hF ?_, fun hlast => onF_answers hF ?_⟩
    · simp only [hrun, hcur, hstage, htime.not_gt, hbusy', hmore.not_ge]
      simp
    · simp only [hrun, hcur, hstage, htime.not_gt, hbusy', hlast]
      simp
  case frameEnd =>
    intro s t u d n x hF ht hline hcur hstage hunicast hu
    refine onF_answers hF ?_
    subst hu ht
    simp [hline, hcur, hstage, hunicast]
  case ackEnd =>
    intro s t d hF ht hline
    refine onF_answers hF ?_
    subst ht
    simp [hline]
  case retry =>
    intro s d x hF hcur hstage htime hmore
    refine onF_answers hF ?_
    simp only [hcur, hstage, htime.not_gt, hmore.not_ge]
    simp
  case noRetry =>
    intro s d x hF hcur hstage htime hlast
    refine onF_answers hF ?_
    simp only [hcur, hstage, htime.not_gt, hlast]
    simp

end Sys2Proof.Machine
end

section
/-! The power-line modem of an F-die (04_powerline): reception and the mains. -/

namespace Sys2Proof.Machine

/-- Settles O11. -/
theorem plcReceptionCompletes : Obligations.PlcReceptionCompletes := by
  unfold Obligations.PlcReceptionCompletes
  refine ⟨?preamble, ?metering, ?ack, ?verdict, ?plcVerdict, ?toneMaps, ?shortAddr, ?firstEdge, ?edge, ?loss⟩
  case preamble =>
    intro s t d rssi n h r hF hrun hrx hhold hr ht
    refine onF_answers hF ?_
    subst ht hr
    simp [hrun, hrx, hhold]
  case metering =>
    intro s t d n dt pdc modulation endAt b id pl src meshed m r h hF hr hdt hclean hlen hfcs hmhr hack hsrc ht hclass
    refine onF_answers hF ?_
    subst ht
    simp [hr, hdt.not_ge, hclean, hlen.not_gt, hfcs, hmhr, hack, hsrc, hclass]
  case ack =>
    intro s t d n pdc modulation endAt b m r x hF hr ht hcur hstage hfcs
    refine onF_answers hF ?_
    subst ht
    simp [hr, hcur, hstage, hfcs]
  case verdict =>
    intro s t d ack v co unprot e follow m rest hF hm hbody hctx ht
    refine onF_answers hF ?_
    subst ht
    simp [hm, hbody, hctx]
  case plcVerdict =>
    intro s t d ack v co unprot e m rest hF hm hbody hctx ht
    refine onF_answers hF ?_
    subst ht
    simp [hm, hbody, hctx.not_gt]
  case toneMaps => exact fun s d hF => onF_of_isF hF
  case shortAddr =>
    intro s d a hi hF ha
    refine onF_answers hF ?_
    rw [State.plcHighWrite, if_neg ha.not_ge]
  case firstEdge =>
    intro s t u d hF hnone ht hu hok
    refine onF_answers hF ?_
    subst hu ht
    simp [hnone, hok]
  case edge =>
    intro s t u d last per run hF hlast hglitch hper hrun ht hu hok hrange
    refine onF_answers hF ?_
    subst hu ht hrun hper
    dsimp only at hok
    simp only [hlast, Option.getD_some, Option.isSome_some, hglitch, Bool.true_and, hok, hrange]
    simp
  case loss =>
    intro s d t hF hok hlast hsilent
    refine onF_answers hF ?_
    simp [hok, hlast, hsilent]

end Sys2Proof.Machine
end

section
/-! Meter keys (05_locker_security R123 to R130, R139). -/

namespace Sys2Proof.Machine

/-- A command that changes a record, whose turn it is, acts on the record as its boundaries leave it (R211). -/
theorem State.withRec_of_current {s t u : State} {d op : Nat} {c : Cmd} {m m' : MRec} (k : State → Cmd → Nat → MRec → State)
    (hcmd : s.nextCmd d op = some c) (hturn : s.recWaits d c = false) (hroom : s.arcFull d = false)
    (hfetch : s.fetch d c.slot = (some m, t)) (hcurrent : t.current d c.slot m = (u, m')) (hstate : m'.g rState ≠ 0) :
    s.withRec d op k = k u c c.slot m' := by
  rw [State.withRec, withCmd_some hcmd]
  simp [hturn, hroom, hfetch, hcurrent, hstate]

/-- Settles O13. -/
theorem meterKeysComplete : Obligations.MeterKeysComplete := by
  unfold Obligations.MeterKeysComplete
  refine ⟨?enable, ?flush, ?retire, ?stale, ?importKey, ?cancel, ?rotate, ?unknowns, ?unknownsCleared⟩
  case enable =>
    intro s d x hL hon hslot
    refine onL_answers hL ?_
    simp [hon, hslot]
  case flush => exact fun s d hL => onL_of_isL hL
  case retire =>
    intro s t d slot m m' hL hfound hdrop
    refine onL_answers hL ?_
    simp [hfound, hdrop]
  case stale =>
    intro s d slot m hL hdays hfound
    refine onL_answers hL ?_
    simp [hdays, hfound]
  case importKey =>
    intro s t u v d gen pkg p wk c m m' x k1 y hL hfuses hcmd hturn hroom hfetch hcurrent hstate hflags hfault hkeys hunwrap hwrap hopen hy
      halg hlen hgen hwrapped
    refine onL_answers hL ?_
    subst hgen hy
    rw [if_neg (by simp [hfuses]), State.withRec_of_current _ hcmd hturn hroom hfetch hcurrent hstate]
    simp [hflags, hfault, hkeys, hunwrap, hwrap, hopen, halg, hlen, hwrapped, bit]
  case cancel =>
    intro s t u v d c m m' m'' hL hcmd hturn hroom hfetch hcurrent hstate hstaged hdrop
    refine onL_answers hL ?_
    rw [State.withRec_of_current _ hcmd hturn hroom hfetch hcurrent hstate]
    simp [hstaged, hdrop]
  case rotate =>
    intro s d c hL hcmd hidle hhandle hsome hmany
    refine onL_answers hL ?_
    simp [hcmd, hidle, hhandle, hsome, hmany.not_gt]
  case unknowns =>
    intro s d c hL hcmd hkeep
    refine onL_answers hL ?_
    simp [withCmd_some hcmd, hkeep]
  case unknownsCleared =>
    intro s t d c hL hcmd hclear ht
    refine onL_answers hL ?_
    subst ht
    simp [withCmd_some hcmd, hclear]

end Sys2Proof.Machine
end

section
/-! Frames handed to an L-die (01_reading_path, 02_radio_reception R50, 05_locker_security R22 to R31). -/

namespace Sys2Proof.Machine

theorem State.withHand_some {s : State} {d : Nat} {want : HandBody → Bool} {m : HandMsg} {rest : List HandMsg} (k : State → HandMsg → State)
    (h : takeHand d want [] s.hand = some (m, rest)) : s.withHand d want k = k { s with hand := rest } m := by
  simp [State.withHand, h]

/-- A prefetch that is answered makes its frame ready (R22). -/
theorem State.prefetchFrame_of_some {s t : State} {d : Nat} {x : LFrame} {slot : Option Nat} {good : Bool}
    (h : s.prefetch d x.header.identity x.header.idKind = (t, some (slot, good))) :
    s.prefetchFrame d x = (t.setSec d { t.sec d with frames := (t.sec d).frames.map (fun z => if z = x then
      { x with ready := true, readyAt := t.devTime d, held := x.held || t.stopped d, slot := slot, good := good } else z) }).decideReady d := by
  simp [State.prefetchFrame, h]

/-- A prefetch that is answered makes its submission ready (R31). -/
theorem State.prefetchHeadEnd_of_some {s t : State} {d : Nat} {x : HeFrame} {slot : Option Nat} {good : Bool}
    (h : s.prefetch d (heFrameOf x).identity (heFrameOf x).idKind = (t, some (slot, good))) (late : Bool) :
    s.prefetchHeadEnd d x late = (t.setSec d { t.sec d with headEnd := (t.sec d).headEnd.map (fun z => if z = x then
      { x with ready := true, late := late && !x.held && !t.stopped d, slot := slot, good := good } else z) }).decideReady d := by
  simp [State.prefetchHeadEnd, h]

/-- Settles O14. -/
theorem frameHandoffCompletes : Obligations.FrameHandoffCompletes := by
  unfold Obligations.FrameHandoffCompletes
  refine ⟨?header, ?data, ?rewrite, ?trailer, ?abort, ?prefetchFrame, ?prefetchSubmission, ?overdue, ?arrival⟩
  case header =>
    intro s t d h m rest hL hm hbody ht
    refine onL_answers hL ?_
    subst ht
    simp [State.withHand_some _ hm, hbody]
  case data =>
    intro s d off b m rest hL hm hbody
    refine onL_answers hL ?_
    simp [State.withHand_some _ hm, hbody]
  case rewrite =>
    intro s d off b m rest hL hm hbody
    refine onL_answers hL ?_
    simp [State.withHand_some _ hm, hbody]
  case trailer =>
    intro s d off b t m rest hL hm hbody
    refine onL_answers hL ?_
    simp [State.withHand_some _ hm, hbody]
  case abort =>
    intro s t d m rest hL hm ht
    refine onL_answers hL ?_
    subst ht
    exact State.withHand_some _ hm
  case prefetchFrame =>
    intro s t d x slot good hL hx hprefetch
    refine onL_answers hL ?_
    simp only [hx]
    exact State.prefetchFrame_of_some hprefetch
  case prefetchSubmission =>
    intro s t d x slot good hL hnone hx hprefetch
    refine onL_answers hL ?_
    simp only [hnone, hx]
    exact State.prefetchHeadEnd_of_some hprefetch true
  case overdue =>
    intro s t d x old hL hold hhead hslots hlim ht
    refine onL_answers hL ?_
    subst ht
    simp only [hold, hhead, hslots, hlim]
    simp [limiterOpen]
  case arrival =>
    intro s t u d bytes c x slot good hL hc hx ht hprefetch
    refine onL_answers hL ?_
    subst ht hx
    simp only [hc]
    exact State.prefetchHeadEnd_of_some hprefetch false

end Sys2Proof.Machine
end

section
/-! The delivery queues of an L-die (08_deadline_queues). -/

namespace Sys2Proof.Machine

/-- Settles O15. -/
theorem queuesComplete : Obligations.QueuesComplete := by
  unfold Obligations.QueuesComplete
  refine ⟨?enable, ?disable, ?commit, ?spill, ?bypass, ?refill, ?apply, ?holdStart, ?holdEnd, ?holdLimit, ?window, ?deliver, ?flushEmpty,
    ?flush, ?positions⟩
  case enable =>
    intro s d c hL hon hidle hok
    refine onL_answers hL ?_
    simp [hon, hidle, hok]
  case disable =>
    intro s d c hL hrun
    exact onL_answers hL (if_pos hrun)
  case commit =>
    intro s d c p hL hp
    refine onL_answers hL ?_
    simp only [hp]
  case spill =>
    intro s d c q hL hq hmid hready
    refine onL_answers hL ?_
    subst hq
    simp [hmid, hready]
  case bypass =>
    intro s d c q l hL hq hmid hl hsome
    refine onL_answers hL ?_
    subst hl hq
    simp [hmid, hsome]
  case refill =>
    intro s d c q hL hq hfree
    refine onL_answers hL ?_
    subst hq
    simp [hfree]
  case apply =>
    intro s t u d st p hL hled hserving hrun hroom hp happly hu
    refine onL_answers hL ?_
    subst hu
    simp [hled, hserving, hrun, hroom, hp, happly]
  case holdStart =>
    intro s d c hL hidle hfull
    refine onL_answers hL ?_
    simp [hidle, hfull]
  case holdEnd =>
    intro s t d c t0 hL hsince hfree ht
    refine onL_answers hL ?_
    subst ht
    simp [hsince, hfree]
  case holdLimit =>
    intro s d c hL hover honce hstate
    refine onL_answers hL ?_
    simp [hover, honce, hstate]
  case window => exact fun s d hL => onL_of_isL hL
  case deliver =>
    intro s t d c p ps hL hrun hserving hq hpart happlied hfree hroom hrestored hredelivered hunprotected htime ht
    refine onL_answers hL ?_
    subst ht
    simp [hrun, hserving, hq, hpart, happlied, hfree, hroom, hrestored, hredelivered, hunprotected, htime.not_gt, b2n]
  case flushEmpty =>
    intro s d c hL hq
    refine onL_answers hL ?_
    simp [hq]
  case flush =>
    intro s d c p hL hp
    refine onL_answers hL ?_
    simp only [hp]
  case positions => exact fun s d hL => onL_of_isL hL

end Sys2Proof.Machine
end

section
/-! Ledger time and boundary sweeps of an L-die (06_ledger_tariffs). -/

namespace Sys2Proof.Machine

/-- Settles O16. -/
theorem ledgerRowsComplete : Obligations.LedgerRowsComplete := by
  unfold Obligations.LedgerRowsComplete
  refine ⟨?enable, ?slew, ?enableFirst, ?holdEnd, ?holdRelease, ?sweep, ?sweepEnd⟩
  case enable =>
    intro s t d hL hon ht hlayout
    refine onL_answers hL ?_
    subst ht
    simp [hon, hlayout]
  case slew =>
    intro s d hL hslewing hreached
    exact onL_answers hL (if_pos ⟨hslewing, hreached⟩)
  case enableFirst =>
    intro s t d l hL hon ht hlayout hpaired
    refine onL_answers hL ?_
    subst ht
    simp [hon, hlayout, hpaired]
  case holdEnd =>
    intro s d hL hheld htime
    refine onL_answers hL ?_
    simp [State.holdAutoEnd, hheld, htime]
  case holdRelease =>
    intro s d hL hheld
    exact onL_answers hL (if_pos hheld)
  case sweep =>
    intro s t d b hL hb hled hserving hidle hnew hroom ht
    refine onL_answers hL ?_
    subst ht hb
    simp [hled, hserving, hidle, hnew.not_ge, hroom]
  case sweepEnd =>
    intro s t u v d b n hL hbusy hb hsome hn ht hu hv
    refine onL_answers hL ?_
    subst hv hu ht hn hb
    simp [hbusy, hsome]

end Sys2Proof.Machine
end

section
/-! The roll of an L-die (03_timetable_mac R63, R70 to R78). -/

namespace Sys2Proof.Machine

/-- A data slot that the conditions of R76 let be checked is neither skipped by one of them nor by the time. -/
theorem dataSlotEnd_of_due {s t : State} {d f n k slotNo tt no : Nat} {p : TtParams} {e : AssignEnt} {m : MRec} (hL : s.isL d = true)
    (htt : tt = 8 * (f % 2) + n % 8) (hp : smGet (s.ttTab d).params tt = some p) (hrun : p.running = true) (hlead : p.follow = false)
    (hslot : slotNo < p.slots) (hserving : s.serving d = true) (hkind : p.kindOf slotNo = .data) (hno : no = k * p.slots + slotNo)
    (hended : p.start + no * p.slotTicks + p.slotTicks ≤ s.devTime d)
    (he : smGet (s.ttTab d).assign (assignKey tt (p.entry k slotNo)) = some e) (hnew : e.checked ≤ no)
    (hfetch : s.fetch d (e.handle % 2 ^ 20) = (some m, t)) (heffect : e.inEffect p m k slotNo = true) {u : State}
    (hu : (let s := t.setTt d { t.ttTab d with
              assign := smPut (t.ttTab d).assign (assignKey tt (p.entry k slotNo)) { e with checked := no + 1 } }
           if p.start + no * p.slotTicks ≤ m.g rLastSeen ∧ m.g rLastSeen < p.start + no * p.slotTicks + p.slotTicks then s.mirSend d
           else
             let u := s.doubleU (m.incr rMisses)
             let v := if u.2.g rMisses = 3 then (u.1.raiseM d (e.handle % 2 ^ 20) 88, (u.2.p rTtState 3).incr rTruantCount) else (u.1, u.2)
             let w := if u.2.g rMisses = 3 + min p.truantHold 252 ∧ v.2.g rTtState = 3 then
               (v.1.raiseM d (e.handle % 2 ^ 20) 91, v.2.p rTtState 4) else v
             (w.1.update d (e.handle % 2 ^ 20) w.2).mirSend d) = u) :
    exec (.dataSlotEnd d f n k slotNo) s = .next (s.settle u) := by
  refine onL_answers hL ?_
  subst hu hno htt
  simp only [hp, hrun, hlead, hserving, hkind, he, hfetch, heffect, hslot.not_ge, hended.not_gt, hnew.not_gt]
  rfl

/-- Settles O18. -/
theorem rollCompletes : Obligations.RollCompletes := by
  unfold Obligations.RollCompletes
  refine ⟨?publish, ?missed, ?seen, ?assign, ?release, ?grant, ?renew, ?revoke⟩
  case publish =>
    intro s t d e p hL hp ht
    refine onL_answers hL ?_
    subst ht
    simp only [hp]
  case missed =>
    intro s t t' u v w d f n k slotNo tt no p e m m1 m2 m3 hL htt hp hrun hlead hslot hserving hkind hno hended he hnew hfetch heffect
      hunseen ht' hu hv hw
    refine dataSlotEnd_of_due hL htt hp hrun hlead hslot hserving hkind hno hended he hnew hfetch heffect ?_
    subst ht'
    dsimp only
    rw [if_neg (fun h => hunseen.not_ge h.1)]
    simp only [hu, ← hv, ← hw]
  case seen =>
    intro s t t' d f n k slotNo tt no p e m hL htt hp hrun hlead hslot hserving hkind hno hended he hnew hfetch heffect hfrom htill ht'
    refine dataSlotEnd_of_due hL htt hp hrun hlead hslot hserving hkind hno hended he hnew hfetch heffect ?_
    subst ht'
    exact if_pos ⟨hfrom, htill⟩
  case assign =>
    intro s t u v d tt per ph sn c m m' n p rest hL hcmd hturn hroom hfetch hcurrent hstate htt hper hph hsn httn hp hrun hlead hslot hkind
      hper0 hpermax hdiv hphase hrest hfree hv hn
    refine onL_answers hL ?_
    subst htt hper hph hsn
    rw [State.withRec_of_current _ hcmd hturn hroom hfetch hcurrent hstate]
    simp only [httn.not_ge, hp, hrun, hlead, hkind, hper0, hdiv, hslot.not_ge, hpermax.not_gt, hphase.not_ge, ← hrest, hfree, ← hn, ← hv]
    rfl
  case release =>
    intro s t u d c m m' hL hcmd hturn hroom hfetch hcurrent hstate hassigned
    refine onL_answers hL ?_
    rw [State.withRec_of_current _ hcmd hturn hroom hfetch hcurrent hstate]
    exact if_neg hassigned
  case grant =>
    intro s t u d i c m m' x hL hcmd hturn hroom hfetch hcurrent hstate hnone hi hx
    refine onL_answers hL ?_
    subst hx
    rw [State.withRec_of_current _ hcmd hturn hroom hfetch hcurrent hstate]
    simp only [hnone, hi]
  case renew =>
    intro s t u d i c m m' x old hL hcmd hturn hroom hfetch hcurrent hstate hold hx
    refine onL_answers hL ?_
    subst hx
    rw [State.withRec_of_current _ hcmd hturn hroom hfetch hcurrent hstate]
    simp only [hold]
  case revoke =>
    intro s t u d i c m m' x hL hcmd hturn hroom hfetch hcurrent hstate hpass
    refine onL_answers hL ?_
    rw [State.withRec_of_current _ hcmd hturn hroom hfetch hcurrent hstate]
    simp only [hpass]

end Sys2Proof.Machine
end

section
/-! The balance commands of an L-die (07_balance_engine R167 to R169, R212). -/

namespace Sys2Proof.Machine

/-- A group of kind 0 is the only one that its number names (R169). -/
theorem State.groupsOf_of_single {s : State} {d g : Nat} {x : Group} (hx : s.group d g = some x) (hkind : x.kind = 0) :
    s.groupsOf d g = [(g, x)] := by
  simp [State.groupsOf, hx, hkind]

/-- Settles O20. -/
theorem balanceCommandsComplete : Obligations.BalanceCommandsComplete := by
  unfold Obligations.BalanceCommandsComplete
  refine ⟨?define, ?defineHeaded, ?delete, ?deleteHeaded, ?add, ?remove, ?head, ?changeHead, ?read, ?reset⟩
  case define =>
    intro s t d g c x hL hcmd hg hset hhead hx hok hfree ht
    refine onL_answers hL ?_
    subst ht hx hg
    simp [withCmd_some hcmd, hset, hhead, hok, hfree]
  case defineHeaded =>
    intro s t d g fh c x hL hcmd hg hset hfh hnamed hstatus hx hok hfree ht
    refine onL_answers hL ?_
    subst ht hx hg
    simp [withCmd_some hcmd, hset, hfh, hnamed, hstatus, hok, hfree]
  case delete =>
    intro s t u d g c x hL hcmd hg hgroup hkind hidle hmembers hhead ht hu
    refine onL_answers hL ?_
    subst hu ht hg
    simp [withCmd_some hcmd, State.groupsOf_of_single hgroup hkind, hidle, hmembers, hhead]
  case deleteHeaded =>
    intro s t u d g c x all hL hcmd hg hgroup hkind hidle hhead hall ht hu
    refine onL_answers hL ?_
    subst hu ht hall hg
    simp [withCmd_some hcmd, State.groupsOf_of_single hgroup hkind, hkind, hidle, hhead]
  case add =>
    intro s t d g fh b c x hL hcmd hg hfh hgroup hstatus hb hlist hpool hnew ht
    refine onL_answers hL ?_
    subst ht hb hfh hg
    simp only [withCmd_some hcmd, hgroup, hstatus, hlist.not_ge, hpool.not_ge, hnew]
    simp
  case remove =>
    intro s t d g fh b c x hL hcmd hg hfh hgroup hstatus hb hmember ht
    refine onL_answers hL ?_
    subst ht hb hfh hg
    simp only [withCmd_some hcmd, hgroup, hstatus, hmember]
    simp
  case head =>
    intro s t d g fh c x hL hcmd hg hfh hgroup hnamed hstatus hnone ht
    refine onL_answers hL ?_
    subst ht hfh hg
    simp [withCmd_some hcmd, hgroup, hnamed, hstatus, hnone]
  case changeHead =>
    intro s t d g fh c x hL hcmd hg hfh hgroup hnamed hstatus hold hother ht
    refine onL_answers hL ?_
    subst ht hfh hg
    simp [withCmd_some hcmd, hgroup, hnamed, hstatus, hold, hother]
  case read =>
    intro s d g c x hL hcmd hg hgroup
    refine onL_answers hL ?_
    subst hg
    simp only [withCmd_some hcmd, hgroup]
  case reset =>
    intro s d g c x hL hcmd hg hgroup
    refine onL_answers hL ?_
    subst hg
    simp only [withCmd_some hcmd, hgroup]

end Sys2Proof.Machine
end

section
/-! The rings of the host interface (09_host_rings R204 to R210, R219 to R224). -/

namespace Sys2Proof.Machine

/-- The entry at the head of a ring that runs is taken where its ring is not empty, its port is up and its port die serves rings
(R204, R205). -/
theorem State.fetchEntry_of_running {s : State} {g : Nat} {e : Bytes} (hsome : s.sqCount g ≠ 0) (hup : s.linkUp (s.groupPort g) = true)
    (hstage : 3 ≤ s.get (s.groupPort g) SYS_BOOT_stage) (hrun : s.get 0 HIF_GRPn_STAT_sq_state g = 1) :
    s.fetchEntry g e = match s.dispatch g e with
      | .inl status => s.returnEntry g e status
      | .inr d =>
        if leField e 0 1 = 0x81 ∧ 64 ≤ s.slotsUsed d then s
        else { s.sqAdvance g with hif := { (s.sqAdvance g).hif with inflight := (s.sqAdvance g).hif.inflight ++
          [{ id := s.hif.nextId, group := g, port := s.groupPort g, die := d, opcode := leField e 0 1, entry := slice e 0 64,
             fetched := s.now, order := (s.l d).orderNext }] } } := by
  simp only [State.fetchEntry, hsome, hup, hrun, hstage.not_gt]
  rfl

/-- Settles O21. -/
theorem ringsComplete : Obligations.RingsComplete := by
  unfold Obligations.RingsComplete
  refine ⟨?enableCq, ?enableSq, ?tail, ?head, ?fetch, ?refuse, ?drain, ?grant, ?write, ?writeEvent, ?signal, ?unmaskPending, ?unmask,
    ?disableSq, ?disableCq, ?failFetch, ?failWrite, ?failLong, ?failBuffer⟩
  case enableCq =>
    intro s t g hport hg hidle hmin hmax hbase ht
    refine onPort_answers hport ?_
    subst ht
    simp [hidle, hbase, hg.not_ge, hmin.not_gt, hmax.not_gt]
  case enableSq =>
    intro s t g hport hg hidle hmin hmax hbase hkind ht
    refine onPort_answers hport ?_
    subst ht
    simp [hidle, hbase, hkind, hg.not_ge, hmin.not_gt, hmax.not_gt]
  case tail =>
    intro s p g v hport hpage hrun hv hroom
    refine onPort_answers hport ?_
    simp [hpage, hrun, hv.not_ge, hroom.not_gt]
  case head =>
    intro s p g v hport hpage hrun hv hroom
    refine onPort_answers hport ?_
    simp [hpage, hrun, hv.not_ge, hroom.not_gt]
  case fetch =>
    intro s t g d e hport hg hsome hup hstage hrun hdie hslots ht
    refine onPort_answers hport ?_
    subst ht
    rw [if_pos hg, State.fetchEntry_of_running hsome hup hstage hrun, hdie]
    exact if_neg fun h => (hslots h.1).not_ge h.2
  case refuse =>
    intro s g status e hport hg hsome hup hstage hrun hstatus
    refine onPort_answers hport ?_
    rw [if_pos hg, State.fetchEntry_of_running hsome hup hstage hrun, hstatus]
  case drain =>
    intro s g e hport hg hsome hup hstage hdrain hnone
    refine onPort_answers hport ?_
    rw [if_pos hg]
    simp [State.fetchEntry, hsome, hup, hstage.not_gt, hdrain, hnone]
  case grant =>
    intro s t d g e hL hg hop hslots hsome hup hstage hrun hdie ht
    refine onL_answers hL ?_
    subst ht
    rw [if_neg (by simp [hg.not_ge, hop, hslots.not_ge]), State.fetchEntry_of_running hsome hup hstage hrun, hdie, ← hop]
    exact if_neg fun h => hslots.not_ge h.2
  case write =>
    intro s t g c r hport hg ht hwaiting hroom
    refine onPort_answers hport ?_
    subst ht
    simp only [hg.not_ge, hwaiting, hroom]
    rfl
  case writeEvent =>
    intro s t g w hport hg ht hnone hw hroom
    refine onPort_answers hport ?_
    subst ht
    simp only [hg.not_ge, hnone, hw, hroom]
    rfl
  case signal =>
    intro s g hport hg hsome hcause
    refine onPort_answers hport ?_
    rw [if_neg hg.not_ge]
    refine if_pos ⟨hsome, ?_⟩
    rcases hcause with hcount | hnow
    · exact .inr (.inl hcount)
    · exact .inl hnow
  case unmaskPending =>
    intro s t u p v hport hv ht hpend hu
    refine onPort_answers hport ?_
    subst hu ht
    rw [if_neg hv.not_ge]
    exact if_pos hpend
  case unmask =>
    intro s t p v hport hv ht hpend
    refine onPort_answers hport ?_
    subst ht
    rw [if_neg hv.not_ge]
    exact if_neg (by simpa using hpend)
  case disableSq =>
    intro s t g st hport hg hst hcause ht
    refine onPort_answers hport ?_
    subst ht hst
    exact if_neg (by omega)
  case disableCq =>
    intro s t g hport hg hon hidle ht
    refine onPort_answers hport ?_
    subst ht
    simp [hg.not_ge, hon, hidle]
  case failFetch =>
    intro s t g id hport hg ht hon
    refine onPort_answers hport ?_
    subst ht
    simp [hg, hon]
  case failWrite =>
    intro s t g id hport hg ht hon
    refine onPort_answers hport ?_
    subst ht
    simp [hg, hon]
  case failLong =>
    intro s t g id hport ht hlong
    refine onPort_answers hport ?_
    subst ht
    exact if_pos hlong
  case failBuffer =>
    intro s t g id hport ht hshort
    refine onPort_answers hport ?_
    subst ht
    simp [hshort]

end Sys2Proof.Machine
end

section
/-! The ports, the downlinks and the long operations of the host interface (09_host_rings R201, R213 to R216, R220, R225, R226). -/

namespace Sys2Proof.Machine

/-- A downlink that waits in its meter's record names no mode that could be unfit (R213). -/
theorem State.dlModeBad_of_record (s : State) {x : HostDl} (h : x.flags % 4 = 0) : s.dlModeBad x = false := by
  simp [State.dlModeBad, h]

/-- Settles O22. -/
theorem hostOperationsComplete : Obligations.HostOperationsComplete := by
  unfold Obligations.HostOperationsComplete
  refine ⟨?portWrite, ?downA, ?downB, ?upA, ?upB, ?failback, ?heard, ?meter, ?nobody, ?atTime, ?expiry, ?submission, ?longEnd, ?longProgress⟩
  case portWrite =>
    intro s v hport hidle hmode
    refine onPort_answers hport (if_neg ?_)
    rw [hidle]
    simp
    omega
  case downA =>
    intro s t u hport hup ht hother hu hmode hactive hpresent
    refine onPort_answers hport ?_
    subst hu ht
    simp [hup, hother, hmode, hactive, hpresent]
  case downB =>
    intro s t u hport hup ht hother hu hinactive
    refine onPort_answers hport ?_
    subst hu ht
    simp [hup, hother]
    rw [if_neg fun h => hinactive.elim (· h.1) (· h.2.1)]
  case upA =>
    intro s t speed width hport hdown hok ht
    refine onPort_answers hport ?_
    subst ht
    simp [hdown, hok]
  case upB =>
    intro s t speed width hport hdown hok ht
    refine onPort_answers hport ?_
    subst ht
    simp [hdown, hok]
  case failback =>
    intro s hport hmode hactive
    exact onPort_answers hport (if_pos ⟨hmode, hactive⟩)
  case heard =>
    intro s t d frame c m x hd hcmd hx hok hwhen hmeter hfree hfetch hkind
    refine onDie_answers hd ?_
    subst hx
    have hmode := State.dlModeBad_of_record s hwhen
    dsimp only at hwhen hmeter hfree hkind
    simp only [withCmd_some hcmd, hok, hwhen, hmode, hmeter, hfree, hfetch]
    rcases hkind with h | h
    · simp [h]
    · simp [h]
  case meter =>
    intro s t d frame c m x hd hcmd hx hok hwhen hF hmode hmeter hfree hfetch hplain
    refine onDie_answers hd ?_
    subst hx
    dsimp only at hwhen hF hmeter hfree hplain
    simp only [withCmd_some hcmd, hok, hF, hmode, hmeter, hfree, hfetch, hplain]
    simp [hwhen]
  case nobody =>
    intro s d frame c x hd hcmd hx hok hwhen hF hmode hnone
    refine onDie_answers hd ?_
    subst hx
    dsimp only at hwhen hF hnone
    simp only [withCmd_some hcmd, hok, hF, hmode]
    simp [hnone]
  case atTime =>
    intro s d x hF hx
    refine onF_answers hF ?_
    simp only [hx]
  case expiry =>
    intro s d hL hd
    exact onDie_answers hd (if_pos hL)
  case submission =>
    intro s d c hL hc hmin hmax hsome hlen
    refine onL_answers hL ?_
    simp only [hc]
    exact if_neg (by omega)
  case longEnd =>
    intro s d op status o hd ho hdone
    refine onDie_answers hd ?_
    simp only [ho, hdone]
  case longProgress =>
    intro s d op o hd ho hgrown hdue
    refine onDie_answers hd ?_
    simp only [ho]
    exact if_pos ⟨hgrown, hdue⟩

end Sys2Proof.Machine
end

section
/-! The archive controller of an L-die (10_archive_storage). -/

namespace Sys2Proof.Machine

/-- Settles O23. -/
theorem archiveRowsComplete : Obligations.ArchiveRowsComplete := by
  unfold Obligations.ArchiveRowsComplete
  refine ⟨?enableFirst, ?enable, ?unfit, ?disable, ?page, ?amendment, ?mapBack, ?programmed, ?copied, ?programFailed, ?verified, ?again,
    ?erased, ?eraseFailed, ?retried, ?collect⟩
  case enableFirst =>
    intro s u d luns bpl sectors planes gib pe slc n hL hon hidle hn hgood hu hlayout
    refine onL_answers hL ?_
    subst hu hn
    simp [hon, hidle, State.arcStartUp, hgood, hlayout]
  case enable =>
    intro s u v d luns bpl sectors planes gib pe slc n l hL hon hidle hn hgood hu hlayout hv
    refine onL_answers hL ?_
    subst hv hu hn
    simp [hon, hidle, State.arcStartUp, hgood, hlayout]
  case unfit =>
    intro s d luns bpl sectors planes gib pe slc ok n hL hon hidle hn hbad
    refine onL_answers hL ?_
    subst hn
    simp [hon, hidle, State.arcStartUp, hbad]
  case disable =>
    intro s t u v d st hL hrun hled ht hst hu hv
    refine onL_answers hL ?_
    subst hv hu hst ht
    simp [hrun, hled]
  case page =>
    intro s t u d hL hgo hon hdue ht hu
    refine onL_answers hL ?_
    subst hu ht
    simp [hgo, hon, hdue]
  case amendment =>
    intro s t d hL hgo hon hdue hamend ht
    refine onL_answers hL ?_
    subst ht
    simp [hgo, hon, hdue, hamend]
  case mapBack =>
    intro s d hL hgo hon
    refine onL_answers hL ?_
    simp [hgo, hon]
  case programmed =>
    intro s t u v d p hL hgo hp hsrc ht hu hv
    refine onL_answers hL ?_
    subst hv hu ht
    simp [hgo, hp, hsrc]
  case copied =>
    intro s t d p a hL hgo hp hsrc ht ha
    refine onL_answers hL ?_
    subst ha ht
    simp [hgo, hp, Option.isSome_iff_ne_none.mpr hsrc]
  case programFailed =>
    intro s d p hL hgo hp
    refine onL_answers hL ?_
    simp [hgo, hp]
  case verified =>
    intro s t u d bits p hL hgo hp ht hbits hu
    refine onL_answers hL ?_
    subst hu ht
    simp only [hgo, hp, hbits.not_gt]
    rfl
  case again =>
    intro s t d bits p hL hgo hp ht hbits
    refine onL_answers hL ?_
    subst ht
    simp only [hgo, hp, hbits]
    rfl
  case erased =>
    intro s t u d b a hL hgo hfree ha ht hu
    refine onL_answers hL ?_
    subst hu ht ha
    simp only [hgo, hfree]
    rfl
  case eraseFailed =>
    intro s t d b hL hgo hfree ht
    refine onL_answers hL ?_
    subst ht
    simp [hgo, hfree]
  case retried =>
    intro s t d key x rowOk hL hx ht
    refine onL_answers hL ?_
    subst ht
    simp [hx]
  case collect =>
    intro s d b hL hgo hrun hb
    refine onL_answers hL ?_
    simp [hgo, hrun, hb]

/-- Settles O24. -/
theorem archiveUpkeepCompletes : Obligations.ArchiveUpkeepCompletes := by
  unfold Obligations.ArchiveUpkeepCompletes
  refine ⟨?patrol, ?patrolEnd, ?patrolAbort, ?wearEven, ?wearUneven, ?checkpoint, ?checkpointEnd, ?journal, ?journalFailed, ?governor, ?trim⟩
  case patrol =>
    intro s d b bits k hL hgo hrun hlong hcause hnext
    refine onL_answers hL ?_
    have hdue : ¬((s.arc d).patrolCmd = false ∧ (s.arc d).patrolled.isEmpty = true ∧ s.due (s.arc d).patrolFrom = false) := by
      rintro ⟨hcmd, hempty, hnot⟩
      simp [hcmd, hempty, hnot] at hcause
    simp only [hgo, hrun, hlong, hdue, hnext]
    simp
  case patrolEnd =>
    intro s d bits hL hgo hrun hcmd hlong hnext
    refine onL_answers hL ?_
    simp [hgo, hrun, hcmd, hlong, hnext]
  case patrolAbort =>
    intro s d bits o hL hgo hrun hcmd ho haborted
    refine onL_answers hL ?_
    simp [hgo, hrun, hcmd, ho, haborted]
  case wearEven =>
    intro s t d hL hgo hrun hdue ht heven
    refine onL_answers hL ?_
    subst ht
    rw [if_neg (by simp [hgo]), if_neg (by simp [hrun, hdue])]
    exact if_pos heven
  case wearUneven =>
    intro s t d b hL hgo hrun hdue ht huneven hb
    refine onL_answers hL ?_
    subst ht
    rw [if_neg (by simp [hgo]), if_neg (by simp [hrun, hdue])]
    refine (if_neg huneven.not_ge).trans ?_
    rw [hb]
  case checkpoint =>
    intro s d hL hgo hrun hleft hbound
    refine onL_answers hL ?_
    simp [hgo, hrun, hleft, hbound]
  case checkpointEnd =>
    intro s t u d hL hgo hrun hbound ht hu
    refine onL_answers hL ?_
    subst hu ht
    simp [hgo, hrun, hbound]
  case journal =>
    intro s d bad a a' l hL hgo hrun ha htarget hl hlen hbad ha'
    refine onL_answers hL ?_
    subst ha' ha
    simp only [hgo, hrun, htarget.not_ge, hl, hlen, hbad.not_gt, lt_irrefl]
    rfl
  case journalFailed =>
    intro s t d bad b a l hL hgo hrun ha htarget hl hlen hbad hb ht
    refine onL_answers hL ?_
    subst ht hb ha
    simp only [hgo, hrun, htarget.not_ge, hl, hlen, hbad, lt_irrefl]
    rfl
  case governor =>
    intro s t u d days wa a hL hrun ha hdue ht hdays hwa hu hoff
    refine onL_answers hL ?_
    subst hu hwa hdays ht ha
    rw [if_neg (by simp [hrun, hdue])]
    exact if_pos ((Bool.not_eq_true' _).mpr hoff)
  case trim =>
    intro s t u d b first a e units hL hgo hrun ha hlow hnone hb hunits hseq hopen ht hfirst hu
    refine onL_answers hL ?_
    subst hu hfirst ht hunits ha
    simp only [hgo, hrun, hlow, hnone, hb, hseq.not_gt, hopen]
    rfl

/-- A command of the archive that a running controller takes is carried out (R250). -/
theorem State.withArc_of_running {s : State} {d op : Nat} {c : Cmd} (k : State → Cmd → State) (hcmd : s.nextCmd d op = some c)
    (hrun : s.arcRunning d = true) : s.withArc d op k = k s c := by
  rw [State.withArc, withCmd_some hcmd, if_pos hrun]

/-- Settles O25. -/
theorem archiveCommandsComplete : Obligations.ArchiveCommandsComplete := by
  unfold Obligations.ArchiveCommandsComplete
  refine ⟨?entries, ?health, ?sectors, ?write, ?trim, ?patrol, ?format⟩
  case entries =>
    intro s t u d next c l b pages hL hcmd hrun hmin hmax hheld hl hnext hkept hb hpages ht hu
    refine onL_answers hL ?_
    subst hu ht hpages hb hnext hl
    rw [State.withArc_of_running _ hcmd hrun]
    simp only [hmin.not_gt, hmax.not_gt, hheld.not_gt, hkept]
    rfl
  case health =>
    intro s d c hL hcmd hrun
    exact onL_answers hL (State.withArc_of_running _ hcmd hrun)
  case sectors =>
    intro s t u d f n c hL hcmd hrun hf hn hsome hmany halign hrange hkept ht hu
    refine onL_answers hL ?_
    subst hu ht hn hf
    rw [State.withArc_of_running _ hcmd hrun]
    simp only [hsome, hmany.not_gt, halign, hrange, hkept]
    rfl
  case write =>
    intro s d f n data c groups hL hcmd hrun hf hn hsome hmany halign hrange hspare hgroups
    refine onL_answers hL ?_
    subst hgroups hn hf
    rw [State.withArc_of_running _ hcmd hrun]
    simp only [hsome, hmany.not_gt, halign, hrange, hspare]
    rfl
  case trim =>
    intro s t d f n c keys a hL hcmd hrun hf hn hrange hkeys ht ha
    refine onL_answers hL ?_
    subst ha ht hkeys hn hf
    rw [State.withArc_of_running _ hcmd hrun]
    simp only [hrange]
    rfl
  case patrol =>
    intro s t d c hL hcmd hrun hnone ht
    refine onL_answers hL ?_
    subst ht
    rw [State.withArc_of_running _ hcmd hrun]
    simp only [hnone]
    rfl
  case format =>
    intro s t u v d n c l hL hcmd hrun hkey hled hque hwrites hlayout hn ht hu hv
    refine onL_answers hL ?_
    subst hv hu ht hn
    rw [State.withArc_of_running _ hcmd hrun]
    rw [if_neg (not_not_intro hkey), if_neg (by rw [hled, hque]; simp), if_neg (by rw [hwrites]; simp)]
    simp only [hlayout]

end Sys2Proof.Machine
end

section
/-! The mirror of an L-die, its fences and its commands (11_substitute_redundancy R255 to R275). -/

namespace Sys2Proof.Machine

/-- Silence on a path is judged where the pair is whole: both dies in their roles, no fence asked for or granted (R258). -/
theorem pathSilence_of_watched {s u : State} {d : Nat} {wire : Bool} {m : Mirror} (hL : s.isL d = true) (hm : s.mir d = m)
    (hpair : s.inPair d = true) (hfencing : m.fencing = false) (hfenced : s.pkg.fenced.contains (partnerOf d) = false)
    (hrole : s.role d ≠ 0) (hserves : s.role d < 4) (hpartner : s.role (partnerOf d) ≠ 6)
    (hu : (if (s.mir (partnerOf d)).ownFault = true ∧ s.due ((if wire then m.wireSeen else m.linkSeen) + s.faultQuiet d) = true then
             s.declareFailed d 2
           else if (if wire then m.wireFault else m.linkFault) = true
               ∨ s.due ((if wire then m.wireSeen else m.linkSeen) + s.silenceTicks d) = false then s
           else
             let s := s.setMir d (if wire then { m with wireFault := true, wireLive := none } else { m with linkFault := true, linkLive := none })
             let s := s.putB d (if wire then MIRR_STAT_wire_ok else MIRR_STAT_link_ok) false
             if (if wire then m.linkFault else m.wireFault) then s.declareFailed d 1
             else (s.inc d MIRR_PATHFAULT_CNT).raise d 130 (arg 0 (b2n wire))) = u) :
    exec (.pathSilence d wire) s = .next (s.settle u) := by
  refine onL_answers hL ?_
  subst hm hu
  exact if_neg (by rw [hfenced]; simp [hpair, hfencing, hrole, hserves.not_ge, hpartner])

/-- Settles O26. -/
theorem mirrorRowsComplete : Obligations.MirrorRowsComplete := by
  unfold Obligations.MirrorRowsComplete
  refine ⟨?message, ?confirm, ?overdue, ?heartbeat, ?wireSilent, ?linkSilent, ?partnerFault, ?wireBack, ?linkBack, ?restart, ?takeover, ?alone,
    ?ownFault, ?resynced, ?caughtUp⟩
  case message =>
    intro s t u d m hL hrole hroom hm ht hu
    refine onL_answers hL ?_
    subst hu ht
    rw [if_pos ⟨hrole, hroom⟩, State.mirTake, hm]
  case confirm =>
    intro s t u v d n at_ hL hc ht ho hu hv
    refine onL_answers hL ?_
    subst hv hu ht
    simp only [State.confirmTake, hc, ho]
  case overdue =>
    intro s t u d n at_ rest hL hout hmirror hwire hdue ht hu
    refine onL_answers hL ?_
    subst hu ht
    simp only [hout, hmirror, hwire, hdue]
    rfl
  case heartbeat =>
    intro s t d hL hup hfault ht
    refine onL_answers hL ?_
    subst ht
    refine if_neg ?_
    rcases hfault with h | h
    · simp [hup, h]
    · simp [hup, h]
  case wireSilent =>
    intro s t d m hL hm hpair hfencing hfenced hrole hserves hpartner hsound hwire hdue ht
    refine pathSilence_of_watched hL hm hpair hfencing hfenced hrole hserves hpartner ?_
    subst ht
    simp [hsound, hwire, hdue, b2n]
  case linkSilent =>
    intro s t d m hL hm hpair hfencing hfenced hrole hserves hpartner hsound hlink hdue ht
    refine pathSilence_of_watched hL hm hpair hfencing hfenced hrole hserves hpartner ?_
    subst ht
    simp [hsound, hlink, hdue, b2n]
  case partnerFault =>
    intro s d wire m hL hm hpair hfencing hfenced hrole hserves hpartner hfault hdue
    exact pathSilence_of_watched hL hm hpair hfencing hfenced hrole hserves hpartner (if_pos ⟨hfault, hdue⟩)
  case wireBack =>
    intro s d m hL hm hwire hup
    refine onL_answers hL ?_
    subst hm
    rw [if_pos rfl, if_pos ⟨hwire, hup⟩]
  case linkBack =>
    intro s d at_ m hL hm hlink hlive hdue
    refine onL_answers hL ?_
    subst hm
    simp only [hlink, hlive, hdue]
    rfl
  case restart =>
    intro s d hL hfenced hrole hauto hcool
    refine onL_answers hL (if_pos ?_)
    rw [hfenced]
    rcases hauto with h | h | h
    · simp [hrole, h, hcool]
    · simp [hrole, h, hcool]
    · simp [hrole, h, hcool]
  case takeover =>
    intro s t u d hL hfencing hother ht hrole hpartner hu hup
    refine onL_answers hL ?_
    subst hu ht
    simp only [hfencing, hother, hrole, hpartner]
    simp [hup]
  case alone =>
    intro s t u v w d hL hfencing ht hrole hpartner hactive hu hv hw
    refine onL_answers hL ?_
    subst hw hv hu ht
    simp only [hfencing, hrole, hpartner]
    simp
  case ownFault => exact fun s d hL => onL_of_isL hL
  case resynced =>
    intro s t d hL hrole hpartner hrun ht
    refine onL_answers hL ?_
    subst ht
    exact if_neg (by simp [hrole, hpartner, hrun])
  case caughtUp =>
    intro s d hL hrole hlag
    exact onL_answers hL (if_neg (by simp [hrole, hlag]))

/-- Settles O27. -/
theorem mirrorCommandsComplete : Obligations.MirrorCommandsComplete := by
  unfold Obligations.MirrorCommandsComplete
  refine ⟨?switchover, ?resync, ?release, ?hold, ?fdieLost, ?passed, ?failedF, ?failedAlone, ?reportCard, ?stage, ?updateSubstitute,
    ?updateSingle⟩
  case switchover =>
    intro s t d c hL hcmd hpair hrole hprotected ht
    refine onL_answers hL ?_
    rw [ht]
    simp [withCmd_some hcmd, hpair, hrole, hprotected]
  case resync =>
    intro s d c hL hcmd hpair hrole hfree
    refine onL_answers hL ?_
    rcases hrole with h | h
    · simp [withCmd_some hcmd, hpair, h, hfree]
    · simp [withCmd_some hcmd, hpair, h, hfree]
  case release =>
    intro s t d c hL hcmd hrole ht hback
    have hgo : (!t.inPair d || !t.serving (partnerOf d) || c.op 16 1 % 2 == 1) = true := by
      rcases hback with h | h | h
      · simp [h]
      · simp [h]
      · simp [h]
    refine onL_answers hL ?_
    subst ht
    rw [withCmd_some hcmd, if_neg (not_not_intro hrole)]
    exact congrArg (State.complete · c.id 0) (if_pos hgo)
  case hold =>
    intro s t d c hL hcmd hrole ht hpair hserving hbit
    have hstay : ¬(!t.inPair d || !t.serving (partnerOf d) || c.op 16 1 % 2 == 1) = true := by simp [hpair, hserving, hbit]
    refine onL_answers hL ?_
    subst ht
    rw [withCmd_some hcmd, if_neg (not_not_intro hrole)]
    exact congrArg (State.complete · c.id 0) (if_neg hstay)
  case fdieLost =>
    intro s t u v d f hL hF hserving hfenced ht hu hv
    refine onL_answers hL ?_
    subst hv hu ht
    exact if_neg (by rw [hfenced]; simp [hF, hserving])
  case passed =>
    intro s d id corrected hd htest halive
    refine onDie_answers hd ?_
    simp [htest, halive]
  case failedF =>
    intro s t d id corrected hd htest halive ht hF
    refine onDie_answers hd ?_
    subst ht
    simp [htest, halive, hF]
  case failedAlone =>
    intro s t d id corrected hd htest halive ht hF hsub hactive
    refine onDie_answers hd ?_
    subst ht
    simp [htest, halive, hF, hsub, hactive]
  case reportCard =>
    intro s d c hd hcmd
    refine onDie_answers hd ?_
    rw [withCmd_some hcmd]
  case stage =>
    intro s t d bank img c hL hcmd hsome hmany hfree hsigner hmain hsvn hbank ht
    refine onL_answers hL ?_
    subst ht hbank
    rw [withCmd_some hcmd]
    simp only [hsome, hmany.not_gt, hfree, hsigner, hmain, hsvn.not_gt]
    rfl
  case updateSubstitute =>
    intro s t u v d img c hd hcmd himg hF hfree hpair hrole hprotected ht hu hv
    refine onDie_answers hd ?_
    subst hv hu ht
    rw [withCmd_some hcmd]
    simp only [himg, hF, hfree, hpair, hrole, hprotected]
    rfl
  case updateSingle =>
    intro s t u d img c hd hcmd himg hF hfree hsingle hrole hsvn ht hu
    refine onDie_answers hd ?_
    subst hu ht
    rw [withCmd_some hcmd]
    simp only [himg, hF, hfree, hsingle, hrole, hsvn.not_gt]
    rfl

end Sys2Proof.Machine
end

section
/-! The ports and flows of the Eufer fabric (12_eufer_fabric R277 to R282, R292). -/

namespace Sys2Proof.Machine

/-- Settles O28. -/
theorem fabricLinksComplete : Obligations.FabricLinksComplete := by
  unfold Obligations.FabricLinksComplete
  refine ⟨?enable, ?up, ?untrained, ?retrain, ?down, ?drained, ?disableUp, ?disableDown, ?flit, ?flitBad, ?control, ?deliver, ?forward,
    ?expired, ?flowNext, ?flowOther, ?ackOnly, ?resend, ?unreachable⟩
  case enable =>
    intro s t d hL hon ht hidle hrestored hdom
    refine onL_answers hL ?_
    subst ht
    rw [if_neg (by simp [hon]), State.eufTrain, if_pos ⟨hidle, hrestored, hdom⟩]
  case up =>
    intro s t u d lanes far hL htrain hlanes ht hu
    refine onL_answers hL ?_
    subst hu ht
    rw [if_neg (not_not_intro htrain), if_pos hlanes]
  case untrained =>
    intro s d lanes far hL htrain h4 h2
    refine onL_answers hL ?_
    rw [if_neg (not_not_intro htrain), if_neg (by simp [h4, h2])]
  case retrain =>
    intro s t d hL hdown hdue ht
    refine onL_answers hL ?_
    subst ht
    exact if_pos ⟨hdown, hdue⟩
  case down =>
    intro s t d hL hup ht
    refine onL_answers hL ?_
    subst ht
    rcases hup with h | h
    · simp [State.linkLost, h]
    · simp [State.linkLost, h]
  case drained =>
    intro s d hL hdrain
    exact onL_answers hL (if_pos hdrain)
  case disableUp =>
    intro s d hL hup
    refine onL_answers hL ?_
    rcases hup with h | h
    · simp [h]
    · simp [h]
  case disableDown =>
    intro s d hL hdown
    refine onL_answers hL ?_
    rcases hdown with h | h
    · simp [h]
    · simp [h]
  case flit =>
    intro s t u d ackTo st x e out hL hst hup hout he ht hu hreplays
    refine onL_answers hL ?_
    subst hu ht he hout hst
    have hnew : ((s.euf d).rxNext == (s.euf d).rxNext && s.get d EUF_STAT_port_state != 5) = true := by
      rcases hup with h | h
      · simp [h]
      · simp [h]
    rw [if_neg (by omega), if_neg (by simp)]
    simp only [hnew, decide_eq_true_eq, Bool.false_eq_true, if_true, if_false]
    exact if_neg hreplays.not_ge
  case flitBad =>
    intro s d seq ackTo st nack m hL hst hup
    refine onL_answers hL ?_
    subst hst
    exact if_neg (by omega)
  case control =>
    intro s t d m c rest hL hin hbody ht
    refine onL_answers hL ?_
    subst ht
    simp only [hin, hbody]
  case deliver =>
    intro s t d k m b rest hL hin hbody ht hincluded hhere hnumbered hk hlive
    refine onL_answers hL ?_
    subst ht hk
    simp only [hin, hbody, hincluded, hhere, hnumbered, hlive]
    simp
  case forward =>
    intro s t d h m b rest hL hin hbody ht hincluded haway httl hhop
    refine onL_answers hL ?_
    subst ht
    simp only [hin, hbody, hincluded, haway, httl, hhop]
    simp
  case expired =>
    intro s t d m b rest hL hin hbody ht hincluded haway httl
    refine onL_answers hL ?_
    subst ht
    simp only [hin, hbody, hincluded, haway, httl]
    simp
  case flowNext =>
    intro s t d m b rest r hL hin ht hkept hbody hr hnext
    refine onL_answers hL ?_
    subst hr ht
    simp only [hin, hkept, hbody, lt_irrefl]
    exact if_pos hnext
  case flowOther =>
    intro s t d m b rest r hL hin ht hkept hbody hr hother
    refine onL_answers hL ?_
    subst hr ht
    simp only [hin, hkept, hbody, lt_irrefl]
    exact if_neg hother
  case ackOnly =>
    intro s t d cls src at_ h r hL hr howed hhop hdue ht
    refine onL_answers hL ?_
    subst ht hr
    simp only [howed, hhop, hdue]
    rfl
  case resend =>
    intro s d cls dst hL hroute hdue
    refine onL_answers hL ?_
    exact if_neg (by simp [hroute, hdue])
  case unreachable =>
    intro s t u d cls dst at_ n f hL hf hroute hn hsome ht hu
    refine onL_answers hL ?_
    subst hu ht hn hf
    simp only [hroute]
    exact if_neg hsome

end Sys2Proof.Machine
end

section
/-! The MACs of the port dies and the direct alarm (13_ethernet_backhaul R296 to R307). -/

namespace Sys2Proof.Machine

/-- Settles O30. -/
theorem ethernetCompletes : Obligations.EthernetCompletes := by
  unfold Obligations.EthernetCompletes
  refine ⟨?enable, ?disable, ?link, ?overflow, ?badCheck, ?pause, ?filtered, ?accepted, ?backoff, ?late, ?excessive, ?backoffEnd, ?pauseEnd,
    ?watchdog, ?ignoreEnd, ?delayRequest, ?masterLost, ?mdioRead, ?mdioWrite⟩
  case enable =>
    intro s t d hport hon hidle hok ht
    refine onPort_answers hport ?_
    subst ht
    rw [if_neg (by simp [hon]), if_neg (not_not_intro hidle)]
    refine if_neg ?_
    rintro ⟨hauto, hduplex, hspeed⟩
    simp [hauto, hduplex, hspeed.not_gt] at hok
  case disable =>
    intro s t u d n hport ht hrun hnone hn hu
    refine onPort_answers hport ?_
    subst hu hn ht
    rw [if_neg (not_not_intro hrun)]
    simp only [hnone]
    rfl
  case link =>
    intro s t d speed up full hport hauto hchange ht
    refine onPort_answers hport ?_
    subst ht
    simp [hauto, hchange]
  case overflow =>
    intro s t d ts b hport hon hlink ht
    refine onPort_answers hport ?_
    subst ht
    rw [if_neg (by simp [hon, hlink])]
    rfl
  case badCheck =>
    intro s d ts b hport hon hlink hbad
    refine onPort_answers hport ?_
    rw [if_neg (by simp [hon, hlink]), if_neg (by simp), if_pos hbad]
  case pause =>
    intro s d ts b f hport hon hlink hlen hf hcheck htype haddr
    refine onPort_answers hport ?_
    subst hf
    rw [if_neg (by simp [hon, hlink]), if_neg (by simp), if_neg (by simp [hlen.not_gt, hcheck])]
    exact if_pos ⟨htype, haddr⟩
  case filtered =>
    intro s d ts b f hport hon hlink hlen hf hcheck htype hother
    refine onPort_answers hport ?_
    subst hf
    rw [if_neg (by simp [hon, hlink]), if_neg (by simp), if_neg (by simp [hlen.not_gt, hcheck])]
    refine (if_neg fun h => htype h.1).trans (if_pos ?_)
    simpa using hother
  case accepted =>
    intro s d ts vid b f g hport hon hlink hlen hmax hf hcheck htype hmine hvid
    refine onPort_answers hport ?_
    subst hf
    rw [if_neg (by simp [hon, hlink]), if_neg (by simp), if_neg (by simp [hlen.not_gt, hcheck])]
    refine (if_neg fun h => htype h.1).trans ?_
    rw [if_neg (by simp [hmine, hmax]), hvid]
    dsimp only
    cases s.ethVidOk d vid with
    | true => rfl
    | false => rfl
  case backoff =>
    intro s t u d start x r f hport hcur hhalf ht hearly hattempts hr
    refine onPort_answers hport ?_
    subst ht
    simp only [hcur]
    rw [if_neg (by simp [hhalf]), if_neg hearly.not_gt, if_neg hattempts.not_ge, hr]
  case late =>
    intro s t d start x f hport hcur hhalf ht hlate
    refine onPort_answers hport ?_
    subst ht
    simp only [hcur]
    rw [if_neg (by simp [hhalf]), if_pos hlate]
  case excessive =>
    intro s t d start x f hport hcur hhalf ht hearly hattempts
    refine onPort_answers hport ?_
    subst ht
    simp only [hcur]
    rw [if_neg (by simp [hhalf]), if_neg hearly.not_gt, if_pos hattempts]
  case backoffEnd =>
    intro s d t f hport hback hdue hlink hon
    refine onPort_answers hport ?_
    simp only [hback]
    exact if_neg (by simp [hdue, hlink, hon])
  case pauseEnd =>
    intro s d t hport hpause hdue
    refine onPort_answers hport ?_
    simp only [hpause]
    exact if_pos hdue
  case watchdog =>
    intro s u d t hport hheld hdue hu
    refine onPort_answers hport ?_
    subst hu
    simp only [hheld]
    exact if_pos hdue
  case ignoreEnd =>
    intro s d t hport hignore hdue
    refine onPort_answers hport ?_
    simp only [hignore]
    exact if_pos hdue
  case delayRequest =>
    intro s t d seq b hport hptp hrun hmaster hdue hseq hb ht
    refine onPort_answers hport ?_
    cases hat : (s.eth d).dreqAt with
    | none =>
      simp only [hat]
      rw [if_neg (by simp [hptp, hrun, hmaster]), ht, hb, hseq]
    | some at_ =>
      rw [hat, Option.all_some] at hdue
      simp only [hat]
      rw [if_neg (by simp [hptp, hrun, hmaster, hdue]), ht, hb, hseq]
  case masterLost =>
    intro s d p hport hmaster hdue
    refine onPort_answers hport ?_
    rw [if_pos ⟨by simp [hmaster], hdue⟩, State.ptpLose, hmaster]
  case mdioRead =>
    intro s t d v hport ht hread
    refine onPort_answers hport ?_
    subst ht
    exact if_neg (by simp [hread])
  case mdioWrite =>
    intro s t d v hport ht hwrite
    refine onPort_answers hport ?_
    subst ht
    exact if_pos hwrite

/-- Settles O31. -/
theorem directAlarmCompletes : Obligations.DirectAlarmCompletes := by
  unfold Obligations.DirectAlarmCompletes
  refine ⟨?enable, ?refuse, ?activate, ?send, ?drop, ?copyOwn, ?copyOther, ?copyDrop⟩
  case enable =>
    intro s d hport htpl hkey
    refine onPort_answers hport (if_pos ?_)
    simp [htpl, hkey]
  case refuse =>
    intro s d hport hbad
    refine onPort_answers hport (if_neg ?_)
    rcases hbad with h | h
    · simp [h]
    · simp [h]
  case activate =>
    intro s d t hport hon hidle hsince hdue
    refine onPort_answers hport (if_pos ?_)
    rcases hsince with h | h
    · simp [hon, hidle, h, hdue]
    · simp [hon, hidle, h, hdue]
  case send =>
    intro s t d n m p hL hnext hp happlied ht hmac
    refine onL_answers hL ?_
    simp only [hnext, hp]
    rw [if_neg (by simp [happlied]), ← ht]
    simp only [hmac]
  case drop =>
    intro s t d n p hL hnext hp happlied ht hmac
    refine onL_answers hL ?_
    simp only [hnext, hp]
    rw [if_neg (by simp [happlied]), ← ht]
    simp only [hmac]
  case copyOwn =>
    intro s t d c r hport hcopies hdue ht hup
    refine onPort_answers hport ?_
    simp only [hcopies]
    rw [if_neg (by simp [hdue]), ← ht, if_pos hup]
  case copyOther =>
    intro s t d m c r hport hcopies hdue ht hdown hmac
    refine onPort_answers hport ?_
    simp only [hcopies]
    rw [if_neg (by simp [hdue]), ← ht, if_neg (by simp [hdown]), hmac]
  case copyDrop =>
    intro s t d c r hport hcopies hdue ht hdown hmac
    refine onPort_answers hport ?_
    simp only [hcopies]
    rw [if_neg (by simp [hdue]), ← ht, if_neg (by simp [hdown]), hmac]

end Sys2Proof.Machine
end

section
/-! The Slate of an F-die (14_slate_panel). -/

namespace Sys2Proof.Machine

/-- Settles O32. -/
theorem slateCompletes : Obligations.SlateCompletes := by
  unfold Obligations.SlateCompletes
  refine ⟨?enable, ?disableRising, ?disableRunning, ?settledLcd, ?settledEpd, ?discharged, ?update, ?refuse, ?check, ?sample, ?rest, ?powerOff,
    ?step, ?image, ?phase, ?updateEnd⟩
  case enable =>
    intro s t d hF ht hoff
    refine onF_answers hF ?_
    subst ht
    exact if_pos hoff
  case disableRising =>
    intro s t d hF ht hrising
    refine onF_answers hF ?_
    subst ht
    simp [State.slateOff, hrising]
  case disableRunning =>
    intro s t u d hF ht hrun hlcd hu
    refine onF_answers hF ?_
    subst hu ht
    simp [State.slateOff, hrun, hlcd]
  case settledLcd =>
    intro s t d v hF hrising hlcd hv ht
    refine onF_answers hF ?_
    subst ht hv
    simp [hrising, hlcd]
  case settledEpd =>
    intro s d hF hrising hepd
    refine onF_answers hF ?_
    simp [hrising, hepd]
  case discharged =>
    intro s t d hF hfalling hbrown ht hoff
    refine onF_answers hF ?_
    subst ht
    simp [hfalling, hbrown, hoff]
  case update =>
    intro s d hF hon hup hok
    refine onF_answers hF ?_
    rcases hok with h | h
    · simp [hon, hup, h]
    · simp [hon, hup, h]
  case refuse =>
    intro s d hF hon hup hepd hbad
    refine onF_answers hF ?_
    simp [hon, hup, hepd, hbad]
  case check => exact fun s d hF => onF_of_isF hF
  case sample =>
    intro s t u d temp hF htemp ht hu
    refine onF_answers hF ?_
    subst hu ht htemp
    rfl
  case rest => exact fun s d hF => onF_of_isF hF
  case powerOff =>
    intro s d hF hrun hlcd hstop
    refine onF_answers hF ?_
    simp [hrun, hlcd, hstop]
  case step =>
    intro s d v hF hrun hlcd hgo hawake hnone hv
    refine onF_answers hF ?_
    subst hv
    simp only [hrun, hlcd, hgo, hawake, hnone]
    rfl
  case image =>
    intro s t u d v img hF hrun hlcd hgo hawake hnext hv ht hgap hu
    refine onF_answers hF ?_
    subst hu ht hv
    simp only [hrun, hlcd, hgo, hawake, hnext, hgap]
    rfl
  case phase =>
    intro s t d r r' hF hr hdue hkind hmore hr' ht
    refine onF_answers hF ?_
    subst ht hr'
    simp only [hr, hdue, hkind, hmore]
    rfl
  case updateEnd =>
    intro s d r hF hr hdue hkind hlast
    refine onF_answers hF ?_
    simp only [hr, hdue, hlast.not_gt]
    rcases hkind with h | h
    · simp [h]
    · simp [h]

end Sys2Proof.Machine
end

section
/-! Device time and its disciplining (15_power_clocks_ageing R329 to R333). -/

namespace Sys2Proof.Machine

/-- An edge of PPS_IN that is taken is measured where it lies within 100 ms of a whole second (R330, R332). -/
theorem ppsInEdge_of_taken {s t u v : State} {d : Nat} {rising : Bool} (hport : s.isPort d = true) (hon : s.flag d CLK_PPS_in_en = true)
    (hedge : rising ≠ s.flag d CLK_PPS_in_pol)
    (ht : t = (s.setDisc d { s.disc d with ppsLast := some s.now, ppsLost := false }).putB d CLK_STAT_pps_ok true)
    (hu : u = if (s.disc d).ppsLost then t.raise d 27 (arg 0 1) else t)
    (hv : (if d ≠ u.ppsTaker then u
           else
             let f := u.devNs d % 1000000000
             let e : Int := if f ≤ 500000000 then -f else 1000000000 - f
             if e.natAbs > 100000000 then u.inc d CLK_PPS_MISS_CNT else u.measure d 2 e) = v) :
    exec (.ppsInEdge d rising) s = .next (s.settle v) := by
  refine onPort_answers hport ?_
  subst hv hu ht
  rw [if_neg (by simp [hon, hedge])]

/-- The mains comparison of a master over a whole day (R333). -/
theorem zcComparison_of_day {s t u : State} {d f uhz : Nat} {nominal dev ppm : Int} (hd : d < s.nDies) (hf : s.zcDie = some f)
    (hmaster : s.flag d CLK_STAT_master = true) (hfrom : s.due ((s.disc d).zcFrom + 86400 * Config.tS) = true)
    (hok : s.due ((s.f f).plc.zcOkAt + 86400 * Config.tS) = true) (hnominal : nominal = if uhz < 55000000 then 50000000 else 60000000)
    (hdev : dev = Int.ofNat uhz - nominal) (hppm : ppm = max (-32768) (min 32767 (Int.tdiv (dev * 1000000) nominal)))
    (ht : t = (s.putZ d CLK_ZC_DEV_ppm ppm).setDisc d { s.disc d with zcFrom := s.now })
    (hu : (if Int.ofNat dev.natAbs * 1000000 > 500 * nominal then
             if t.flag d CLK_STAT_ref_fault then t
             else ((t.putB d CLK_STAT_ref_fault true).setQuality d 2).raise d 26 (arg 0 (ofSigned 16 ppm) + arg 2 1)
           else if Int.ofNat dev.natAbs * 1000000 ≤ 200 * nominal ∧ t.flag d CLK_STAT_ref_fault = true then
             (t.putB d CLK_STAT_ref_fault false).raise d 26 (arg 0 (ofSigned 16 ppm))
           else t) = u) :
    exec (.zcComparison d uhz) s = .next (s.settle u) := by
  refine onDie_answers hd ?_
  simp only [hf]
  rw [if_neg (by simp [hmaster, hfrom, hok]), ← hnominal, ← hdev, ← hppm]
  subst ht
  exact hu

/-- Settles O33. -/
theorem clocksComplete : Obligations.ClocksComplete := by
  unfold Obligations.ClocksComplete
  refine ⟨?quality, ?holdoverIn, ?holdoverOther, ?holdoverOut, ?holdoverNot, ?step, ?within, ?setGo, ?ptp, ?ptpNone, ?edgeLeftOut, ?edge,
    ?ppsLost, ?ppsKept, ?ppsOut, ?ppsOutNot, ?timingSelf, ?timingNear, ?timingFar, ?mainsNot, ?mains⟩
  case quality => exact fun s d hd => onDie_of_lt hd
  case holdoverIn =>
    intro s d hd hquality
    refine onDie_answers hd ?_
    simp [hquality, State.qualityCheck, State.due]
  case holdoverOther =>
    intro s d hd hquality
    exact onDie_answers hd (if_neg hquality)
  case holdoverOut =>
    intro s d h hd hquality hunlocked hfrom
    refine onDie_answers hd ?_
    simp [hquality, State.qualityCheck, hunlocked, hfrom, State.due]
  case holdoverNot =>
    intro s d hd hquality
    exact onDie_answers hd (if_neg hquality)
  case step =>
    intro s d ticks hd hfar
    refine ⟨onDie_answers hd (if_neg ?_), onDie_answers hd (if_neg ?_)⟩
    · simp only [if_true, Int.ofNat_eq_natCast]
      omega
    · simp only [Bool.false_eq_true, if_false, Int.ofNat_eq_natCast]
      omega
  case within =>
    intro s d ticks back hd hnear
    refine onDie_answers hd (if_pos ?_)
    cases back with
    | true =>
      simp only [if_true, Int.ofNat_eq_natCast]
      omega
    | false =>
      simp only [Bool.false_eq_true, if_false, Int.ofNat_eq_natCast]
      omega
  case setGo => exact fun s d hport => onPort_of_isPort hport
  case ptp =>
    intro s t d e hport he ht
    refine onPort_answers hport ?_
    subst ht
    simp only [he]
  case ptpNone =>
    intro s d hport hnone
    refine onPort_answers hport ?_
    simp only [hnone]
  case edgeLeftOut =>
    intro s d rising hport hout
    exact onPort_answers hport (if_pos hout)
  case edge =>
    intro s t u d rising hport hon hedge ht hu
    refine ⟨fun hother => ?_, fun htaker hnear => ?_, fun htaker hnear => ?_, fun htaker hlow hhigh => ?_⟩
    · exact ppsInEdge_of_taken hport hon hedge ht hu (if_pos hother)
    · refine ppsInEdge_of_taken hport hon hedge ht hu ?_
      rw [if_neg (not_not_intro htaker)]
      dsimp only
      rw [if_pos (show u.devNs d % 1000000000 ≤ 500000000 by omega), if_neg (by omega)]
    · refine ppsInEdge_of_taken hport hon hedge ht hu ?_
      rw [if_neg (not_not_intro htaker)]
      dsimp only
      rw [if_neg (show ¬u.devNs d % 1000000000 ≤ 500000000 by omega), if_neg (by omega)]
    · refine ppsInEdge_of_taken hport hon hedge ht hu ?_
      rw [if_neg (not_not_intro htaker)]
      dsimp only
      refine if_pos ?_
      split
      · omega
      · omega
  case ppsLost =>
    intro s d hport hon hkept hdue
    exact onPort_answers hport (if_pos ⟨hon, hkept, hdue⟩)
  case ppsKept =>
    intro s d hport hnot
    refine onPort_answers hport (if_neg ?_)
    rintro ⟨hon, hkept, hdue⟩
    simp [hon, hkept, hdue] at hnot
  case ppsOut =>
    intro s t d hport hon hmaster hnew ht
    refine onPort_answers hport ?_
    subst ht
    exact if_pos ⟨hon, hmaster, hnew⟩
  case ppsOutNot =>
    intro s d hport hnot
    refine onPort_answers hport (if_neg ?_)
    rintro ⟨hon, hmaster, hnew⟩
    rcases hnot with h | h | h
    · simp [hon] at h
    · simp [hmaster] at h
    · exact h.not_gt hnew
  case timingSelf =>
    intro s d om hd hm hself
    refine onDie_answers hd ?_
    rw [hm]
    rcases hself with h | h
    · rw [h]
    · rw [h]
      exact if_pos rfl
  case timingNear =>
    intro s t u d m hd hm hother ht hu hnear
    refine onDie_answers hd ?_
    simp only [hm]
    rw [if_neg hother, ← ht, ← hu]
    simp only [hnear, if_true]
  case timingFar =>
    intro s t u w d m k diff hd hm hother ht hu hdiff hk hfar hstep
    refine onDie_answers hd ?_
    simp only [hm]
    rw [if_neg hother, ← ht, ← hu]
    simp only [← hdiff, hfar.not_ge, if_false, hk, hstep.not_ge]
  case mainsNot =>
    intro s d uhz hd hnot
    refine onDie_answers hd ?_
    cases hf : s.zcDie with
    | none => dsimp only
    | some f =>
      dsimp only
      refine if_pos ?_
      rcases hnot with h | h | h
      · simp [hf] at h
      · exact .inl h
      · exact .inr (.inl h)
  case mains =>
    intro s t d f uhz nominal dev ppm hd hf hmaster hfrom hok hnominal hdev hppm ht
    have hpos : 0 ≤ nominal := by
      rw [hnominal]
      split
      · omega
      · omega
    refine ⟨fun hbeyond hclear => ?_, fun hwithin hfault => ?_, fun hwithin hclear => ?_⟩
    · refine zcComparison_of_day hd hf hmaster hfrom hok hnominal hdev hppm ht ?_
      rw [if_pos hbeyond, if_neg (by simp [hclear])]
    · refine zcComparison_of_day hd hf hmaster hfrom hok hnominal hdev hppm ht ?_
      rw [if_neg (by omega), if_pos ⟨hwithin, hfault⟩]
    · refine zcComparison_of_day hd hf hmaster hfrom hok hnominal hdev hppm ht ?_
      rw [if_neg (by omega), if_neg (by simp [hclear])]

end Sys2Proof.Machine
end

section
/-! Power domains, Recess, brown-out, heat and PLLs (15_power_clocks_ageing R321 to R328, R334 to R339, R366). -/

namespace Sys2Proof.Machine

/-- What follows a save's commit: a reset or a recovery that has come meanwhile (R335, R336). -/
theorem saveCommit_of_saving {s t u : State} {d : Nat} {blocks : List Nat} {bs : List (List Nat)} (hL : s.isL d = true)
    (hsaving : s.saving d = true) (hjrn : (s.arc d).jrn = blocks :: bs)
    (ht : t = (((s.setArc d { s.arc d with saves := s.saveOf d blocks :: (s.arc d).saves }).putJrn d bs).jrnCheck d).putB d
      PWR_STAT_saved true)
    (hu : (if t.dies.any (fun e => (t.pwr e).resetWaits) then (if t.dies.any t.saving then t else t.resetAll)
           else if (t.pwr d).recovering then t.recover d else t) = u) :
    exec (.saveCommit d) s = .next (s.settle u) := by
  have hcommit : s.commitSave d = t := by
    rw [State.commitSave, hjrn, ht]
  refine onL_answers hL ?_
  rw [if_neg (by simp [hsaving, hjrn]), hcommit]
  exact hu

/-- Settles O34. -/
theorem powerCompletes : Obligations.PowerCompletes := by
  unfold Obligations.PowerCompletes
  refine ⟨?domains, ?domainsRefused, ?domainsUp, ?recessZero, ?recess, ?recessRefused, ?wake, ?warning, ?commitNot, ?commit, ?recovery,
    ?resetNot, ?reset, ?resetWaits, ?thermal, ?unlock, ?refLoss, ?refBack, ?refKept⟩
  case domains =>
    intro s t d v w hd hw hfree ht
    refine onDie_answers hd ?_
    subst hw
    dsimp only
    rw [hfree, ht]
    rfl
  case domainsRefused =>
    intro s d v w hd hw hbusy
    refine onDie_answers hd ?_
    subst hw
    dsimp only
    rw [hbusy]
    rfl
  case domainsUp =>
    intro s t d hd ht
    refine onDie_answers hd ?_
    rw [ht]
  case recessZero =>
    intro s d hd hzero
    exact onDie_answers hd (if_pos hzero)
  case recess =>
    intro s d hd hlevel hok
    refine onDie_answers hd ?_
    rw [if_neg hlevel, if_pos hok]
  case recessRefused =>
    intro s d hd hlevel hbad
    refine onDie_answers hd ?_
    rw [if_neg hlevel, if_neg (by simp [hbad]), State.pwrRefuse]
  case wake => exact fun s d src hd => onDie_of_lt hd
  case warning => exact fun s mv => rfl
  case commitNot =>
    intro s d hL hnot
    exact onL_answers hL (if_pos hnot)
  case commit =>
    intro s t d bs blocks hL hsaving hjrn ht
    refine ⟨fun hno hgo => ?_, fun hno hback => ?_, fun hwaits hmore => ?_, fun hwaits hlast => ?_⟩
    · refine saveCommit_of_saving hL hsaving hjrn ht ?_
      rw [hno, hgo]
      rfl
    · refine saveCommit_of_saving hL hsaving hjrn ht ?_
      rw [hno, hback]
      rfl
    · refine saveCommit_of_saving hL hsaving hjrn ht ?_
      rw [hwaits, hmore]
      rfl
    · refine saveCommit_of_saving hL hsaving hjrn ht ?_
      rw [hwaits, hlast]
      rfl
  case recovery => exact fun s mv => rfl
  case resetNot =>
    intro s mv hnone
    change onAll s _ = _
    rw [hnone]
    rfl
  case reset =>
    intro s mv d ds hlow hno
    change onAll s _ = _
    rw [hlow, hno]
    rfl
  case resetWaits =>
    intro s mv d ds hlow hwait
    change onAll s _ = _
    rw [hlow, hwait]
    rfl
  case thermal =>
    intro s t u v w d sensor tj hd hmin hmax ht hu hv hw
    have htj : max (-128) (min 127 tj) = tj := by omega
    refine onDie_answers hd ?_
    rw [htj]
    dsimp only
    rw [← ht, ← hu, ← hv, ← hw]
  case unlock =>
    intro s t d k f hd hf hlocked ht
    refine onDie_answers hd ?_
    rw [ht]
    rcases hf with ⟨rfl, rfl⟩ | ⟨rfl, rfl⟩ | ⟨rfl, rfl⟩
    · simp [hlocked]
    · simp [hlocked]
    · simp [hlocked]
  case refLoss => exact fun s => rfl
  case refBack =>
    intro s hlost
    change onAll s _ = _
    rw [hlost]
    rfl
  case refKept =>
    intro s hkept
    change onAll s _ = _
    rw [hkept]
    rfl

/-- Settles O35. -/
theorem marginCompletes : Obligations.MarginCompletes := by
  unfold Obligations.MarginCompletes
  refine ⟨?plan, ?noPlan, ?planNow, ?slack, ?avsFail, ?avsOff, ?avsEnable⟩
  case plan =>
    intro s d v hd hdue
    refine onDie_answers hd (if_pos ?_)
    simpa using hdue
  case noPlan =>
    intro s d v hd hdue hplanning
    refine onDie_answers hd (if_neg ?_)
    simp [hdue, hplanning]
  case planNow => exact fun s d hd => onDie_of_lt hd
  case slack =>
    intro s t d monitor slack hd ht
    refine ⟨fun hample => ?_, fun hshort hon hsound hbelow => ?_, fun hshort hfault hfull => ?_⟩
    · refine onDie_answers hd ?_
      rw [← ht]
      exact if_pos hample
    · refine onDie_answers hd ?_
      rw [← ht, if_neg hshort.not_ge, if_pos (by simp [hon, hsound, hbelow])]
    · refine onDie_answers hd ?_
      rw [← ht, if_neg hshort.not_ge, if_neg (by simp [hfault]), if_pos (by simp [hfault, hfull])]
  case avsFail =>
    intro s t d hd hon ht
    refine onDie_answers hd ?_
    rw [if_neg (by simp [hon]), ht]
  case avsOff =>
    intro s d hd hoff
    exact onDie_answers hd (if_pos hoff)
  case avsEnable => exact fun s d hd => onDie_of_lt hd

end Sys2Proof.Machine
end

section
/-! Bring-up and its commands (16_bringup_rollcall R345 to R355). -/

namespace Sys2Proof.Machine

/-- An L-die is a die of the package (R2). -/
theorem State.lt_nDies_of_isL {s : State} {d : Nat} (h : s.isL d = true) : d < s.nDies := by
  simp only [State.isL, decide_eq_true_eq] at h
  exact h.trans_le (Nat.le_add_right _ _)

/-- What the release of a die that takes part in the start of the package leads to, once a start is in progress (R346, R348, R354). -/
theorem resetRelease_of_start {s u v : State} {d : Nat} {fuseOk dramOk : Bool} (hd : d < s.nDies) (hstage : s.stage d = 0)
    (hfree : s.pkg.fenced.contains d = false) (halone : (s.bootDie d).alone = false) (hremedial : s.boot.remedial = 0)
    (hu : u = (s.release d).startBegin)
    (hv : (if !fuseOk then ((u.putB d LOCK_STAT_fuse_error true).raise d 12).fuseFault d
           else if (u.lock d).lc = 3 then u.fuseFault d
           else if u.boot.remedial ≠ 0 then (if d = u.monitorDie then u.remedialEnter d else u.remedialIdle d)
           else if d < 2 ∧ u.isL d = true ∧ dramOk = false then u.bootFail d 0x0904
           else if d = 0 then u.romBoot 0
           else u) = v) :
    exec (.resetRelease d false fuseOk dramOk) s = .next (s.settle v) := by
  refine onDie_answers hd ?_
  rw [if_neg (by rw [hfree]; simp [hstage])]
  simp only [Bool.false_and, Bool.false_eq_true, if_false, halone, release_boot, hremedial, ne_eq, not_true, false_and, or_false, true_or,
    and_true, ← hu]
  exact hv

/-- A sent image is judged by a die that waits for it in the start of the package (R346). -/
theorem bootImageMessage_of_sent {s u : State} {d bank : Nat} {i : Image} (hd : d < s.nDies) (hstage : s.stage d = 1)
    (hnone : (s.bootDie d).imageIn = false) (hremedial : s.boot.remedial = 0) (halone : (s.bootDie d).alone = false)
    (hother : d ≠ s.bootSource) (hup : 2 ≤ s.stage s.bootSource) (hsent : s.sentImage d = some (bank, i))
    (hu : (if !s.imageOk d i then s.bootFail d 0x0901 else if !i.mainOk then s.bootFail d 0x0902
           else (s.takeImage d bank i).measure1 d i) = u) :
    exec (.bootImageMessage d) s = .next (s.settle u) := by
  refine onDie_answers hd ?_
  simp only [halone, Bool.false_eq_true, if_false]
  rw [if_neg (by simp [hstage, hnone, hremedial, hother, hup.not_gt]), hsent]
  exact hu

/-- Settles O36. -/
theorem startUpCompletes : Obligations.StartUpCompletes := by
  unfold Obligations.StartUpCompletes
  refine ⟨?held, ?started, ?bootDie, ?badFuses, ?image, ?imageNot, ?l0Silent, ?silent, ?loaded, ?memory, ?restoring, ?online, ?bound,
    ?boundNot, ?restoredNot, ?restoreFailed, ?restored, ?alone, ?aloneNot, ?recoveredF, ?recoveredL, ?resetIdle, ?resetStart⟩
  case held =>
    intro s d p f m hd hheld
    exact onDie_answers hd (if_pos hheld)
  case started =>
    intro s t u d hd hother hstage hfree halone ht hremedial hu hlc hnormal
    subst ht
    refine resetRelease_of_start hd hstage hfree halone hremedial hu ?_
    rw [if_neg (by simp), if_neg hlc, if_neg (not_not_intro hnormal), if_neg (by simp), if_neg (by omega)]
  case bootDie =>
    intro s u hd hstage hfree halone hremedial hu hlc hnormal
    refine resetRelease_of_start hd hstage hfree halone hremedial hu ?_
    rw [if_neg (by simp), if_neg hlc, if_neg (not_not_intro hnormal), if_neg (by simp), if_pos rfl]
  case badFuses =>
    intro s u d m hd hstage hfree halone hremedial hu
    exact resetRelease_of_start hd hstage hfree halone hremedial hu (if_pos rfl)
  case image =>
    intro s d bank i hd hstage hnone hremedial halone hother hup hsent
    refine ⟨fun hok hmain => ?_, fun hbad => ?_, fun hok hbad => ?_⟩
    · refine bootImageMessage_of_sent hd hstage hnone hremedial halone hother hup hsent ?_
      rw [if_neg (by simp [hok]), if_neg (by simp [hmain])]
    · refine bootImageMessage_of_sent hd hstage hnone hremedial halone hother hup hsent ?_
      rw [if_pos (by simp [hbad]), bootFail_of_not_alone _ halone]
    · refine bootImageMessage_of_sent hd hstage hnone hremedial halone hother hup hsent ?_
      rw [if_neg (by simp [hok]), if_pos (by simp [hbad]), bootFail_of_not_alone _ halone]
  case imageNot =>
    intro s d hd hnot
    refine onDie_answers hd (if_pos ?_)
    rcases hnot with h | h | h
    · exact .inl h
    · exact .inr (.inl h)
    · exact .inr (.inr (.inl h))
  case l0Silent =>
    intro s hd hL hstage hnone
    refine ⟨fun hnormal => ?_, fun hremedial hidle => ?_⟩
    · refine onDie_answers hd ?_
      rw [if_pos ⟨rfl, hL, hstage, hnone⟩, if_neg (not_not_intro hnormal)]
    · refine onDie_answers hd ?_
      rw [if_pos ⟨rfl, hL, hstage, hnone⟩, if_pos hremedial, if_neg hidle]
  case silent =>
    intro s d hd hother hstart hstage halone hfree
    refine onDie_answers hd ?_
    rw [if_neg (by simp [hother]), if_pos (by rw [hfree]; simp [hstart, hstage, halone]), bootFail_of_not_alone _ halone]
  case loaded =>
    intro s d ok hd hstage
    exact onDie_answers hd (if_pos hstage)
  case memory =>
    intro s d hd hstage halone hall
    refine ⟨onDie_answers hd ?_, onDie_answers hd ?_⟩
    · rw [if_neg (by simp [hstage]), if_pos hstage, if_neg (by rw [hall]; simp)]
      exact if_neg (by simp)
    · rw [if_neg (by simp [hstage]), if_pos hstage, if_neg (by rw [hall]; simp), bootFail_of_not_alone _ halone]
      exact if_pos rfl
  case restoring =>
    intro s d ok hL hstage hno
    refine onDie_answers (State.lt_nDies_of_isL hL) ?_
    simp [hstage, hL, hno]
  case online =>
    intro s d ok hd hstage hformed
    refine onDie_answers hd ?_
    simp [hstage, hformed]
  case bound =>
    intro s d hd halone hremedial hdue
    refine onDie_answers hd ?_
    rw [if_neg (by simp [hremedial]), if_pos hdue, bootFail_of_not_alone _ halone]
  case boundNot =>
    intro s d hd hother hmemory
    refine onDie_answers hd ?_
    simp [hother, hmemory]
  case restoredNot =>
    intro s d ok hL hstage
    exact onL_answers hL (if_pos hstage)
  case restoreFailed =>
    intro s d ok hL hstage halone hbad
    refine onL_answers hL ?_
    rw [if_neg (not_not_intro hstage), if_pos, bootFail_of_not_alone _ halone]
    rcases hbad with h | h
    · simp [h]
    · simp [h]
  case restored =>
    intro s t u d l hL hstage hlayout ht hjoining hu hmore
    refine onL_answers hL ?_
    rw [if_neg (not_not_intro hstage), if_neg (by simp [hlayout]), ← ht]
    dsimp only
    rw [if_neg (not_not_intro hjoining), ← hu, if_neg (by simp [hmore])]
  case alone =>
    intro s d hL hstage hdue hunformed honline
    refine onL_answers hL ?_
    rw [if_pos ⟨hstage, hdue, hunformed⟩]
    exact if_pos honline
  case aloneNot =>
    intro s d hL hnot
    refine onL_answers hL (if_neg ?_)
    rintro ⟨hstage, _, hunformed⟩
    exact hnot.elim (· hstage) hunformed
  case recoveredF =>
    intro s d hd hstage hF
    refine onDie_answers hd ?_
    rw [if_neg (not_not_intro hstage), if_pos hF]
  case recoveredL =>
    intro s t d hd hstage hF ht
    refine onDie_answers hd ?_
    rw [if_neg (not_not_intro hstage), if_neg (by simp [hF]), ht]
  case resetIdle =>
    intro s hnone
    change onAll s _ = _
    rw [hnone]
    rfl
  case resetStart =>
    intro s hstart
    change onAll s _ = _
    rw [hstart]
    rfl

/-- A restart whose operand names a bank with an image above the fuses' security version (R354). -/
theorem restart_of_image {s t u v : State} {d n : Nat} {c : Cmd} {i : Image} (hd : d < s.nDies) (hcmd : s.nextCmd d 0x72 = some c)
    (hn : c.op 16 1 = n) (hmax : n ≤ 3) (himage : smGet s.boot.images (s.boot.bankOf n) = some i)
    (hsvn : (s.lock d).fuses.svn ≤ i.svn) (ht : t = (if s.stage d = 15 then s else s.saveAll).complete c.id 0)
    (hu : u = t.writeOut c.group (t.grp c.group).waiting.length)
    (hv : (u.setBoot { u.boot with named := if n = 0 then none else some (s.boot.bankOf n) }).resetAll = v) :
    exec (.restart d) s = .next (s.settle v) := by
  refine onDie_answers hd ?_
  subst hn
  rw [withCmd_some hcmd]
  dsimp only
  rw [if_neg hmax.not_gt, himage, if_neg hsvn.not_gt, ← ht, ← hu]
  exact hv

/-- Settles O37. -/
theorem startUpCommandsComplete : Obligations.StartUpCommandsComplete := by
  unfold Obligations.StartUpCommandsComplete
  refine ⟨?log, ?recoveryRefused, ?recovery, ?restart, ?restartBank, ?restartRefused, ?clear, ?clearRefused, ?diagnostic, ?diagnosticRefused,
    ?config, ?configRefused, ?readConfig⟩
  case log =>
    intro s d c hd hcmd
    refine onDie_answers hd ?_
    rw [withCmd_some hcmd]
  case recoveryRefused =>
    intro s d img c hd hcmd hidle
    refine ⟨fun hsize => onDie_answers hd ?_, fun hsome hmany hbad => onDie_answers hd ?_⟩
    · rw [withCmd_some hcmd, if_neg (by simp [hidle]), if_pos hsize]
    · rw [withCmd_some hcmd, if_neg (by simp [hidle]), if_neg (by omega), if_pos]
      rcases hbad with h | h
      · simp [h]
      · simp [h]
  case recovery =>
    intro s t d img c hd hcmd hidle hsome hmany hok hmain ht
    refine onDie_answers hd ?_
    rw [withCmd_some hcmd, if_neg (by simp [hidle]), if_neg (by omega), if_neg (by simp [hok, hmain]), ht]
  case restart =>
    intro s t u d c i hd hcmd hop himage ht hu
    refine ⟨fun hsvn => restart_of_image hd hcmd hop (by omega) himage hsvn ht hu rfl, fun hsvn => onDie_answers hd ?_⟩
    rw [withCmd_some hcmd, hop]
    dsimp only
    rw [if_neg (by omega), himage, if_pos hsvn]
  case restartBank =>
    intro s t u d n c i hd hcmd hop hmin hmax himage hsvn ht hu
    have hbank : s.boot.bankOf n = n - 1 := if_neg (by omega)
    refine restart_of_image hd hcmd hop hmax (hbank ▸ himage) hsvn ht hu ?_
    rw [hbank, if_neg (by omega)]
  case restartRefused =>
    intro s d c hd hcmd hop
    refine onDie_answers hd ?_
    rw [withCmd_some hcmd]
    exact if_pos hop
  case clear =>
    intro s t d c hd hcmd hsound ht
    refine onDie_answers hd ?_
    rw [withCmd_some hcmd]
    dsimp only
    rw [hsound, ← ht]
    rfl
  case clearRefused =>
    intro s d c hd hcmd hfault
    refine onDie_answers hd ?_
    rw [withCmd_some hcmd]
    exact if_pos hfault
  case diagnostic =>
    intro s t d corrected failed upOk c x hd hcmd hidle htest hup ht hx
    refine onDie_answers hd ?_
    rw [withCmd_some hcmd]
    dsimp only
    rw [if_neg (by simp [hidle]), if_neg (by simp [htest]), if_neg, ← ht, ← hx]
    rintro ⟨hremedial, hdown⟩
    simp [hremedial, hdown] at hup
  case diagnosticRefused =>
    intro s d corrected failed upOk c hd hcmd hidle htest
    refine onDie_answers hd ?_
    rw [withCmd_some hcmd]
    dsimp only
    rw [if_neg (by simp [hidle]), if_pos (by simp [htest])]
  case config =>
    intro s t d blob writes c hd hcmd hidle hsize hok ht
    refine onDie_answers hd ?_
    rw [withCmd_some hcmd, if_neg (by simp [hidle]), if_neg hsize.not_gt, if_neg (by simp [hok]), ht]
  case configRefused =>
    intro s d blob writes crcOk c hd hcmd hidle
    refine ⟨fun hsize => onDie_answers hd ?_, fun hsize hbad => onDie_answers hd ?_⟩
    · rw [withCmd_some hcmd, if_neg (by simp [hidle]), if_pos hsize]
    · rw [withCmd_some hcmd, if_neg (by simp [hidle]), if_neg hsize.not_gt, if_pos]
      rcases hbad with h | h
      · simp [h]
      · simp [h]
  case readConfig =>
    intro s d n c hd hcmd hn
    refine onDie_answers hd ?_
    subst hn
    rw [withCmd_some hcmd]

end Sys2Proof.Machine
end
